-- ==== Sys2Proof/Word.lean ====
section
/-! DEFINITION. The words of the HS-440: the character of the yard line and of the plug (R73, R187), the 16-bit
register of the check word (R190), and a timer. Everything else the manual counts is a whole number (Nat, Int). -/

namespace Sys2Proof

/-- One character's eight bits. -/
abbrev Byte := BitVec 8

/-- The check word's register (R190) and a set of alarm bits (11.2). -/
abbrev Word := BitVec 16

/-- What is left of a running timer in ms; `none` when it is stopped (log 3, log 4). -/
abbrev Timer := Option Nat

end Sys2Proof
end

