-- ==== Sys2Proof/Machine/Types.lean ====
section
/-! DEFINITION. The records and the sets of names the manual speaks of: what the commands carry and what State holds. -/

namespace Sys2Proof

/-! ## Names -/

/-- The four station states (R180). -/
inductive Station where
  | start | listen | run | fault
  deriving DecidableEq, Repr

/-- The two ways into START (R186). -/
inductive StartKind where
  | powerOn | restart
  deriving DecidableEq, Repr

/-- The six analogue inputs (2.1), in the order of the STATUS body (11.4). -/
inductive InputId where
  | crown | gauge | inletMain | district | gasTemp | barometer
  deriving DecidableEq, Repr

/-- The status of an input record (R27). -/
inductive InputStatus where
  | valid | held | invalid
  deriving DecidableEq, Repr

/-- The inlet or the outlet: a valve with its drive, and a meter. -/
inductive Side where
  | inlet | outlet
  deriving DecidableEq, Repr

/-- The two end switches of a valve (2.5). -/
inductive SwitchEnd where
  | openEnd | closedEnd
  deriving DecidableEq, Repr

/-- The states of a drive record (R42). -/
inductive DriveState where
  | isOpen | isClosed | opening | closing | fault
  deriving DecidableEq, Repr

/-- The commands of the movement controller (R42): OPEN, CLOSE, NONE. -/
inductive DriveCommand where
  | toOpen | toClose | none
  deriving DecidableEq, Repr

/-- The drive output (R42). -/
inductive DriveOutput where
  | towardOpen | towardClosed | notDriven
  deriving DecidableEq, Repr

/-- The key switch (2.4). -/
inductive KeyPosition where
  | auto | handRest | outOfService
  deriving DecidableEq, Repr

/-- The two roles. -/
inductive Role where
  | take | give
  deriving DecidableEq, Repr

/-- The cause of a held role (R107). -/
inductive Cause where
  | automatic | hand | limit
  deriving DecidableEq, Repr

/-- The duty a role set names (R108), and the duty of a HAND order (R129). -/
inductive Duty where
  | rest | take | give | float
  deriving DecidableEq, Repr

/-- The hand order held (R107): AUTO, or a hand duty. -/
inductive HandOrder where
  | auto | hand (d : Duty)
  deriving DecidableEq, Repr

/-- A call asks for one more member of a role, a release for one fewer (6.4). -/
inductive CallKind where
  | call | release
  deriving DecidableEq, Repr

/-- The zones (R53). -/
inductive Zone where
  | landed | low | working | high | top
  deriving DecidableEq, Repr

/-- The motion (R54). -/
inductive Motion where
  | still | rising | falling
  deriving DecidableEq, Repr

/-- The stock status (R20). -/
inductive StockStatus where
  | valid | doubtful | held | invalid
  deriving DecidableEq, Repr

/-- The modes of the pressure governor (R138). -/
inductive GovernorMode where
  | released | shut | ramping | governing | holding
  deriving DecidableEq, Repr

/-- The fourteen alarm kinds (R176), in the order of the alarm bits (11.2). -/
inductive AlarmKind where
  | inletValveFault | outletValveFault | limitGuard | liftMismatch | stockInvalid | balance | stillLoss
  | meterSilent | alone | clockLost | numberClash | txBlocked | retainedLost | configFault
  deriving DecidableEq, Repr

/-- The kinds of event entry (R157), in the order of their codes (11.3). -/
inductive EventKind where
  | handOrder | keyChange | valveFault | limitGuard | liftMismatch | stockHeld | stockInvalid | stillLoss
  | meterSilent | alone | clockLost | numberClash | restart | powerReturn
  deriving DecidableEq, Repr

/-- The kinds of message (4.2). -/
inductive MessageKind where
  | report | account | status | order
  deriving DecidableEq, Repr

/-- What closed a period (R166). -/
inductive CloseCause where
  | ownBoundary | peerMark
  deriving DecidableEq, Repr

/-- The line-idle state (R74). -/
inductive LineState where
  | busy | idle
  deriving DecidableEq, Repr

/-- The transmitter's states (4.5). -/
inductive TxState where
  | standby | waiting | sending | backOff
  deriving DecidableEq, Repr

/-- The halves of the retained store (R184). -/
inductive HalfId where
  | a | b
  deriving DecidableEq, Repr

/-- How an order is addressed (R173): to the station's own number or to all. -/
inductive Address where
  | own | all
  deriving DecidableEq, Repr

/-- The office recorder's orders with their parameters (R174, 11.5). -/
inductive Order where
  | hand (d : Duty)
  | auto | accept | restart | lineReset | quiet | talk
  | accountRequest (period : Nat)
  | statusRequest
  deriving DecidableEq, Repr

/-! ## The plug -/

/-- WATER-SEALED or WATERLESS (R1). -/
inductive HolderClass where
  | waterSealed | waterless
  deriving DecidableEq, Repr

/-- One lift of the lift table with its pressure band (R1). -/
structure Lift where
  area : Nat
  travel : Nat
  bandLow : Nat
  bandHigh : Nat
  deriving DecidableEq, Repr

/-- The settings of the configuration plug (R182, 11.6). -/
structure Settings where
  cls : HolderClass
  lifts : List Lift
  l0 : Nat
  lwl : Nat
  uwl : Nat
  tg : Nat
  pulseIn : Nat
  pulseOut : Nat
  travelLimit : Nat
  interval : Nat
  takeCall : Nat
  takeRelease : Nat
  stillLossLimit : Nat
  stagnationHours : Nat
  frostLevel : Int
  profile : List Nat
  gain : Nat
  lagStep : Nat
  boundaries : List Nat
  balanceLimit : Nat
  deriving DecidableEq, Repr

/-! ## Characters and frames -/

/-- One character as the line carries it (R73): its eight bits, its mark bit, and whether its stop bit is found. -/
structure LineChar where
  value : Byte
  mark : Bool
  stop : Bool
  deriving DecidableEq, Repr

/-- The mark characters that end a frame (R76). -/
inductive FrameEnd where
  | close | abort | opened
  deriving DecidableEq, Repr

/-- How a frame ended by CLOSE is judged (R77). -/
inductive Judgement where
  | badFrame
  | checkFail
  | valid (source destination : Nat) (kind : MessageKind) (body : List Byte)
  deriving DecidableEq, Repr

/-- A message of the transmit queue (R80): its kind and its body. -/
structure Message where
  kind : MessageKind
  body : List Byte
  deriving DecidableEq, Repr

/-- The message in flight (R80), and whether LINE RESET has condemned it (R91). -/
structure InFlight where
  msg : Message
  discard : Bool
  deriving DecidableEq, Repr

/-- The seven line counters (R90). -/
structure LineCounters where
  checkFail : Nat
  badFrame : Nat
  aborted : Nat
  collisions : Nat
  dropped : Nat
  foreignSource : Nat
  ordersRefused : Nat
  deriving DecidableEq, Repr

/-- All seven counters at 0 (R90). -/
def LineCounters.zero : LineCounters :=
  { checkFail := 0, badFrame := 0, aborted := 0, collisions := 0, dropped := 0, foreignSource := 0,
    ordersRefused := 0 }

/-! ## Accounts -/

/-- An event entry (R157). -/
structure EventEntry where
  kind : EventKind
  minute : Nat
  deriving DecidableEq, Repr

/-- The flags of a period (R152). -/
structure PeriodFlags where
  stockDoubtful : Bool
  balance : Bool
  meterSilent : Bool
  eventsLost : Bool
  accountsLost : Bool
  deriving DecidableEq, Repr

/-- The open period's number and accumulators (R152). -/
structure OpenPeriod where
  number : Option Nat
  openingStock : Nat
  openingStatus : StockStatus
  makeIn : Nat
  sendOut : Nat
  secRest : Nat
  secTake : Nat
  secGive : Nat
  secFloat : Nat
  peak : Nat
  lowest : Option Nat
  flags : PeriodFlags
  entries : List EventEntry
  deriving DecidableEq, Repr

/-- No period flag set. -/
def PeriodFlags.clear : PeriodFlags :=
  { stockDoubtful := false, balance := false, meterSilent := false, eventsLost := false, accountsLost := false }

/-- An unset period with every accumulator at 0 (R171; opening stock and status before the first record: log 21). -/
def OpenPeriod.unset : OpenPeriod :=
  { number := none, openingStock := 0, openingStatus := .invalid, makeIn := 0, sendOut := 0, secRest := 0,
    secTake := 0, secGive := 0, secFloat := 0, peak := 0, lowest := none, flags := .clear, entries := [] }

/-- A closed account record (R166). -/
structure AccountRecord where
  number : Nat
  cause : CloseCause
  minute : Nat
  openingStock : Nat
  openingStatus : StockStatus
  closingStock : Nat
  closingStatus : StockStatus
  makeIn : Nat
  sendOut : Nat
  unaccounted : Int
  minRest : Nat
  minTake : Nat
  minGive : Nat
  minFloat : Nat
  peak : Nat
  lowest : Option Nat
  flags : PeriodFlags
  entries : List EventEntry
  deriving DecidableEq, Repr

/-! ## The retained store -/

/-- What a half of the retained store copies (R184). -/
structure RetainedContents where
  list : List AccountRecord
  period : OpenPeriod
  inletResidue : Nat
  outletResidue : Nat
  cycles : Nat
  restTime : Nat
  minute : Nat
  deriving DecidableEq, Repr

/-- One half of the retained store (R184): contents, write count, check word. -/
structure StoreHalf where
  contents : RetainedContents
  writeCount : Nat
  checkWord : Word
  deriving DecidableEq, Repr

/-- What the read-back of a written half shows (R184): what was written, or something else, and then what the half
now holds (log 14). -/
inductive ReadBack where
  | asWritten
  | differs (now : Option StoreHalf)
  deriving DecidableEq, Repr

/-- What START finds when it reads the straps (R181), the plug (R182), the looped characters of the line test (R183;
`none`: every character as sent) and the read-back of a clearing write (R185). -/
structure StartReadings where
  straps : Nat
  plug : Option (List Byte)
  loop : Option (List LineChar)
  clearing : ReadBack
  deriving DecidableEq, Repr

end Sys2Proof
end

