-- ==== Sys2Proof/Syntax.lean ====
section
/-! DEFINITION. The commands of the station: one constructor for each row of spec/opcode_table.json, in its order, with
the operands the event carries (log 1). -/

namespace Sys2Proof

/-- One command. Each docstring names the row and the rule the row cites. -/
inductive Instr where
  /-- POWER_ON (R186), with what START reads. -/
  | powerOn (reads : StartReadings)
  /-- ENTRY_TO_LISTEN (R180), with the key position standing at the end of the first 1 s, if a single one is (R39). -/
  | entryToListen (key : Option KeyPosition)
  /-- LISTEN_TIMER_EXPIRY (R180). -/
  | listenTimerExpiry
  /-- RETAINED_WRITE_COMPLETE (R184), with the read-back, and what START would read were a restart waiting. -/
  | retainedWriteComplete (back : ReadBack) (reads : StartReadings)
  /-- INPUT_SAMPLE (R28): the input and its reading. -/
  | inputSample (input : InputId) (reading : Int)
  /-- HOLD_TIMER_EXPIRY (R30). -/
  | holdTimerExpiry (input : InputId)
  /-- METER_PULSE (R32). -/
  | meterPulse (meter : Side)
  /-- MINUTE_IMPULSE (R35). -/
  | minuteImpulse
  /-- IMPULSE_TIMER_EXPIRY (R36). -/
  | impulseTimerExpiry
  /-- ABSORB_WINDOW_EXPIRY (R36). -/
  | absorbWindowExpiry
  /-- SYNCHRONISING_IMPULSE (R37). -/
  | synchronisingImpulse
  /-- KEY_POSITION_TAKEN (R39). -/
  | keyPositionTaken (position : KeyPosition)
  /-- ACCEPT_BUTTON_PRESS (R40). -/
  | acceptButtonPress
  /-- ACCEPT_BUTTON_HELD (R40), with what START reads. -/
  | acceptButtonHeld (reads : StartReadings)
  /-- END_SWITCH_CHANGE (R41): one switch of one valve, made or dropped. -/
  | endSwitchChange (valve : Side) (which : SwitchEnd) (made : Bool)
  /-- TRAVEL_TIMER_EXPIRY (R45). -/
  | travelTimerExpiry (valve : Side)
  /-- RECKONING (R4). -/
  | reckoning
  /-- CARRIER_ON_LINE (R74). -/
  | carrierOnLine
  /-- LINE_IDLE (R74); `openTaken`: an OPEN has come that began a frame no command has reported (R76). -/
  | lineIdle (openTaken : Bool)
  /-- FRAME_RECEIVED (R77): the characters after OPEN, up to the mark that ends the frame, and what START would read
  were the frame to restart the station. -/
  | frameReceived (chars : List LineChar) (reads : StartReadings)
  /-- FRAME_COMPLETION (R83). -/
  | frameCompletion
  /-- COLLISION (R84). -/
  | collision
  /-- BACK_OFF_TIMER_EXPIRY (R84). -/
  | backOffTimerExpiry
  /-- BLOCKED_TIMER_EXPIRY (R86). -/
  | blockedTimerExpiry
  /-- REPORT_TIMER_EXPIRY (R88). -/
  | reportTimerExpiry
  /-- STALE_EXPIRY (R97) of a peer's entry. -/
  | staleExpiry (peer : Nat)
  /-- REMOVAL_EXPIRY (R98) of a peer's entry. -/
  | removalExpiry (peer : Nat)
  /-- CLASH_TIMER_EXPIRY (R101). -/
  | clashTimerExpiry
  /-- SILENCE_TIMER_EXPIRY (R103). -/
  | silenceTimerExpiry
  /-- CALL_RELEASE_TIMER_EXPIRY (R116). -/
  | callReleaseTimerExpiry (role : Role) (kind : CallKind)
  /-- JOIN_DELAY_EXPIRY (R121). -/
  | joinDelayExpiry (role : Role)
  /-- DWELL_TIMER_EXPIRY (R123). -/
  | dwellTimerExpiry (role : Role)
  /-- RELEARN_HOLD_TIMER_EXPIRY (R128). -/
  | relearnHoldTimerExpiry
  /-- STEP_TIMER_EXPIRY (R139). -/
  | stepTimerExpiry
  /-- HAND (R129): the order handed to the order and alarm unit, with its address and its duty. -/
  | hand (address : Address) (duty : Duty)
  /-- AUTO (R131). -/
  | auto (address : Address)
  /-- ACCEPT (R178). -/
  | accept (address : Address)
  /-- RESTART (R186), with what START reads. -/
  | restart (address : Address) (reads : StartReadings)
  /-- LINE_RESET (R91). -/
  | lineReset (address : Address)
  /-- QUIET (R87). -/
  | quiet (address : Address)
  /-- TALK (R87). -/
  | talk (address : Address)
  /-- ACCOUNT_REQUEST (R169): the period number asked for. -/
  | accountRequest (address : Address) (period : Nat)
  /-- STATUS_REQUEST (R175). -/
  | statusRequest (address : Address)
  /-- LOSS_OF_SUPPLY (R184). -/
  | lossOfSupply
  /-- ACCEPT_BUTTON_RELEASE (R40). -/
  | acceptButtonRelease
  deriving DecidableEq, Repr

end Sys2Proof
end

