-- ==== Sys2Proof/Config.lean ====
section
/-! DEFINITION. What is fixed in the station and not taken from the plug: the fixed times, in ms, each with its rule. The
manual leaves no value undefined after a step that goes on, so there is no free value here. -/

namespace Sys2Proof.Config

/-- Hold timer, 60 s (R27). -/
def holdTime : Nat := 60000
/-- Impulse timer, 70 s (R34). -/
def impulseTime : Nat := 70000
/-- Absorb window, 50 s (R34). -/
def absorbTime : Nat := 50000
/-- Accept button hold, 10 s (R40). -/
def buttonTime : Nat := 10000
/-- Reckoning timer, 10 s (R4). -/
def reckonTime : Nat := 10000
/-- Blocked timer, 5 s (R82). -/
def blockedTime : Nat := 5000
/-- Call time of calls and releases, 60 s (6.4). -/
def callTime : Nat := 60000
/-- Step of the join delay, 20 s (R119). -/
def joinStep : Nat := 20000
/-- Dwell, 300 s (R123). -/
def dwellTime : Nat := 300000
/-- Governor step, 2 s (R139). -/
def stepTime : Nat := 2000
/-- Unit of the back-off delay, 60 ms (R84). -/
def backOffUnit : Nat := 60
/-- Attempts of one message (R84). -/
def maxAttempts : Nat := 8
/-- The top of a counter (00, Counters). -/
def counterTop : Nat := 65535

end Sys2Proof.Config
end

