-- ==== Sys2Proof/Machine/Arith.lean ====
section
/-! DEFINITION. The station's arithmetic (00, Arithmetic, Counters and Period numbers) and the placing of numbers in
characters (R187). -/

namespace Sys2Proof

/-- Clamp x to a..b (00). -/
def clamp (lo hi x : Int) : Int := if x < lo then lo else if hi < x then hi else x

/-- A quotient rounded half up, by one division and one rounding (R17). -/
def roundHalfUp (n d : Nat) : Nat := n / d + (if d ≤ 2 * (n % d) then 1 else 0)

/-- A counter counted once; it stays at 65535 (00, Counters). -/
def countUp (n : Nat) : Nat := min (n + 1) Config.counterTop

/-- Serial comparison: n is ahead of m when (n − m) mod 65536 lies in 1..32767 (00, Period numbers). -/
def aheadOf (n m : Nat) : Bool :=
  let d := (n % 65536 + 65536 - m % 65536) % 65536
  decide (1 ≤ d ∧ d ≤ 32767)

/-- The period number after n: after 65535 comes 1 (00, Period numbers). -/
def nextPeriod (n : Nat) : Nat := if 65535 ≤ n then 1 else n + 1

/-- The write count after n: 65535 is followed by 0 (R184). -/
def nextWriteCount (n : Nat) : Nat := (n + 1) % 65536

/-- (b − m) mod 1440 for two minutes of day (R37, R163). -/
def minutesTo (b m : Nat) : Nat := (b % 1440 + 1440 - m % 1440) % 1440

/-- A number in `k` characters, high byte first (R187). -/
def toChars : Nat → Nat → List Byte
  | 0, _ => []
  | k + 1, n => BitVec.ofNat 8 (n / 256 ^ k) :: toChars k n

/-- A signed number in `k` characters, two's complement (R187). -/
def toCharsSigned (k : Nat) (x : Int) : List Byte := toChars k (x % (256 ^ k : Nat)).toNat

/-- The number some characters carry, high byte first (R187). -/
def ofChars (cs : List Byte) : Nat := cs.foldl (fun n c => n * 256 + c.toNat) 0

/-- The number in the `k` characters from an offset on; characters that are not there count as 0. -/
def fieldAt (cs : List Byte) (offset k : Nat) : Nat := ofChars ((cs.drop offset).take k)

/-- A character of flag bits, bit 0 first. -/
def packBits : List Bool → Nat
  | [] => 0
  | b :: bs => (if b then 1 else 0) + 2 * packBits bs

/-- Bit `i` of the character at an offset. -/
def bitAt (cs : List Byte) (offset i : Nat) : Bool := (fieldAt cs offset 1).testBit i

end Sys2Proof
end

