-- ==== Sys2Proof/Machine/Flags.lean ====
section
/-! DEFINITION. The codings of file 11: alarm bits, codes of the names the bodies carry, and the sets of alarm bits. -/

namespace Sys2Proof

/-- The alarm bit of a kind (11.2). -/
def AlarmKind.bit : AlarmKind → Nat
  | .inletValveFault => 0
  | .outletValveFault => 1
  | .limitGuard => 2
  | .liftMismatch => 3
  | .stockInvalid => 4
  | .balance => 5
  | .stillLoss => 6
  | .meterSilent => 7
  | .alone => 8
  | .clockLost => 9
  | .numberClash => 10
  | .txBlocked => 11
  | .retainedLost => 12
  | .configFault => 13

/-- The set of one kind. -/
def alarmBit (k : AlarmKind) : Word := 1#16 <<< k.bit

/-- A kind is in a set. -/
def hasAlarm (w : Word) (k : AlarmKind) : Bool := w.getLsbD k.bit

/-- A set with a kind entered. -/
def withAlarm (w : Word) (k : AlarmKind) : Word := w ||| alarmBit k

/-- A set with a kind removed. -/
def withoutAlarm (w : Word) (k : AlarmKind) : Word := w &&& ~~~ alarmBit k

/-- The code of an event entry's kind (11.3). -/
def EventKind.code : EventKind → Nat
  | .handOrder => 1
  | .keyChange => 2
  | .valveFault => 3
  | .limitGuard => 4
  | .liftMismatch => 5
  | .stockHeld => 6
  | .stockInvalid => 7
  | .stillLoss => 8
  | .meterSilent => 9
  | .alone => 10
  | .clockLost => 11
  | .numberClash => 12
  | .restart => 13
  | .powerReturn => 14

/-- The code of a message kind (4.2). -/
def MessageKind.code : MessageKind → Nat
  | .report => 1
  | .account => 2
  | .status => 3
  | .order => 8

/-- The message kind of a code (4.2). -/
def kindOfCode (n : Nat) : Option MessageKind :=
  if n = 1 then some .report else if n = 2 then some .account else if n = 3 then some .status
  else if n = 8 then some .order else none

/-- Stock status (11.2, offset 11). -/
def StockStatus.code : StockStatus → Nat
  | .valid => 0
  | .doubtful => 1
  | .held => 2
  | .invalid => 3

/-- Motion (11.2, offset 12). -/
def Motion.code : Motion → Nat
  | .still => 0
  | .rising => 1
  | .falling => 2

/-- Station state (11.4, offset 0); START is never shown. -/
def Station.code : Station → Nat
  | .start => 0
  | .listen => 1
  | .run => 2
  | .fault => 3

/-- Key position (11.4, offset 1). -/
def KeyPosition.code : KeyPosition → Nat
  | .auto => 0
  | .handRest => 1
  | .outOfService => 2

/-- Hand order, bits 0..2 (11.4, offset 2). -/
def HandOrder.code : HandOrder → Nat
  | .auto => 0
  | .hand .rest => 1
  | .hand .take => 2
  | .hand .give => 3
  | .hand .float => 4

/-- Input status (11.4, offset 22). -/
def InputStatus.code : InputStatus → Nat
  | .valid => 0
  | .held => 1
  | .invalid => 2

/-- Drive state (11.4, offset 28). -/
def DriveState.code : DriveState → Nat
  | .isOpen => 0
  | .isClosed => 1
  | .opening => 2
  | .closing => 3
  | .fault => 4

/-- Close cause (11.3, offset 5). -/
def CloseCause.code : CloseCause → Nat
  | .ownBoundary => 1
  | .peerMark => 2

/-- The flags of an account record (11.3, offset 38). -/
def PeriodFlags.code (f : PeriodFlags) : Nat :=
  packBits [f.stockDoubtful, f.balance, f.meterSilent, f.eventsLost, f.accountsLost]

/-- The duty that a role set names (R108). -/
def dutyOf (take give : Bool) : Duty :=
  match take, give with
  | false, false => .rest
  | true, false => .take
  | false, true => .give
  | true, true => .float

/-- A hand duty includes a role (R129). -/
def Duty.includes (d : Duty) (r : Role) : Bool :=
  match d, r with
  | .rest, _ => false
  | .take, .take => true
  | .take, .give => false
  | .give, .take => false
  | .give, .give => true
  | .float, _ => true

end Sys2Proof
end

