-- ==== Sys2Proof/Machine/Frames.lean ====
section
/-! DEFINITION. Characters, frames and the check word (R73, R75 to R77, R187, R190). -/

namespace Sys2Proof

/-! ## The check word (R190) -/

/-- One left shift of the register, with 0x1021 combined in when a 1 left the top. -/
def crcShift (r : Word) : Word := if r.getLsbD 15 then (r <<< 1) ^^^ 0x1021#16 else r <<< 1

/-- `k` left shifts. -/
def crcShifts : Nat → Word → Word
  | 0, r => r
  | k + 1, r => crcShifts k (crcShift r)

/-- One character taken: combined into the high eight bits, then eight shifts. -/
def crcChar (r : Word) (c : Byte) : Word := crcShifts 8 (r ^^^ (c.setWidth 16 <<< 8))

/-- The check word of some characters. -/
def checkWord (cs : List Byte) : Word := cs.foldl crcChar 0xFFFF#16

/-! ## Characters (R73) -/

/-- A data character. -/
def LineChar.data (b : Byte) : LineChar := { value := b, mark := false, stop := true }

/-- A mark character of a mark value. -/
def LineChar.markOf (v : Nat) : LineChar := { value := BitVec.ofNat 8 v, mark := true, stop := true }

/-- The mark that a frame ends at, if the character is one (R73, R76). -/
def LineChar.ending (c : LineChar) : Option FrameEnd :=
  if c.stop && c.mark then
    if c.value = 1#8 then some .opened else if c.value = 2#8 then some .close
    else if c.value = 3#8 then some .abort else none
  else none

/-! ## Frames sent (R75) -/

/-- The header and body of a frame, over which its check word is worked. -/
def headerAndBody (source destination kind : Nat) (body : List Byte) : List Byte :=
  [BitVec.ofNat 8 source, BitVec.ofNat 8 destination, BitVec.ofNat 8 kind, BitVec.ofNat 8 body.length] ++ body

/-- The characters of a frame in the order of the table of 4.2. -/
def frameChars (source destination kind : Nat) (body : List Byte) : List LineChar :=
  let covered := headerAndBody source destination kind body
  [LineChar.markOf 1] ++ (covered ++ toChars 2 (checkWord covered).toNat).map LineChar.data ++ [LineChar.markOf 2]

/-- A REPORT goes to all, an ACCOUNT or STATUS to the office recorder (R75). -/
def Message.destination (m : Message) : Nat :=
  match m.kind with
  | .report => 0
  | .account => 30
  | .status => 30
  | .order => 30

/-- The frame of a message sent by station `n` (R75). -/
def Message.frame (n : Nat) (m : Message) : List LineChar := frameChars n m.destination m.kind.code m.body

/-! ## Frames received (R76, R77) -/

/-- What the receiver gathers after an OPEN, up to the first mark that ends the frame: the data characters, whether a
bad mark or bad character was seen, and the ending, `none` while the frame is not ended (R76). -/
def gather : List LineChar → List Byte × Bool × Option FrameEnd
  | [] => ([], false, none)
  | c :: cs =>
    match c.ending with
    | some e => ([], false, some e)
    | none =>
      let (data, bad, e) := gather cs
      if c.stop && !c.mark then (c.value :: data, bad, e) else (data, true, e)

/-- The body lengths allowed for a kind (R187); `loopTest` allows the 16 characters of the line test's STATUS. -/
def lengthAllowed (loopTest : Bool) (kind : MessageKind) (len : Nat) : Bool :=
  match kind with
  | .report => len == 24
  | .account => len == 3 || (decide (39 ≤ len ∧ len ≤ 63) && (len - 39) % 3 == 0)
  | .status => len == 33 || (loopTest && len == 16)
  | .order => decide (1 ≤ len ∧ len ≤ 3)

/-- The judgement of a frame ended by CLOSE; the first line of R77's table that applies decides. -/
def judgeFrame (loopTest bad : Bool) (data : List Byte) : Judgement :=
  match data with
  | source :: destination :: kind :: len :: rest =>
    if bad || decide (64 < len.toNat) || rest.length != len.toNat + 2 then .badFrame
    else
      match kindOfCode kind.toNat with
      | none => .badFrame
      | some k =>
        if !lengthAllowed loopTest k len.toNat then .badFrame
        else
          let body := rest.take len.toNat
          if (checkWord (source :: destination :: kind :: len :: body)).toNat = ofChars (rest.drop len.toNat) then
            .valid source.toNat destination.toNat k body
          else .checkFail
  | _ => .badFrame

/-! ## The line test (R183) -/

/-- The test frame of START. -/
def testFrame (n : Nat) : List LineChar := frameChars n n 3 ((List.range 16).map (BitVec.ofNat 8))

/-- The characters after OPEN judge a valid frame, as the receiver judges the loop. -/
def loopJudgedValid (chars : List LineChar) : Bool :=
  match chars with
  | first :: rest =>
    first.ending == some .opened &&
      (match gather rest with
       | (data, bad, some .close) =>
         (match judgeFrame true bad data with
          | .valid _ _ _ _ => true
          | _ => false)
       | _ => false)
  | [] => false

/-- The line test passes: every character taken as sent, and the frame judged valid (R183). -/
def lineTestPasses (n : Nat) (loop : Option (List LineChar)) : Bool :=
  let heard := loop.getD (testFrame n)
  heard == testFrame n && loopJudgedValid heard

end Sys2Proof
end

