-- ==== Sys2Proof/Machine/State.lean ====
section
/-! DEFINITION. The state of the station, block by block as the manual divides it (file 00), and its value right after
a power-on, before START's first step. INVENTORY.md gives the rule and the reset value of every field. -/

namespace Sys2Proof.Machine

/-- Why a command would stop the machine. The manual names no such event (the station state FAULT is a state like the
others), so there is no constructor. -/
inductive Fault : Type
  deriving DecidableEq, Repr

/-- Why the model has no meaning for a command. -/
inductive Refusal : Type where
  /-- Raised by `exec`'s arm of a command whose meaning is not written. Safe: the model stops. No arm raises it. -/
  | notModelled (mnemonic : String)
  deriving DecidableEq, Repr

/-! ## INI -/

/-- An input record (R27). `sampled`: a sample has set the status since the last start. -/
structure InputRecord where
  reading : Int
  held : Option Int
  status : InputStatus
  hold : Timer
  sampled : Bool
  deriving DecidableEq, Repr

/-- The two end switches of one valve (R41). -/
structure Switches where
  openMade : Bool
  closedMade : Bool
  deriving DecidableEq, Repr

/-- The instrument interface (R27, R32, R34, R39 to R41). -/
structure Ini where
  crown : InputRecord
  gauge : InputRecord
  inletMain : InputRecord
  district : InputRecord
  gasTemp : InputRecord
  barometer : InputRecord
  inletCount : Nat
  outletCount : Nat
  minute : Nat
  impulse : Timer
  absorb : Timer
  selfRun : Nat
  synced : Bool
  key : KeyPosition
  keyTaken : Bool
  keyDefaulted : Bool
  button : Bool
  buttonHold : Timer
  inletSwitches : Switches
  outletSwitches : Switches
  deriving DecidableEq, Repr

/-! ## VDU -/

/-- A drive record (R42). -/
structure Drive where
  state : DriveState
  command : DriveCommand
  output : DriveOutput
  travel : Timer
  retry : Nat
  deriving DecidableEq, Repr

/-- The governor actuator output (R50). -/
inductive GovernorOutput where
  | released
  | driven (opening : Nat)
  deriving DecidableEq, Repr

/-- The valve drive unit (R42, R50). -/
structure Vdu where
  inlet : Drive
  outlet : Drive
  governor : GovernorOutput
  deriving DecidableEq, Repr

/-! ## SRK -/

/-- Which inputs were substituted (R3). -/
structure Substitutions where
  gauge : Bool
  gasTemp : Bool
  barometer : Bool
  deriving DecidableEq, Repr

/-- The stock record (R3). Its zone field is the movement controller's zone (log 25). -/
structure StockRecord where
  h : Nat
  liftsByHeight : Nat
  liftsByPressure : Nat
  gaugeUsed : Nat
  vRaw : Nat
  perMille : Nat
  stock : Nat
  factor : Nat
  status : StockStatus
  substituted : Substitutions
  deriving DecidableEq, Repr

/-- The stock reckoner (R3, R4). `graded`: a reckoning has graded the record since the last start (R24). -/
structure Srk where
  record : StockRecord
  heightAccepted : Bool
  graded : Bool
  timer : Timer
  deriving DecidableEq, Repr

/-! ## MVC -/

/-- The still-loss window (R64, R65). -/
structure LossWindow where
  startStock : Nat
  count : Nat
  deriving DecidableEq, Repr

/-- The movement controller (R51). -/
structure Mvc where
  zone : Zone
  lastHeight : Option Nat
  motion : Motion
  forcedGive : Bool
  topLeg : Bool
  landingLeg : Bool
  mismatchRun : Nat
  matchRun : Nat
  window : Option LossWindow
  lowSeen : Bool
  cycles : Nat
  restTime : Nat
  restSub : Nat
  turnoverDue : Bool
  frostTemp : Int
  deriving DecidableEq, Repr

/-! ## YLI -/

/-- The yard line interface (file 04). `reportDue`: a report trigger of the present event (log 8). -/
structure Yli where
  queue : List Message
  inFlight : Option InFlight
  tx : TxState
  attempt : Nat
  backOff : Timer
  blocked : Timer
  reportTimer : Timer
  reportDue : Bool
  line : LineState
  inFrame : Bool
  quiet : Bool
  counters : LineCounters
  deriving DecidableEq, Repr

/-! ## YSU -/

/-- A call or release timer (R116). -/
inductive CallTimer where
  | stopped
  | running (left : Nat)
  | active
  deriving DecidableEq, Repr

/-- A running join delay: what is left and the member count kept at its start (R119). -/
structure JoinDelay where
  left : Nat
  countKept : Nat
  deriving DecidableEq, Repr

/-- A peer table entry (R93); the age in ms. -/
structure PeerEntry where
  number : Nat
  fresh : Bool
  age : Nat
  period : Nat
  take : Bool
  give : Bool
  canTake : Bool
  canGive : Bool
  turnoverDue : Bool
  perMille : Nat
  cycles : Nat
  opening : Nat
  deriving DecidableEq, Repr

/-- What the yard sharing unit keeps for one role (R107). -/
structure RoleState where
  held : Option Cause
  able : Bool
  call : CallTimer
  release : CallTimer
  delay : Option JoinDelay
  dwell : Timer
  deriving DecidableEq, Repr

/-- The yard sharing unit (R92, R100, R102, R107). -/
structure Ysu where
  take : RoleState
  give : RoleState
  order : HandOrder
  effective : Bool
  relearn : Timer
  table : List PeerEntry
  clash : Timer
  silence : Timer
  deriving DecidableEq, Repr

/-! ## PGV, ACU, OAU, RST -/

/-- The pressure governor (R136). -/
structure Pgv where
  mode : GovernorMode
  opening : Nat
  step : Timer
  lowest : Option Nat
  deriving DecidableEq, Repr

/-- The last good stock (R160). -/
structure GoodStock where
  stock : Nat
  status : StockStatus
  deriving DecidableEq, Repr

/-- The meter-silent window (R158). -/
structure SilentWindow where
  startStock : Nat
  count : Nat
  pulses : Nat
  deriving DecidableEq, Repr

/-- The account unit (R152). `openingDue`: START cleared the store, and the opening stock
awaits the first record (R171). -/
structure Acu where
  list : List AccountRecord
  period : OpenPeriod
  inletResidue : Nat
  outletResidue : Nat
  slots : List Nat
  slot : Nat
  rate : Nat
  lastGood : Option GoodStock
  silentWindow : Option SilentWindow
  served : Option Nat
  openingDue : Bool
  deriving DecidableEq, Repr

/-- The order and alarm unit: its two sets, by the alarm bits of 11.2 (R176, R177). -/
structure Oau where
  current : Word
  latched : Word
  deriving DecidableEq, Repr

/-- A write in progress (R184): the half and what is being written. -/
structure StoreWrite where
  half : HalfId
  image : StoreHalf
  deriving DecidableEq, Repr

/-- The retained store (R184). A half is `none` when it holds no readable copy (log 14). -/
structure Rst where
  a : Option StoreHalf
  b : Option StoreHalf
  newest : HalfId
  writing : Option StoreWrite
  again : Bool
  restartDue : Bool
  deriving DecidableEq, Repr

/-! ## The station -/

/-- The whole station, and the queue of commands that wait. -/
structure State where
  supply : Bool
  station : Station
  startKind : StartKind
  stepsDone : Bool
  listenTimer : Timer
  number : Nat
  plug : Option Settings
  plugSum : Nat
  ini : Ini
  vdu : Vdu
  srk : Srk
  mvc : Mvc
  yli : Yli
  ysu : Ysu
  pgv : Pgv
  acu : Acu
  oau : Oau
  rst : Rst
  pending : List Instr
  deriving DecidableEq, Repr

/-! ## Values after power-on -/

/-- A cleared input record (R27; the reading and the status before a first sample: log 7). -/
def InputRecord.cleared : InputRecord :=
  { reading := 0, held := none, status := .invalid, hold := none, sampled := false }

/-- A drive record at power-on with neither switch made (R42). -/
def Drive.cleared : Drive :=
  { state := .closing, command := .none, output := .notDriven, travel := none, retry := 0 }

/-- The initial stock record (R3). -/
def StockRecord.initial : StockRecord :=
  { h := 0, liftsByHeight := 0, liftsByPressure := 0, gaugeUsed := 0, vRaw := 0, perMille := 0, stock := 0,
    factor := 65536, status := .invalid,
    substituted := { gauge := false, gasTemp := false, barometer := false } }

/-- The stock reckoner after a start (R3, R26). -/
def Srk.initial : Srk := { record := .initial, heightAccepted := false, graded := false, timer := none }

/-- The movement controller after a start, the store not yet read (R51); the cycle count and the rest time till then: log 40. -/
def Mvc.initial : Mvc :=
  { zone := .landed, lastHeight := none, motion := .still, forcedGive := false, topLeg := false, landingLeg := false,
    mismatchRun := 0, matchRun := 0, window := none, lowSeen := false, cycles := 0, restTime := 0, restSub := 0,
    turnoverDue := false, frostTemp := 150 }

/-- The yard line interface after a start (R74, R80, R82, R87, R88, R90). That the receiver then stands outside a frame (R76) is
the model's choice (log 7). -/
def Yli.initial : Yli :=
  { queue := [], inFlight := none, tx := .standby, attempt := 0, backOff := none, blocked := none,
    reportTimer := none, reportDue := false, line := .busy, inFrame := false, quiet := false,
    counters := .zero }

/-- A role not held, with no ability and every timer stopped (R107). -/
def RoleState.initial : RoleState :=
  { held := none, able := false, call := .stopped, release := .stopped, delay := none, dwell := none }

/-- The yard sharing unit after a start (R105, R107). -/
def Ysu.initial : Ysu :=
  { take := .initial, give := .initial, order := .auto, effective := false, relearn := none, table := [],
    clash := none, silence := none }

/-- The pressure governor after a start, the store not yet read (R136). That the lowest district pressure is absent then is the
model's choice (log 40). -/
def Pgv.initial : Pgv := { mode := .released, opening := 0, step := none, lowest := none }

/-- The account unit after a start, the store not yet read (R152, R171). What it holds then, and in a FAULT that START's first
three steps enter, is the model's choice (log 40). -/
def Acu.initial : Acu :=
  { list := [], period := .unset, inletResidue := 0, outletResidue := 0, slots := [], slot := 0, rate := 0,
    lastGood := none, silentWindow := none, served := none, openingDue := false }

/-- Both alarm sets empty (R179). -/
def Oau.initial : Oau := { current := 0#16, latched := 0#16 }

/-- The instrument interface after a start, before the store check, with the pins as they stand (R27, R32, R34, R39,
R41). `synced` is what becomes of CLOCK SYNCED (R186). -/
def Ini.initial (synced button : Bool) (inletSwitches outletSwitches : Switches) : Ini :=
  { crown := .cleared, gauge := .cleared, inletMain := .cleared, district := .cleared, gasTemp := .cleared,
    barometer := .cleared, inletCount := 0, outletCount := 0, minute := 0, impulse := none, absorb := none,
    selfRun := 0, synced := synced, key := .outOfService, keyTaken := false, keyDefaulted := false,
    button := button, buttonHold := none, inletSwitches := inletSwitches, outletSwitches := outletSwitches }

/-- The station right after a power-on, every block at its power-on values and START's first step not yet made
(log 6). -/
def State.reset : State :=
  { supply := true, station := .start, startKind := .powerOn, stepsDone := false, listenTimer := none, number := 0,
    plug := none, plugSum := 0,
    ini := .initial false false { openMade := false, closedMade := false } { openMade := false, closedMade := false },
    vdu := { inlet := .cleared, outlet := .cleared, governor := .released },
    srk := .initial, mvc := .initial, yli := .initial, ysu := .initial, pgv := .initial, acu := .initial,
    oau := .initial,
    rst := { a := none, b := none, newest := .a, writing := none, again := false, restartDue := false },
    pending := [] }

end Sys2Proof.Machine
end

