-- ==== Sys2Proof/Machine/Operands.lean ====
section
/-! DEFINITION. What the operands of the commands are read as: analogue readings and records (2.1), the plug (R182, R189,
11.6), order bodies (R188) and REPORT bodies (R93). -/

namespace Sys2Proof

/-! ## Analogue inputs -/

/-- The valid range of an input (2.1). -/
def InputId.range : InputId → Int × Int
  | .crown => (0, 65000)
  | .gauge => (0, 600)
  | .inletMain => (0, 1000)
  | .district => (0, 600)
  | .gasTemp => (-200, 500)
  | .barometer => (9000, 10800)

/-- A reading lies in the input's valid range. -/
def InputId.inRange (i : InputId) (r : Int) : Bool := decide (i.range.1 ≤ r ∧ r ≤ i.range.2)

namespace Machine

/-- The value an input gives: the present reading when VALID, the held value when HELD, none when INVALID or HELD with
no held value (R6, R31). -/
def InputRecord.value (r : InputRecord) : Option Int :=
  match r.status with
  | .valid => some r.reading
  | .held => r.held
  | .invalid => none

/-- The status as every reader takes it: HELD with no held value counts as INVALID (R6, R31). -/
def InputRecord.statusTaken (r : InputRecord) : InputStatus :=
  match r.status, r.held with
  | .held, none => .invalid
  | st, _ => st

/-- A sample of an input (R27, R28, R29). -/
def InputRecord.sample (i : InputId) (x : Int) (r : InputRecord) : InputRecord :=
  if i.inRange x then
    { reading := x, held := some x, status := .valid, hold := none, sampled := true }
  else if !r.sampled || r.status == .valid then
    { r with reading := x, status := .held, hold := some Config.holdTime, sampled := true }
  else { r with reading := x }

/-- The hold timer of a HELD input expires (R30). -/
def InputRecord.expire (r : InputRecord) : InputRecord :=
  if r.status == .held && r.hold.isSome then { r with status := .invalid, hold := none } else r

/-- The record of an input. -/
def Ini.input (n : Ini) : InputId → InputRecord
  | .crown => n.crown
  | .gauge => n.gauge
  | .inletMain => n.inletMain
  | .district => n.district
  | .gasTemp => n.gasTemp
  | .barometer => n.barometer

/-- The interface with one input record replaced. -/
def Ini.setInput (n : Ini) (i : InputId) (r : InputRecord) : Ini :=
  match i with
  | .crown => { n with crown := r }
  | .gauge => { n with gauge := r }
  | .inletMain => { n with inletMain := r }
  | .district => { n with district := r }
  | .gasTemp => { n with gasTemp := r }
  | .barometer => { n with barometer := r }

end Machine

/-! ## The lift table's derived figures (R2) -/

/-- The settings' figures while no plug is in use (log 24). -/
def Settings.blank : Settings :=
  { cls := .waterless, lifts := [], l0 := 0, lwl := 0, uwl := 0, tg := 0, pulseIn := 0, pulseOut := 0,
    travelLimit := 0, interval := 0, takeCall := 0, takeRelease := 0, stillLossLimit := 0, stagnationHours := 0,
    frostLevel := 0, profile := [], gain := 0, lagStep := 0, boundaries := [], balanceLimit := 0 }

/-- S_n, the total travel of some lifts (R2). -/
def totalTravel (lifts : List Lift) : Nat := (lifts.map Lift.travel).sum

/-- V_full_raw (R2). -/
def fullVolume (lifts : List Lift) : Nat := (lifts.map (fun l => l.area * l.travel)).sum

/-- mid_k of a band (R2). -/
def Lift.bandMid (l : Lift) : Nat := (l.bandLow + l.bandHigh) / 2

/-- The joints S_1 .. S_{n−1}, counted from a base (R61). -/
def joints : Nat → List Lift → List Nat
  | _, [] => []
  | _, [_] => []
  | base, l :: rest => (base + l.travel) :: joints (base + l.travel) rest

/-! ## The plug (R182, R189, 11.6) -/

/-- The plug check word: the sum, modulo 65536, of the characters at offsets 0..162 (R189). -/
def plugSumOf (cs : List Byte) : Nat := ((cs.take 163).map BitVec.toNat).sum % 65536

/-- Lift slot k of the plug, k counted from 0. -/
def plugLift (cs : List Byte) (k : Nat) : Lift :=
  { area := fieldAt cs (2 + 2 * k) 2, travel := fieldAt cs (10 + 2 * k) 2, bandLow := fieldAt cs (18 + 4 * k) 2,
    bandHigh := fieldAt cs (20 + 4 * k) 2 }

/-- The settings as the plug lays them out; slots above the counts are left out (R189). -/
def plugSettings (cs : List Byte) : Settings :=
  { cls := if fieldAt cs 0 1 = 1 then .waterSealed else .waterless,
    lifts := (List.range (min (fieldAt cs 1 1) 4)).map (plugLift cs),
    l0 := fieldAt cs 34 2, lwl := fieldAt cs 36 2, uwl := fieldAt cs 38 2, tg := fieldAt cs 40 2,
    pulseIn := fieldAt cs 42 1, pulseOut := fieldAt cs 43 1, travelLimit := fieldAt cs 44 1,
    interval := fieldAt cs 45 1, takeCall := fieldAt cs 46 2, takeRelease := fieldAt cs 48 2,
    stillLossLimit := fieldAt cs 50 2, stagnationHours := fieldAt cs 52 1,
    frostLevel := (BitVec.ofNat 8 (fieldAt cs 53 1)).toInt,
    profile := (List.range 48).map (fun i => fieldAt cs (54 + 2 * i) 2),
    gain := fieldAt cs 150 1, lagStep := fieldAt cs 151 1,
    boundaries := (List.range (min (fieldAt cs 152 1) 4)).map (fun i => fieldAt cs (153 + 2 * i) 2),
    balanceLimit := fieldAt cs 161 2 }

/-- Strictly ascending. -/
def ascending : List Nat → Bool
  | [] => true
  | [_] => true
  | a :: b :: rest => decide (a < b) && ascending (b :: rest)

/-- The tests of one lift (R182). -/
def Lift.valid (l : Lift) : Bool :=
  decide (1 ≤ l.area ∧ l.area ≤ 60000 ∧ 1 ≤ l.travel ∧ l.travel ≤ 65000 ∧ l.bandLow ≤ l.bandHigh ∧ l.bandHigh ≤ 600)

/-- The field tests of R182 that speak of the settings alone. -/
def Settings.valid (p : Settings) : Bool :=
  (match p.cls with
   | .waterSealed => decide (1 ≤ p.lifts.length ∧ p.lifts.length ≤ 4)
   | .waterless => p.lifts.length == 1) &&
  p.lifts.all Lift.valid && decide (totalTravel p.lifts ≤ 65000) &&
  decide (p.l0 < p.lwl ∧ p.lwl < p.uwl ∧ p.uwl < p.tg ∧ p.tg ≤ totalTravel p.lifts) &&
  decide (1 ≤ p.pulseIn ∧ p.pulseIn ≤ 100 ∧ 1 ≤ p.pulseOut ∧ p.pulseOut ≤ 100) &&
  decide (30 ≤ p.travelLimit ∧ p.travelLimit ≤ 240) && decide (20 ≤ p.interval ∧ p.interval ≤ 120) &&
  decide (p.takeCall ≤ 1000 ∧ p.takeRelease < p.takeCall) &&
  decide (10 ≤ p.stillLossLimit ∧ p.stillLossLimit ≤ 5000) &&
  decide (4 ≤ p.stagnationHours ∧ p.stagnationHours ≤ 72) && decide (-100 ≤ p.frostLevel ∧ p.frostLevel ≤ 100) &&
  p.profile.length == 48 && p.profile.all (fun x => decide (50 ≤ x ∧ x ≤ 300)) &&
  decide (1 ≤ p.gain ∧ p.gain ≤ 64) && decide (p.lagStep ≤ 50) &&
  decide (1 ≤ p.boundaries.length ∧ p.boundaries.length ≤ 4) && p.boundaries.all (fun b => decide (b ≤ 1439)) &&
  ascending p.boundaries && decide (1 ≤ p.balanceLimit ∧ p.balanceLimit ≤ 1000)

/-- The tests of the characters that the settings no longer show: class, lift count and boundary count as read. -/
def plugCountsValid (cs : List Byte) : Bool :=
  (fieldAt cs 0 1 == 1 || fieldAt cs 0 1 == 2) && decide (fieldAt cs 1 1 ≤ 4) && decide (fieldAt cs 152 1 ≤ 4)

/-- The plug as START reads it: absent unless 165 characters are read (R189). -/
def plugRead (plug : Option (List Byte)) : Option (List Byte) := plug.filter (fun cs => cs.length == 165)

/-- The plug check word kept, 0 when the plug is absent (R182). -/
def plugCheckWord (plug : Option (List Byte)) : Nat :=
  match plugRead plug with
  | some cs => plugSumOf cs
  | none => 0

/-- The settings taken into use, when the check word agrees and every test passes (R182). -/
def plugTaken (plug : Option (List Byte)) : Option Settings :=
  match plugRead plug with
  | some cs =>
    if plugSumOf cs == fieldAt cs 163 2 && plugCountsValid cs && (plugSettings cs).valid then some (plugSettings cs)
    else none
  | none => none

/-! ## Orders (R188, 11.5) -/

/-- The duty of a duty character (11.5). -/
def dutyOfCode (n : Nat) : Option Duty :=
  if n = 0 then some .rest else if n = 1 then some .take else if n = 2 then some .give
  else if n = 3 then some .float else none

/-- The order an ORDER body carries; characters beyond the order's length are ignored; `none`: refused (R188). -/
def orderOfBody (body : List Byte) : Option Order :=
  match body with
  | [] => none
  | code :: rest =>
    let c := code.toNat
    if c = 1 then (match rest with
      | d :: _ => (dutyOfCode d.toNat).map Order.hand
      | [] => none)
    else if c = 2 then some .auto else if c = 3 then some .accept else if c = 4 then some .restart
    else if c = 5 then some .lineReset else if c = 6 then some .quiet else if c = 7 then some .talk
    else if c = 8 then (match rest with
      | hi :: lo :: _ => some (.accountRequest (hi.toNat * 256 + lo.toNat))
      | _ => none)
    else if c = 9 then some .statusRequest else none

/-! ## Reports (R93, 11.2) -/

/-- The entry a REPORT body makes for a peer: FRESH, age 0, the contents as carried (R93, R94). -/
def entryOfReport (peer : Nat) (body : List Byte) : Machine.PeerEntry :=
  { number := peer, fresh := true, age := 0, period := fieldAt body 0 2, take := bitAt body 4 0,
    give := bitAt body 4 1, canTake := bitAt body 4 2, canGive := bitAt body 4 3, turnoverDue := bitAt body 5 0,
    perMille := fieldAt body 9 2, cycles := fieldAt body 16 2, opening := fieldAt body 18 2 }

end Sys2Proof
end

