-- ==== Sys2Proof/Machine/Ops.lean ====
section
/-! DEFINITION. The operations every block shares: the settings in use, alarm kinds (R176, R177), report triggers (R88),
event entries (R157), the transmit queue (R80, R81) and the transmitter's own moves (R82). -/

namespace Sys2Proof

/-- An entry into the open period's list; a ninth is not kept and sets EVENTS LOST. -/
def OpenPeriod.addEntry (p : OpenPeriod) (e : EventEntry) : OpenPeriod :=
  if p.entries.length < 8 then { p with entries := p.entries ++ [e] }
  else { p with flags := { p.flags with eventsLost := true } }

/-- VALID or DOUBTFUL. -/
def StockStatus.trusted : StockStatus → Bool
  | .valid => true
  | .doubtful => true
  | .held => false
  | .invalid => false

/-- The message is a REPORT. -/
def Message.isReport (m : Message) : Bool := m.kind == .report

end Sys2Proof

namespace Sys2Proof.Machine

/-! ## Station -/

/-- The settings in use (log 24). -/
def State.cfg (s : State) : Settings := s.plug.getD Settings.blank

/-- The report interval I, in ms. -/
def State.intervalMs (s : State) : Nat := s.cfg.interval * 1000

/-- LISTEN or RUN. -/
def State.working (s : State) : Bool := s.station == .listen || s.station == .run

/-- The strapped number is valid (R181). -/
def State.numberValid (s : State) : Bool := decide (1 ≤ s.number ∧ s.number ≤ 16)

/-- The station states in which the receiver judges frames, and in which sending is allowed (R79, R82). -/
def State.onLine (s : State) : Bool := s.working || (s.station == .fault && s.numberValid)

/-! ## Alarm kinds and report triggers -/

/-- A kind is current. -/
def State.isCurrent (s : State) (k : AlarmKind) : Bool := hasAlarm s.oau.current k

/-- A kind is latched. -/
def State.isLatched (s : State) (k : AlarmKind) : Bool := hasAlarm s.oau.latched k

/-- The alarm contact is closed while the latched set is not empty (R179). -/
def State.contactClosed (s : State) : Bool := s.oau.latched != 0#16

/-- A report trigger: it restarts the report timer, and the REPORT is built when the event's work is done (R88, log 8).
In START and FAULT it builds none. -/
def trigger (s : State) : State :=
  if s.working then { s with yli := { s.yli with reportDue := true, reportTimer := some s.intervalMs } } else s

/-- A kind enters the latched set; when newly latched it gives a report trigger (R177). -/
def latch (k : AlarmKind) (s : State) : State :=
  if s.isLatched k then s
  else trigger { s with oau := { s.oau with latched := withAlarm s.oau.latched k } }

/-- A kind becomes current (R176); when it is current already nothing changes. -/
def raise (k : AlarmKind) (s : State) : State :=
  if s.isCurrent k then s
  else latch k { s with oau := { s.oau with current := withAlarm s.oau.current k } }

/-- A kind ceases to be current (R176). -/
def cease (k : AlarmKind) (s : State) : State :=
  { s with oau := { s.oau with current := withoutAlarm s.oau.current k } }

/-- A momentary kind: made current and at once not, so it is only latched (R177). -/
def raiseMomentary (k : AlarmKind) (s : State) : State := latch k s

/-- ACCEPT removes from the latched set every kind that is not current (R178). -/
def acceptAlarms (s : State) : State :=
  { s with oau := { s.oau with latched := s.oau.latched &&& s.oau.current } }

/-! ## Event entries (R157) -/

/-- The account unit makes an entry with the minute of day as it stands, in LISTEN and RUN (file 08). -/
def makeEntry (k : EventKind) (s : State) : State :=
  if s.working then
    { s with acu := { s.acu with period := s.acu.period.addEntry { kind := k, minute := s.ini.minute } } }
  else s

/-- A condition becomes current with its event entry; when it is current already nothing changes. -/
def raiseWithEntry (k : AlarmKind) (e : EventKind) (s : State) : State :=
  if s.isCurrent k then s else makeEntry e (raise k s)

/-! ## The transmit queue (R80, R81) -/

/-- ACCOUNT and STATUS messages queued, and in flight. -/
def Yli.othersHeld (y : Yli) : Nat :=
  (y.queue.filter (fun m => !m.isReport)).length +
    (match y.inFlight with
     | some f => if f.msg.isReport then 0 else 1
     | none => 0)

/-- A REPORT is queued. -/
def Yli.reportQueued (y : Yli) : Bool := y.queue.any Message.isReport

/-- The free places of the transmit queue (R80). -/
def Yli.freePlaces (y : Yli) : Nat := 4 - (if y.reportQueued then 1 else 0) - y.othersHeld

/-- A REPORT offered: it replaces a queued REPORT in place, or joins the tail (R81). -/
def Yli.offerReport (body : List Byte) (y : Yli) : Yli :=
  let m : Message := { kind := .report, body := body }
  if y.reportQueued then { y with queue := y.queue.map (fun q => if q.isReport then m else q) }
  else { y with queue := y.queue ++ [m] }

/-- An ACCOUNT or STATUS offered: taken while fewer than three are held, else refused with DROPPED (R81). -/
def Yli.offerOther (m : Message) (y : Yli) : Yli :=
  if y.othersHeld < 3 then { y with queue := y.queue ++ [m] }
  else { y with counters := { y.counters with dropped := countUp y.counters.dropped } }

/-! ## The transmitter (R82) -/

/-- TX BLOCKED stands, or the blocked timer starts at each entry to WAITING (R82, R86). -/
def blockedStart (s : State) : Timer := if s.isCurrent .txBlocked then none else some Config.blockedTime

/-- WAITING, with the blocked timer (R82). -/
def enterWaiting (s : State) : State := { s with yli := { s.yli with tx := .waiting, blocked := blockedStart s } }

/-- STANDBY passes to WAITING when the queue is not empty, QUIET is clear and sending is allowed (R82). -/
def standbyToWaiting (s : State) : State :=
  if s.yli.tx = .standby ∧ s.yli.queue ≠ [] ∧ s.yli.quiet = false ∧ s.onLine = true then enterWaiting s else s

/-- In WAITING with the line IDLE the head goes into flight (R82); the station's sending is carrier (R74). -/
def Yli.beginFrame (y : Yli) : Yli :=
  if y.tx = .waiting ∧ y.line = .idle then
    match y.queue with
    | [] => y
    | m :: rest =>
      { y with queue := rest, inFlight := some { msg := m, discard := false }, blocked := none, tx := .sending,
               line := .busy, inFrame := false }
  else y

/-- The transmitter's moves at the end of an event. -/
def txSettle (s : State) : State :=
  let s1 := standbyToWaiting s
  { s1 with yli := s1.yli.beginFrame }

/-- After a frame, a drop or a back-off: WAITING if the queue is not empty and QUIET is not set, else STANDBY (R83 to
R85, R91). -/
def afterFrame (s : State) : State :=
  if s.yli.queue ≠ [] ∧ s.yli.quiet = false then enterWaiting s
  else { s with yli := { s.yli with tx := .standby, blocked := none } }

end Sys2Proof.Machine
end

