-- ==== Sys2Proof/Machine/Bodies.lean ====
section
/-! DEFINITION. The bodies the station builds: REPORT (R89, 11.2), ACCOUNT (R166, R169, 11.3) and STATUS (R175, 11.4);
and the end of every event, where a due REPORT is built and the transmitter moves (log 8). -/

namespace Sys2Proof.Machine

/-! ## REPORT -/

/-- The TAKE role is held. -/
def State.holdsTake (s : State) : Bool := s.ysu.take.held.isSome

/-- The GIVE role is held. -/
def State.holdsGive (s : State) : Bool := s.ysu.give.held.isSome

/-- Roles and abilities (11.2, offset 4). -/
def reportRoles (s : State) : Nat := packBits [s.holdsTake, s.holdsGive, s.ysu.take.able, s.ysu.give.able]

/-- The flags (11.2, offset 5). -/
def reportFlags (s : State) : Nat :=
  packBits [s.mvc.turnoverDue, s.ysu.order != .auto, s.ini.key == .outOfService, s.isCurrent .alone, s.ini.synced]

/-- The REPORT body from the state as it stands (R25, R89, 11.2). -/
def reportBody (s : State) : List Byte :=
  toChars 2 (s.acu.period.number.getD 0) ++ toChars 2 s.ini.minute ++ toChars 1 (reportRoles s) ++
  toChars 1 (reportFlags s) ++ toChars 3 s.srk.record.stock ++ toChars 2 s.srk.record.perMille ++
  toChars 1 s.srk.record.status.code ++ toChars 1 s.mvc.motion.code ++ toChars 1 s.srk.record.liftsByHeight ++
  toChars 2 s.srk.record.gaugeUsed ++ toChars 2 s.mvc.cycles ++ toChars 2 s.pgv.opening ++
  toChars 2 s.acu.rate ++ toChars 2 s.oau.latched.toNat

end Sys2Proof.Machine

/-! ## ACCOUNT -/

namespace Sys2Proof

/-- An event entry: its kind's code and its minute (11.3). -/
def EventEntry.chars (e : EventEntry) : List Byte := toChars 1 e.kind.code ++ toChars 2 e.minute

/-- The characters of a record and its entries, from offset 3 of the ACCOUNT body on (11.3); `cause` 0 in an OPEN
reply. -/
def AccountRecord.chars (r : AccountRecord) (cause : Nat) : List Byte :=
  toChars 2 r.number ++ toChars 1 cause ++ toChars 2 r.minute ++ toChars 3 r.openingStock ++
  toChars 1 r.openingStatus.code ++ toChars 3 r.closingStock ++ toChars 1 r.closingStatus.code ++
  toChars 3 r.makeIn ++ toChars 3 r.sendOut ++ toCharsSigned 4 r.unaccounted ++
  toChars 2 r.minRest ++ toChars 2 r.minTake ++ toChars 2 r.minGive ++ toChars 2 r.minFloat ++
  toChars 2 r.peak ++ toChars 2 (r.lowest.getD 65535) ++ toChars 1 r.flags.code ++
  (r.entries.map EventEntry.chars).flatten

/-- An ACCOUNT body of status CLOSED: the number asked and the record (11.3). -/
def accountClosedBody (r : AccountRecord) : List Byte :=
  toChars 1 1 ++ toChars 2 r.number ++ r.chars r.cause.code

/-- An ACCOUNT body of status ABSENT: the number asked and nothing else (R169). -/
def accountAbsentBody (asked : Nat) : List Byte := toChars 1 3 ++ toChars 2 asked

/-- The record that some figures of the open period make with a closing stock (R165, R166). The unaccounted gas is
opening stock + make-in − send-out − closing stock. -/
def OpenPeriod.recordWith (p : OpenPeriod) (number : Nat) (cause : CloseCause) (minute closingStock : Nat)
    (closingStatus : StockStatus) : AccountRecord :=
  { number := number, cause := cause, minute := minute, openingStock := p.openingStock,
    openingStatus := p.openingStatus, closingStock := closingStock, closingStatus := closingStatus,
    makeIn := p.makeIn, sendOut := p.sendOut,
    unaccounted := (p.openingStock : Int) + p.makeIn - p.sendOut - closingStock,
    minRest := p.secRest / 60, minTake := p.secTake / 60, minGive := p.secGive / 60, minFloat := p.secFloat / 60,
    peak := p.peak, lowest := p.lowest, flags := p.flags, entries := p.entries }

end Sys2Proof

namespace Sys2Proof.Machine

/-- An ACCOUNT body of status OPEN: the running figures laid out as a record, cause none (R169). -/
def accountOpenBody (asked : Nat) (s : State) : List Byte :=
  let r := s.acu.period.recordWith (s.acu.period.number.getD 0) .ownBoundary s.ini.minute s.srk.record.stock
    s.srk.record.status
  toChars 1 2 ++ toChars 2 asked ++ r.chars 0

/-- The reply to an ACCOUNT REQUEST: the record in the list, the open period, or ABSENT (R169). Where marks that jump round
the serial ring have put one number there twice, the oldest record of it answers: the model's choice (log 38). -/
def accountReplyBody (asked : Nat) (s : State) : List Byte :=
  match s.acu.list.find? (fun r => r.number == asked) with
  | some r => accountClosedBody r
  | none =>
    if asked = 0 ∨ s.acu.period.number = some asked then accountOpenBody asked s else accountAbsentBody asked

/-! ## STATUS -/

/-- The hand order with its PENDING bit (11.4, offset 2). -/
def statusOrder (y : Ysu) : Nat := y.order.code + (if y.order != .auto && !y.effective then 128 else 0)

/-- The seven line counters (11.4, offset 7). -/
def counterChars (c : LineCounters) : List Byte :=
  toChars 2 c.checkFail ++ toChars 2 c.badFrame ++ toChars 2 c.aborted ++ toChars 2 c.collisions ++
  toChars 2 c.dropped ++ toChars 2 c.foreignSource ++ toChars 2 c.ordersRefused

/-- The six input statuses as the records show them (11.4, offset 22; R31). -/
def inputChars (n : Ini) : List Byte :=
  toChars 1 n.crown.status.code ++ toChars 1 n.gauge.status.code ++ toChars 1 n.inletMain.status.code ++
  toChars 1 n.district.status.code ++ toChars 1 n.gasTemp.status.code ++ toChars 1 n.barometer.status.code

/-- The STATUS body from the state as it stands, before the reply is queued (R175, 11.4). -/
def statusBody (s : State) : List Byte :=
  toChars 1 s.station.code ++ toChars 1 s.ini.key.code ++ toChars 1 (statusOrder s.ysu) ++
  toChars 2 s.oau.current.toNat ++ toChars 2 s.oau.latched.toNat ++ counterChars s.yli.counters ++
  toChars 1 s.yli.freePlaces ++ inputChars s.ini ++ toChars 1 s.vdu.inlet.state.code ++
  toChars 1 s.vdu.outlet.state.code ++ toChars 1 (packBits [s.yli.quiet, s.isCurrent .alone]) ++
  toChars 2 s.plugSum

/-! ## The end of an event -/

/-- A due REPORT is built from the state as it stands and offered (R88, R89, log 8). -/
def flushReport (s : State) : State :=
  if s.yli.reportDue then { s with yli := s.yli.offerReport (reportBody s) } else s

/-- An ACCOUNT or STATUS message offered behind a REPORT already triggered (R81, log 8). -/
def offerMessage (m : Message) (s : State) : State :=
  let s1 := flushReport s
  { s1 with yli := s1.yli.offerOther m }

/-- The end of every event: a due REPORT is built, and the transmitter moves (log 8). -/
def finish (s : State) : State :=
  let s1 := flushReport s
  txSettle { s1 with yli := { s1.yli with reportDue := false } }

end Sys2Proof.Machine
end

