-- ==== Sys2Proof/Machine/Drives.lean ====
section
/-! DEFINITION. The drive records (R42 to R48) and the governor actuator output (R50), each as an operation on its own
record. `travel` is the travel limit t1 in ms. -/

namespace Sys2Proof.Machine

/-- The drive of a side. -/
def Vdu.drive (v : Vdu) : Side → Drive
  | .inlet => v.inlet
  | .outlet => v.outlet

/-- The unit with the drive of a side replaced. -/
def Vdu.setDrive (v : Vdu) (d : Side) (x : Drive) : Vdu :=
  match d with
  | .inlet => { v with inlet := x }
  | .outlet => { v with outlet := x }

/-- The switches of a side. -/
def Ini.switches (n : Ini) : Side → Switches
  | .inlet => n.inletSwitches
  | .outlet => n.outletSwitches

/-- The interface with the switches of a side replaced. -/
def Ini.setSwitches (n : Ini) (d : Side) (x : Switches) : Ini :=
  match d with
  | .inlet => { n with inletSwitches := x }
  | .outlet => { n with outletSwitches := x }

/-- The state of one switch. -/
def Switches.made (w : Switches) : SwitchEnd → Bool
  | .openEnd => w.openMade
  | .closedEnd => w.closedMade

/-- The switches after one of them changes. -/
def Switches.change (w : Switches) (e : SwitchEnd) (made : Bool) : Switches :=
  match e with
  | .openEnd => { w with openMade := made }
  | .closedEnd => { w with closedMade := made }

/-- The state that the switches give a drive at power-on and restart (R42). -/
def Switches.startState (w : Switches) : DriveState :=
  match w.openMade, w.closedMade with
  | true, true => .fault
  | true, false => .isOpen
  | false, true => .isClosed
  | false, false => .closing

/-- The drive record at power-on and restart (R42). -/
def Drive.atStart (w : Switches) : Drive :=
  { state := w.startState, command := .none, output := .notDriven, travel := none, retry := 0 }

/-- The kind of a side's drive (R176). -/
def valveFaultKind : Side → AlarmKind
  | .inlet => .inletValveFault
  | .outlet => .outletValveFault

/-- A new operation, or a reversal, toward open (R43). -/
def Drive.driveOpen (travel : Nat) (d : Drive) : Drive :=
  { d with state := .opening, output := .towardOpen, travel := some travel, retry := 0 }

/-- A new operation, or a reversal, toward closed (R43). -/
def Drive.driveClosed (travel : Nat) (d : Drive) : Drive :=
  { d with state := .closing, output := .towardClosed, travel := some travel, retry := 0 }

/-- The drive rests: output and timer stopped, retry count 0. -/
def Drive.rest (d : Drive) : Drive := { d with output := .notDriven, travel := none, retry := 0 }

/-- OPENING or CLOSING with the output driven and the timer running (R42). -/
def Drive.inOperation (d : Drive) : Bool :=
  (d.state == .opening || d.state == .closing) && d.output != .notDriven && d.travel.isSome

/-- The drive acts on its recorded command by its state (R43). -/
def Drive.act (travel : Nat) (d : Drive) : Drive :=
  match d.state, d.command with
  | .fault, _ => d
  | .isOpen, .toOpen => d.rest
  | .isOpen, .toClose => d.driveClosed travel
  | .isOpen, .none => d.rest
  | .isClosed, .toOpen => d.driveOpen travel
  | .isClosed, .toClose => d.rest
  | .isClosed, .none => d.rest
  | .opening, .toOpen => if d.inOperation then d else d.driveOpen travel
  | .opening, .toClose => d.driveClosed travel
  | .opening, .none => d.rest
  | .closing, .toOpen => d.driveOpen travel
  | .closing, .toClose => if d.inOperation then d else d.driveClosed travel
  | .closing, .none => d.rest

/-- A command: recorded in every case, then acted on (R43). -/
def Drive.take (travel : Nat) (c : DriveCommand) (d : Drive) : Drive := Drive.act travel { d with command := c }

/-- The drive enters FAULT (R45, R46). -/
def Drive.fail (d : Drive) : Drive := { d.rest with state := .fault }

/-- The operation completes at an end, or a drive comes to rest there (R44, R47). -/
def Drive.arrive (e : DriveState) (d : Drive) : Drive := { d.rest with state := e }

/-- The open switch's drive is off its end outside an operation: drift, or the released drive follows (R47). -/
def Drive.leaveOpen (travel : Nat) (d : Drive) : Drive :=
  match d.command with
  | .toOpen => d.driveOpen travel
  | .toClose => d.driveClosed travel
  | .none => { d.rest with state := .closing }

/-- The same from the closed end (R47). -/
def Drive.leaveClosed (travel : Nat) (d : Drive) : Drive :=
  match d.command with
  | .toClose => d.driveClosed travel
  | .toOpen => d.driveOpen travel
  | .none => { d.rest with state := .opening }

/-- A drive neither in FAULT nor in operation follows its switches (R47). -/
def Drive.follow (travel : Nat) (w : Switches) (d : Drive) : Drive :=
  match d.state with
  | .fault => d
  | .isOpen => if w.openMade then d else d.leaveOpen travel
  | .isClosed => if w.closedMade then d else d.leaveClosed travel
  | .opening => if w.openMade then d.arrive .isOpen else if w.closedMade then d.arrive .isClosed else d
  | .closing => if w.openMade then d.arrive .isOpen else if w.closedMade then d.arrive .isClosed else d

/-- The end switch of the target is the one made (R44). -/
def Drive.targetMade (w : Switches) (d : Drive) : Bool :=
  (d.state == .opening && w.openMade) || (d.state == .closing && w.closedMade)

/-- A change of the switches that leaves one switch, both or neither made (R44, R46, R47, R48). -/
def Drive.switched (travel : Nat) (w : Switches) (d : Drive) : Drive :=
  if w.openMade ∧ w.closedMade then (if d.state = .fault then d else d.fail)
  else if d.state = .fault then
    if w.openMade then (d.arrive .isOpen).act travel
    else if w.closedMade then (d.arrive .isClosed).act travel
    else d
  else if d.inOperation then
    if d.targetMade w then d.arrive (if d.state = .opening then .isOpen else .isClosed) else d
  else d.follow travel w

/-- The travel timer expires during an operation (R45). -/
def Drive.expire (travel : Nat) (d : Drive) : Drive :=
  if d.inOperation then
    if d.retry < 2 then { d with retry := d.retry + 1, travel := some travel } else d.fail
  else d

/-- The outlet drive leaves OPEN: a driven output becomes 0 (R50). -/
def GovernorOutput.shut : GovernorOutput → GovernorOutput
  | .released => .released
  | .driven _ => .driven 0

/-- A commanded opening (R50). -/
def GovernorOutput.commanded (outletOpen : Bool) (opening : Nat) : GovernorOutput :=
  .driven (if outletOpen then min opening 1000 else 0)

end Sys2Proof.Machine
end

