-- ==== Sys2Proof/Machine/Peers.lean ====
section
/-! DEFINITION. The peer table (R92 to R99) and the ranks, members and candidates worked from it (R112, R113). -/

namespace Sys2Proof.Machine

/-! ## The table (R92, R94, R97, R98) -/

/-- A report's entry goes in at the place its number gives it, replacing the entry of that number (R92, R94). -/
def enterPeer (e : PeerEntry) : List PeerEntry → List PeerEntry
  | [] => [e]
  | x :: xs =>
    if e.number < x.number then e :: x :: xs
    else if e.number = x.number then e :: xs
    else x :: enterPeer e xs

/-- The entry is a number's, and its age has reached a figure without a report (R97, R98). -/
def PeerEntry.reached (n age : Nat) (e : PeerEntry) : Bool := e.number == n && decide (age ≤ e.age)

/-- The entry of a number that has reached the stale age becomes STALE; its contents and its age are kept (R97). -/
def stalePeer (n age : Nat) (t : List PeerEntry) : List PeerEntry :=
  t.map (fun e => if e.reached n age then { e with fresh := false } else e)

/-- The entry of a number that has reached the removal age is removed, and those after it close up (R98). -/
def removePeer (n age : Nat) (t : List PeerEntry) : List PeerEntry := t.filter (fun e => !e.reached n age)

/-- The FRESH entries, which alone any reader uses (R96). -/
def freshPeers (t : List PeerEntry) : List PeerEntry := t.filter (fun e => e.fresh)

/-! ## Members and candidates (R112) -/

/-- The entry shows the role. -/
def PeerEntry.holds (e : PeerEntry) : Role → Bool
  | .take => e.take
  | .give => e.give

/-- The entry shows the ability for the role. -/
def PeerEntry.able (e : PeerEntry) : Role → Bool
  | .take => e.canTake
  | .give => e.canGive

/-- What the unit keeps for a role. -/
def Ysu.role (y : Ysu) : Role → RoleState
  | .take => y.take
  | .give => y.give

/-- The unit with what it keeps for a role replaced. -/
def Ysu.setRole (y : Ysu) (r : Role) (x : RoleState) : Ysu :=
  match r with
  | .take => { y with take := x }
  | .give => { y with give := x }

/-- The peers that are members of a role. -/
def peerMembers (r : Role) (t : List PeerEntry) : List PeerEntry := (freshPeers t).filter (fun e => e.holds r)

/-- The peers that are able non-members of a role. -/
def peerAbleNonMembers (r : Role) (t : List PeerEntry) : List PeerEntry :=
  (freshPeers t).filter (fun e => e.able r && !e.holds r)

/-- The own station holds the role. -/
def State.holds (s : State) (r : Role) : Bool := (s.ysu.role r).held.isSome

/-- The member count of a role, the own station included (R112). -/
def State.memberCount (s : State) (r : Role) : Nat :=
  (if s.holds r then 1 else 0) + (peerMembers r s.ysu.table).length

/-- The own station is an able non-member of the role (R112). -/
def State.ableNonMember (s : State) (r : Role) : Bool := (s.ysu.role r).able && !s.holds r

/-! ## Preference keys and ranks (R113) -/

/-- The figures a station is ranked by. -/
structure Figures where
  turnoverDue : Bool
  perMille : Nat
  cycles : Nat
  number : Nat
  deriving DecidableEq, Repr

/-- The own station's present figures. -/
def State.figures (s : State) : Figures :=
  { turnoverDue := s.mvc.turnoverDue, perMille := s.srk.record.perMille, cycles := s.mvc.cycles, number := s.number }

/-- A peer's figures, those of its last report. -/
def PeerEntry.figures (e : PeerEntry) : Figures :=
  { turnoverDue := e.turnoverDue, perMille := e.perMille, cycles := e.cycles, number := e.number }

/-- Cycle count ascending, then station number ascending. -/
def wearBefore (a b : Figures) : Bool :=
  decide (a.cycles < b.cycles) || (a.cycles == b.cycles && decide (a.number < b.number))

/-- One station stands before another under a role's preference key. -/
def standsBefore (r : Role) (a b : Figures) : Bool :=
  match r with
  | .take =>
    decide (a.perMille < b.perMille) || (a.perMille == b.perMille && wearBefore a b)
  | .give =>
    (a.turnoverDue && !b.turnoverDue) ||
      (a.turnoverDue == b.turnoverDue &&
        (decide (b.perMille < a.perMille) || (a.perMille == b.perMille && wearBefore a b)))

/-- The own station's rank, counted from 1, among itself and some peers. -/
def State.rankAmong (s : State) (r : Role) (peers : List PeerEntry) : Nat :=
  1 + (peers.filter (fun e => standsBefore r e.figures s.figures)).length

/-- The rank among the able non-members, for joining. -/
def State.joinRank (s : State) (r : Role) : Nat := s.rankAmong r (peerAbleNonMembers r s.ysu.table)

/-- The rank among the members, for leaving; among the givers also for lead and lag (R113, R140). -/
def State.memberRank (s : State) (r : Role) : Nat := s.rankAmong r (peerMembers r s.ysu.table)

end Sys2Proof.Machine
end

