-- ==== Sys2Proof/Machine/Governor.lean ====
section
/-! DEFINITION. The pressure governor: set point, mode, step, release and lowest district pressure (R136 to R149). -/

namespace Sys2Proof.Machine

/-- The outlet drive state is OPEN. -/
def State.outletOpen (s : State) : Bool := s.vdu.outlet.state == .isOpen

/-- The profile set point SP for the present minute of day (R137). -/
def State.setPoint (s : State) : Nat := s.cfg.profile.getD (s.ini.minute / 30) 0

/-- The effective set point, not floored at 0 (R140). -/
def State.effectiveSetPoint (s : State) : Int :=
  (s.setPoint : Int) - ((s.memberRank .give : Int) - 1) * s.cfg.lagStep

/-- The change of one governing step: e × gain / 16 truncated toward zero, then the slew limit (R141). -/
def governingChange (gain : Nat) (e : Int) : Int := clamp (-40) 40 ((e * gain).tdiv 16)

/-- The opening after a governing step (R141). -/
def governedOpening (gain opening : Nat) (e : Int) : Nat := (clamp 0 1000 (opening + governingChange gain e)).toNat

/-- The mode by R138's table; the first line that applies decides. -/
def modeOf (s : State) : GovernorMode :=
  if s.station ≠ .run ∨ s.ini.key = .outOfService then .released
  else if !s.holdsGive then .ramping
  else if !s.outletOpen then .shut
  else if s.ini.district.value.isNone then .holding
  else .governing

/-- The opening that a step in a mode works (R141 to R144). -/
def steppedOpening (s : State) (mode : GovernorMode) : Nat :=
  match mode with
  | .released => s.pgv.opening
  | .shut => 0
  | .ramping => if s.outletOpen then s.pgv.opening - 40 else 0
  | .holding => s.pgv.opening
  | .governing =>
    match s.ini.district.value with
    | some pd => governedOpening s.cfg.gain s.pgv.opening (s.effectiveSetPoint - pd)
    | none => s.pgv.opening

/-- A step in the mode that stands; the opening is commanded to the valve drive unit (R139, R142). -/
def governorStep (s : State) : State :=
  let o := steppedOpening s s.pgv.mode
  { s with pgv := { s.pgv with opening := o },
           vdu := { s.vdu with governor := GovernorOutput.commanded s.outletOpen o } }

/-- The release: output RELEASED, opening 0, step timer stopped (R145). -/
def releaseGovernor (s : State) : State :=
  { s with pgv := { s.pgv with mode := .released, opening := 0, step := none },
           vdu := { s.vdu with governor := .released } }

/-- The outlet drive leaves OPEN: opening and driven output become 0 at that moment (R50, R142). -/
def shutGovernor (s : State) : State :=
  { s with pgv := { s.pgv with opening := 0 }, vdu := { s.vdu with governor := s.vdu.governor.shut } }

/-- The mode judged afresh (R138); leaving RELEASED makes a step at once and starts the step timer (R139). -/
def judgeMode (s : State) : State :=
  let m := modeOf s
  if m = s.pgv.mode then s
  else if m = .released then releaseGovernor s
  else if s.pgv.mode = .released then
    governorStep { s with pgv := { s.pgv with mode := m, step := some Config.stepTime } }
  else { s with pgv := { s.pgv with mode := m } }

/-- A VALID sample of the district pressure followed in LISTEN and RUN; a new lowest goes to the account unit (R148). -/
def followLowest (s : State) : State :=
  if s.working ∧ s.ini.district.status = .valid then
    let x := s.ini.district.reading.toNat
    let lower := match s.pgv.lowest with
      | some y => decide (x < y)
      | none => true
    if lower then
      { s with pgv := { s.pgv with lowest := some x },
               acu := { s.acu with period := { s.acu.period with lowest := some x } } }
    else s
  else s

end Sys2Proof.Machine
end

