-- ==== Sys2Proof/Machine/Accounts.lean ====
section
/-! DEFINITION. The account unit (R152 to R172): takes, duty time, rate, the meter-silent check, boundaries, peer marks
and the close. The retained write after a close is begun here too (R184), as the store's operation of its own. -/

namespace Sys2Proof.Machine

/-! ## The retained store's writes (R184) -/

/-- The copy a write takes: each item as its owning block then holds it (R184). -/
def retainedContents (s : State) : RetainedContents :=
  { list := s.acu.list, period := s.acu.period, inletResidue := s.acu.inletResidue,
    outletResidue := s.acu.outletResidue, cycles := s.mvc.cycles, restTime := s.mvc.restTime,
    minute := s.ini.minute }

end Sys2Proof.Machine

namespace Sys2Proof

/-- The open-period accumulators in characters, for the check word of a half (log 13). -/
def OpenPeriod.chars (p : OpenPeriod) : List Byte :=
  toChars 2 (p.number.getD 0) ++ toChars 3 p.openingStock ++ toChars 1 p.openingStatus.code ++
  toChars 3 p.makeIn ++ toChars 3 p.sendOut ++ toChars 3 p.secRest ++ toChars 3 p.secTake ++
  toChars 3 p.secGive ++ toChars 3 p.secFloat ++ toChars 2 p.peak ++ toChars 2 (p.lowest.getD 65535) ++
  toChars 1 p.flags.code ++ toChars 1 p.entries.length ++ (p.entries.map EventEntry.chars).flatten

/-- The contents of a half in characters (log 13). -/
def RetainedContents.chars (c : RetainedContents) : List Byte :=
  toChars 1 c.list.length ++ (c.list.map (fun r => r.chars r.cause.code)).flatten ++ c.period.chars ++
  toChars 2 c.inletResidue ++ toChars 2 c.outletResidue ++ toChars 2 c.cycles ++ toChars 2 c.restTime ++
  toChars 2 c.minute

/-- The check word of a half: the CRC-16 over the contents and the write count (R184). -/
def halfCheckWord (c : RetainedContents) (writeCount : Nat) : Word := checkWord (c.chars ++ toChars 2 writeCount)

/-- A half as a write leaves it. -/
def StoreHalf.make (c : RetainedContents) (writeCount : Nat) : StoreHalf :=
  { contents := c, writeCount := writeCount, checkWord := halfCheckWord c writeCount }

/-- A half is good when its check word agrees (R185). -/
def StoreHalf.good (h : StoreHalf) : Bool := h.checkWord == halfCheckWord h.contents h.writeCount

/-- The other half. -/
def HalfId.other : HalfId → HalfId
  | .a => .b
  | .b => .a

namespace Machine

/-- What a half holds. -/
def Rst.half (r : Rst) : HalfId → Option StoreHalf
  | .a => r.a
  | .b => r.b

/-- The store with a half replaced. -/
def Rst.setHalf (r : Rst) (h : HalfId) (x : Option StoreHalf) : Rst :=
  match h with
  | .a => { r with a := x }
  | .b => { r with b := x }

/-- A write begins in LISTEN and RUN: to the half without the newer copy, with a write count one more than that copy's
(R184). While a write is in progress the next is made after it (log 12). -/
def beginWrite (s : State) : State :=
  if !s.working then s
  else if s.rst.writing.isSome then { s with rst := { s.rst with again := true } }
  else
    let count := match s.rst.half s.rst.newest with
      | some h => nextWriteCount h.writeCount
      | none => 1
    let w : StoreWrite := { half := s.rst.newest.other, image := StoreHalf.make (retainedContents s) count }
    { s with rst := { s.rst with writing := some w } }

/-! ## Takes (R153, R154) -/

/-- The corrected sum of a take, in 1/65536 scm: p × W × F + residue (R153). -/
def correctedSum (p w f residue : Nat) : Nat := p * w * f + residue

/-- The top of make-in and send-out (R152). -/
def scmTop : Nat := 16777215

/-- A take of both meters: the counts go to the account unit and are set to 0 (R33, R153, R156, R158). -/
def takeMeters (s : State) : State :=
  let f := s.srk.record.factor
  let inSum := correctedSum s.ini.inletCount s.cfg.pulseIn f s.acu.inletResidue
  let outSum := correctedSum s.ini.outletCount s.cfg.pulseOut f s.acu.outletResidue
  let window := s.acu.silentWindow.map (fun w => { w with pulses := min (w.pulses + s.ini.outletCount) 65535 })
  { s with
    ini := { s.ini with inletCount := 0, outletCount := 0 },
    acu := { s.acu with
      period := { s.acu.period with
        makeIn := min (s.acu.period.makeIn + inSum / 65536) scmTop,
        sendOut := min (s.acu.period.sendOut + outSum / 65536) scmTop },
      inletResidue := inSum % 65536, outletResidue := outSum % 65536,
      slot := s.acu.slot + outSum / 65536, silentWindow := window } }

/-! ## Duty time, rate and last good stock -/

/-- The top of a duty's seconds (R152). -/
def secondsTop : Nat := 3932100

/-- Ten seconds go to the duty that the role set names (R155). -/
def addDuty (d : Duty) (p : OpenPeriod) : OpenPeriod :=
  match d with
  | .rest => { p with secRest := min (p.secRest + 10) secondsTop }
  | .take => { p with secTake := min (p.secTake + 10) secondsTop }
  | .give => { p with secGive := min (p.secGive + 10) secondsTop }
  | .float => { p with secFloat := min (p.secFloat + 10) secondsTop }

/-- The rate window takes the current slot; rate and peak follow (R156). -/
def shiftRate (a : Acu) : Acu :=
  let joined := a.slots ++ [a.slot]
  let slots := joined.drop (joined.length - 36)
  let rate := min (slots.sum * 10) 65535
  { a with slots := slots, slot := 0, rate := rate, period := { a.period with peak := max a.period.peak rate } }

/-- The last good stock of a record graded VALID or DOUBTFUL (R160). -/
def keepGoodStock (r : StockRecord) (a : Acu) : Acu :=
  if r.status.trusted then { a with lastGood := some { stock := r.stock, status := r.status } } else a

/-- The first record after a cleared store gives the opening stock and status (R171). -/
def openOnRecord (r : StockRecord) (a : Acu) : Acu :=
  if a.openingDue then
    { a with openingDue := false,
             period := { a.period with openingStock := r.stock, openingStatus := r.status } }
  else a

/-! ## The meter-silent check (R158, R159) -/

/-- The conditions of a meter-silent window (R158). -/
def State.silentWindowHolds (s : State) : Bool :=
  s.working && s.vdu.inlet.state == .isClosed && s.srk.record.status.trusted

/-- A window starting now (R158). -/
def State.newSilentWindow (s : State) : SilentWindow := { startStock := s.srk.record.stock, count := 0, pulses := 0 }

/-- The window started or ended by its conditions (R158). -/
def judgeSilentWindow (s : State) : State :=
  if s.silentWindowHolds then
    if s.acu.silentWindow.isSome then s else { s with acu := { s.acu with silentWindow := some s.newSilentWindow } }
  else { s with acu := { s.acu with silentWindow := none } }

/-- The outlet is found silent (R159). -/
def foundSilent (s : State) (w : SilentWindow) : Bool :=
  decide (s.srk.record.stock + 5 * s.cfg.pulseOut < w.startStock) && w.pulses == 0

/-- The test of a window of sixty reckonings, and the new window (R159). -/
def testSilentWindow (w : SilentWindow) (s : State) : State :=
  let s1 := { s with acu := { s.acu with silentWindow := some s.newSilentWindow } }
  if foundSilent s w then
    raiseWithEntry .meterSilent .meterSilent
      { s1 with acu := { s1.acu with period := { s1.acu.period with
          flags := { s1.acu.period.flags with meterSilent := true } } } }
  else cease .meterSilent s1

/-- The window's reckoning at a new record, after the record's take (R158, R159). -/
def countSilentWindow (s : State) : State :=
  if s.silentWindowHolds then
    match s.acu.silentWindow with
    | none => judgeSilentWindow s
    | some w =>
      let w1 := { w with count := w.count + 1 }
      if 60 ≤ w1.count then testSilentWindow w1 s else { s with acu := { s.acu with silentWindow := some w1 } }
  else judgeSilentWindow s

/-- The account unit works a new stock record (R154 to R156, R158, R160, R171). -/
def accountRecord (s : State) : State :=
  let s1 := takeMeters s
  let a1 := shiftRate s1.acu
  let a2 := { a1 with period := addDuty (dutyOf s1.holdsTake s1.holdsGive) a1.period }
  let a3 := openOnRecord s1.srk.record (keepGoodStock s1.srk.record a2)
  countSilentWindow { s1 with acu := a3 }

/-! ## The close (R164 to R167) -/

/-- The closing stock and status, and whether they are doubtful (R164). -/
def closingStock (s : State) : Nat × StockStatus × Bool :=
  if s.srk.record.status.trusted then (s.srk.record.stock, s.srk.record.status, false)
  else
    match s.acu.lastGood with
    | some g => (g.stock, g.status, true)
    | none => (s.acu.period.openingStock, s.acu.period.openingStatus, true)

/-- The balance test fails (R165). -/
def balanceFails (limit : Nat) (unaccounted : Int) (makeIn sendOut : Nat) : Bool :=
  decide (limit * max (makeIn + sendOut) 1 < unaccounted.natAbs * 1000)

/-- A record joins the newest end of the list; a full list loses its oldest first (R166). -/
def appendRecord (r : AccountRecord) (list : List AccountRecord) : List AccountRecord :=
  (list.drop (list.length - 11)) ++ [r]

/-- The boundary served by a close on a peer mark: the nearest b with (b − m) mod 1440 in 0..30 (R163). -/
def servedBoundary (boundaries : List Nat) (m : Nat) : Option Nat :=
  boundaries.foldl (fun best b =>
    if minutesTo b m ≤ 30 then
      match best with
      | some c => if minutesTo b m < minutesTo c m then some b else some c
      | none => some b
    else best) none

/-- The new period, opened on the closing stock (R167). -/
def OpenPeriod.openedOn (number stock : Nat) (status : StockStatus) : OpenPeriod :=
  { OpenPeriod.unset with number := some number, openingStock := stock, openingStatus := status }

/-- A close of the open period `n` with a cause; `next` is the new period's number. One event: the take, the closing
stock, the balance, the record with its ACCOUNT message, the new period, the report trigger (R164 to R167), and the
retained write after it (R184). -/
def closePeriod (n : Nat) (cause : CloseCause) (next : Nat) (s : State) : State :=
  let s1 := takeMeters s
  let (stock, status, doubtful) := closingStock s1
  let unbalanced := balanceFails s1.cfg.balanceLimit
    ((s1.acu.period.openingStock : Int) + s1.acu.period.makeIn - s1.acu.period.sendOut - stock)
    s1.acu.period.makeIn s1.acu.period.sendOut
  let flags := { s1.acu.period.flags with
    stockDoubtful := s1.acu.period.flags.stockDoubtful || doubtful,
    balance := s1.acu.period.flags.balance || unbalanced }
  let s2 := if unbalanced then raiseMomentary .balance s1 else s1
  let r := { s1.acu.period with flags := flags }.recordWith n cause s1.ini.minute stock status
  let s3 := offerMessage { kind := .account, body := accountClosedBody r } s2
  let served := match cause with
    | .ownBoundary => none
    | .peerMark => servedBoundary s1.cfg.boundaries s1.ini.minute
  beginWrite (trigger { s3 with
    acu := { s3.acu with list := appendRecord r s3.acu.list, period := OpenPeriod.openedOn next stock status,
                         served := served },
    pgv := { s3.pgv with lowest := none } })

/-! ## Boundaries and peer marks (R161 to R163) -/

/-- A change of the minute of day reaches or passes some minutes forward, in LISTEN and RUN: the served boundary closes
nothing and is absent again; any other boundary among them closes once (R161, R163). -/
def passMinutes (minutes : List Nat) (s : State) : State :=
  if !s.working then s
  else
    let reached := s.cfg.boundaries.filter (fun b => minutes.contains b)
    let due := reached.filter (fun b => s.acu.served != some b)
    let s1 := match s.acu.served with
      | some b => if minutes.contains b then { s with acu := { s.acu with served := none } } else s
      | none => s
    match s1.acu.period.number with
    | some n => if due.isEmpty then s1 else closePeriod n .ownBoundary (nextPeriod n) s1
    | none => s1

/-- A backward jump closes nothing; the served boundary is absent again when it is then more than 30 minutes off
(R161, R163). -/
def jumpBack (s : State) : State :=
  match s.acu.served with
  | some b => if s.working ∧ 30 < minutesTo b s.ini.minute then { s with acu := { s.acu with served := none } } else s
  | none => s

/-- A peer's period number, not 0: adopted while the own is unset, a peer mark when ahead, else nothing (R162, R171). -/
def peerPeriod (p : Nat) (s : State) : State :=
  if p = 0 then s
  else
    match s.acu.period.number with
    | none => { s with acu := { s.acu with period := { s.acu.period with number := some p } } }
    | some n => if aheadOf p n then closePeriod n .peerMark p s else s

end Machine

end Sys2Proof
end

