-- ==== Sys2Proof/Machine/Stock.lean ====
section
/-! DEFINITION. The stock reckoner (R2, R5 to R24): the reckoning's formulas, each on its own figures, the reckoning
itself, and the grade of the record with its alarm kind and its event entries. -/

namespace Sys2Proof

/-! ## Height, volume and per-mille (R7, R8, R11, R12) -/

/-- n_h: the lifts whose base lies strictly below the height, counted from a base (R8). -/
def liftsByHeight (h : Nat) : Nat → List Lift → Nat
  | _, [] => 0
  | base, l :: rest => (if base < h then 1 else 0) + liftsByHeight h (base + l.travel) rest

/-- V_raw from a base on: each lift gives its area times the part of its travel below the height (R11). -/
def holderVolume (h : Nat) : Nat → List Lift → Nat
  | _, [] => 0
  | base, l :: rest => l.area * min (h - base) l.travel + holderVolume h (base + l.travel) rest

/-- The stock per-mille (R12). -/
def perMilleOf (v full : Nat) : Nat := v * 1000 / full

/-! ## Pressure and temperature (R10, R13 to R16, R19) -/

/-- The midpoint of the band of `k` floating lifts; band 1 when none floats (R10). -/
def bandMidFor (lifts : List Lift) (k : Nat) : Nat :=
  match lifts[k - 1]? with
  | some l => l.bandMid
  | none => 0

/-- The vapour pressures e_0 .. e_8 at 0, 5, .. 40 degrees (R13). -/
def vapourTable : List Nat := [61, 87, 123, 170, 234, 317, 424, 562, 738]

/-- e between two entries, the quotient rounded half up (R14). -/
def vapourAt (t : Nat) : Nat :=
  let i := t / 50
  vapourTable.getD i 0 + roundHalfUp ((vapourTable.getD (i + 1) 0 - vapourTable.getD i 0) * (t - 50 * i)) 50

/-- The vapour pressure e (R13, R14). -/
def vapourPressure (cls : HolderClass) (t : Int) : Nat :=
  match cls with
  | .waterless => 0
  | .waterSealed => if t < 0 then 61 else if 400 ≤ t then 738 else vapourAt t.toNat

/-- P_eff (R15). -/
def effectivePressure (pb pg e : Nat) : Nat := pb + pg - e

/-- K (R16). -/
def absoluteTemperature (t : Int) : Nat := (t + 2732).toNat

/-- The standard stock, one division and one rounding (R17). -/
def standardStock (v peff k : Nat) : Nat := roundHalfUp (v * peff * 2882) (10132 * k * 10000)

/-- The meter correction factor F (R18). -/
def correctionFactor (peff k : Nat) : Nat := roundHalfUp (peff * 2882 * 65536) (10132 * k)

/-- The smallest count whose band holds the pressure, counted on from `k`; 0 when none does (R19). -/
def liftsByPressure (pg : Nat) : Nat → List Lift → Nat
  | _, [] => 0
  | k, l :: rest => if l.bandLow ≤ pg ∧ pg ≤ l.bandHigh then k else liftsByPressure pg (k + 1) rest

namespace Machine

/-- The substitution set is not empty. -/
def Substitutions.any (x : Substitutions) : Bool := x.gauge || x.gasTemp || x.barometer

/-- The status of a record; the first line that applies (R20). -/
def gradeOf (crown : InputStatus) (mismatch : Bool) (subs : Substitutions) : StockStatus :=
  match crown with
  | .invalid => .invalid
  | .held => .held
  | .valid => if mismatch || subs.any then .doubtful else .valid

/-! ## The reckoning (R5) -/

/-- The accepted height: the crown height clamped to 0..S_n, or the last accepted height (R7). -/
def acceptedHeight (s : State) : Nat :=
  match s.ini.crown.value with
  | some x => (clamp 0 (totalTravel s.cfg.lifts) x).toNat
  | none => s.srk.record.h

/-- The inputs that a reckoning substitutes (R9, R10). -/
def substitutionsNow (s : State) : Substitutions :=
  { gauge := s.ini.gauge.value.isNone, gasTemp := s.ini.gasTemp.value.isNone,
    barometer := s.ini.barometer.value.isNone }

/-- T as taken or substituted (R6, R9). -/
def temperatureTaken (s : State) : Int := s.ini.gasTemp.value.getD 150

/-- Pb as taken or substituted (R6, R9). -/
def barometerTaken (s : State) : Nat := (s.ini.barometer.value.getD 10132).toNat

/-- Pg as taken or substituted for `k` floating lifts (R6, R10). -/
def gaugeTaken (s : State) (k : Nat) : Nat :=
  match s.ini.gauge.value with
  | some x => x.toNat
  | none => bandMidFor s.cfg.lifts k

/-- n_p for the Pg used (R19). A substituted Pg gives n_h, in a WATERLESS holder too. There, at h = 0, R19's two sentences
differ: n_h is 0, and the substitute mid_1 (R10) lies in band 1, which would give 1. That n_p is n_h, 0, is the model's choice
(log 42). -/
def pressureCount (s : State) (nh pg : Nat) : Nat :=
  if s.ini.gauge.value.isNone then nh else liftsByPressure pg 1 s.cfg.lifts

/-- The record that a reckoning now would make, in the order of R5. -/
def reckonedRecord (s : State) : StockRecord :=
  let lifts := s.cfg.lifts
  let h := acceptedHeight s
  let nh := liftsByHeight h 0 lifts
  let pg := gaugeTaken s nh
  let v := holderVolume h 0 lifts
  let t := temperatureTaken s
  let peff := effectivePressure (barometerTaken s) pg (vapourPressure s.cfg.cls t)
  let k := absoluteTemperature t
  { h := h, liftsByHeight := nh, liftsByPressure := pressureCount s nh pg, gaugeUsed := pg, vRaw := v,
    perMille := perMilleOf v (fullVolume lifts), stock := standardStock v peff k, factor := correctionFactor peff k,
    status := gradeOf s.ini.crown.statusTaken (s.isCurrent .liftMismatch) (substitutionsNow s),
    substituted := substitutionsNow s }

/-- The signals and the alarm kind of a change of status to a new one (R23, R24). -/
def signalGrade (st : StockStatus) (s : State) : State :=
  match st with
  | .valid => cease .stockInvalid s
  | .doubtful => cease .stockInvalid s
  | .held => makeEntry .stockHeld (cease .stockInvalid s)
  | .invalid => makeEntry .stockInvalid (raise .stockInvalid s)

/-- A reckoning: the new record replaces the old; its grade is signalled when it is another, or the first since the
start (R5, R7, R23, R24). The temperature is handed to the movement controller (R51). -/
def reckon (s : State) : State :=
  let r := reckonedRecord s
  let changed := !s.srk.graded || s.srk.record.status != r.status
  let s1 := { s with
    srk := { s.srk with record := r, graded := true,
                        heightAccepted := s.srk.heightAccepted || s.ini.crown.value.isSome },
    mvc := { s.mvc with frostTemp := temperatureTaken s } }
  if changed then signalGrade r.status s1 else s1

end Machine

end Sys2Proof
end

