-- ==== Sys2Proof/Machine/Movement.lean ====
section
/-! DEFINITION. The movement controller (R51 to R72): the work of a new record, the windows, the forced-give request and
the valve commands; the re-grade between reckonings (R21, R22); and what a change of a drive record brings about (R49). -/

namespace Sys2Proof

/-- The zone of a height (R53). -/
def zoneOf (p : Settings) (h : Nat) : Zone :=
  if h ≤ p.l0 then .landed else if h ≤ p.lwl then .low else if h < p.uwl then .working
  else if h < p.tg then .high else .top

/-- The motion from the last worked height (R54). -/
def motionOf (last : Option Nat) (h : Nat) : Motion :=
  match last with
  | none => .still
  | some x => if x + 20 < h then .rising else if h + 20 < x then .falling else .still

/-- A height lies in the cup band of some joint (R61). -/
def inCupBand (lifts : List Lift) (h : Nat) : Bool := (joints 0 lifts).any (fun j => decide (j ≤ h + 150 ∧ h ≤ j + 150))

/-- The stagnation limit in minutes (R70). -/
def stagnationLimit (p : Settings) (frost : Int) : Nat :=
  if frost ≤ p.frostLevel then p.stagnationHours * 60 / 2 else p.stagnationHours * 60

namespace Machine

/-- The travel limit t1, in ms. -/
def State.travelMs (s : State) : Nat := s.cfg.travelLimit * 1000

/-! ## Windows (R64 to R66) -/

/-- The conditions of a still-loss window (R64). -/
def State.lossWindowHolds (s : State) : Bool :=
  s.working && s.vdu.inlet.state == .isClosed && s.vdu.outlet.state == .isClosed && s.srk.record.status.trusted

/-- A still-loss window starting now (R64). -/
def State.newLossWindow (s : State) : LossWindow := { startStock := s.srk.record.stock, count := 0 }

/-- The still-loss window started or ended by its conditions (R64, R66). -/
def judgeLossWindow (s : State) : State :=
  if s.lossWindowHolds then
    if s.mvc.window.isSome then s else { s with mvc := { s.mvc with window := some s.newLossWindow } }
  else { s with mvc := { s.mvc with window := none } }

/-- The test of a window of 360 reckonings, and the new window (R65). -/
def testLossWindow (w : LossWindow) (s : State) : State :=
  let s1 := { s with mvc := { s.mvc with window := some s.newLossWindow } }
  if s.srk.record.stock + s.cfg.stillLossLimit < w.startStock then raiseWithEntry .stillLoss .stillLoss s1
  else cease .stillLoss s1

/-- The still-loss window at a new record (R52 step 5, R65). -/
def countLossWindow (s : State) : State :=
  if s.lossWindowHolds then
    match s.mvc.window with
    | none => judgeLossWindow s
    | some w =>
      let w1 := { w with count := w.count + 1 }
      if 360 ≤ w1.count then testLossWindow w1 s else { s with mvc := { s.mvc with window := some w1 } }
  else judgeLossWindow s

/-! ## The guards (R57 to R60) -/

/-- LIMIT GUARD follows its two legs (R60). -/
def judgeLimitGuard (s : State) : State :=
  if s.mvc.topLeg || s.mvc.landingLeg then raiseWithEntry .limitGuard .limitGuard s else cease .limitGuard s

/-- The forced-give request judged afresh (R57). -/
def judgeRequest (s : State) : State :=
  { s with mvc := { s.mvc with
      forcedGive := s.mvc.zone == .top && s.station == .run && s.ini.key != .outOfService &&
        s.vdu.outlet.state != .fault } }

/-! ## The steps of a new record (R52) -/

/-- Step 1, with the legs of step 3 that rest on the arrival: zone, motion, top leg, landing leg (R53, R54, R58,
R59). -/
def placeRecord (s : State) : State :=
  let h := s.srk.record.h
  let z := zoneOf s.cfg h
  let arrived := s.mvc.lastHeight.isNone || s.mvc.zone != z
  { s with mvc := { s.mvc with
      zone := z, motion := motionOf s.mvc.lastHeight h, lastHeight := some h, topLeg := z == .top,
      landingLeg := z == .landed && (s.mvc.landingLeg || (arrived && s.outletOpen)) } }

/-- A reckoning is matching (R61). -/
def liftsMatch (s : State) : Bool :=
  inCupBand s.cfg.lifts s.srk.record.h || s.srk.record.liftsByHeight == s.srk.record.liftsByPressure

/-- Step 2: the lift check, its runs and LIFT MISMATCH (R61 to R63). -/
def liftCheck (s : State) : State :=
  if s.cfg.cls = .waterSealed ∧ s.srk.record.status.trusted then
    if liftsMatch s then
      let run := min (s.mvc.matchRun + 1) 3
      let s1 := { s with mvc := { s.mvc with matchRun := run, mismatchRun := 0 } }
      if run = 3 then cease .liftMismatch s1 else s1
    else
      let run := min (s.mvc.mismatchRun + 1) 3
      let s1 := { s with mvc := { s.mvc with mismatchRun := run, matchRun := 0 } }
      if run = 3 then raiseWithEntry .liftMismatch .liftMismatch s1 else s1
  else s

/-- Step 6: the cycle count; a record whose crown height is INVALID neither completes nor begins a cycle (R68). -/
def countCycle (s : State) : State :=
  if s.srk.record.status = .invalid then s
  else if 750 ≤ s.srk.record.perMille ∧ s.mvc.lowSeen then
    { s with mvc := { s.mvc with cycles := countUp s.mvc.cycles, lowSeen := false } }
  else if s.srk.record.perMille ≤ 250 then { s with mvc := { s.mvc with lowSeen := true } }
  else s

/-- Step 7, first part: rest time, in RUN with an empty role set (R69). -/
def countRest (s : State) : State :=
  if s.station = .run ∧ s.holdsTake = false ∧ s.holdsGive = false then
    if 6 ≤ s.mvc.restSub + 1 then { s with mvc := { s.mvc with restSub := 0, restTime := countUp s.mvc.restTime } }
    else { s with mvc := { s.mvc with restSub := s.mvc.restSub + 1 } }
  else s

/-- Step 7, second part: turnover due (R70, R71). -/
def judgeTurnover (s : State) : State :=
  if s.working ∧ stagnationLimit s.cfg s.mvc.frostTemp ≤ s.mvc.restTime ∧ 100 ≤ s.srk.record.perMille then
    { s with mvc := { s.mvc with turnoverDue := true } }
  else s

/-- The movement controller works a new stock record; the commands of step 4 are given when the role set has been
settled on the record (R52, log 9). -/
def movementRecord (s : State) : State :=
  judgeTurnover (countRest (countCycle (countLossWindow (judgeLimitGuard (liftCheck (placeRecord s))))))

/-! ## The re-grade (R21, R22) -/

/-- The record re-graded between reckonings, in LISTEN and RUN, with the windows that rest on the status (R21, R22, R64,
R66, R158). -/
def regrade (s : State) : State :=
  if s.working ∧ s.srk.graded then
    let st := gradeOf s.ini.crown.statusTaken (s.isCurrent .liftMismatch) s.srk.record.substituted
    if st = s.srk.record.status then s
    else
      judgeSilentWindow (judgeLossWindow (signalGrade st
        { s with srk := { s.srk with record := { s.srk.record with status := st } } }))
  else s

/-! ## Changes of a drive record (R49) -/

/-- The VALVE FAULT kind and entry of a change of drive state (R45, R46, R48, R49). -/
def signalDrive (d : Side) (before after : DriveState) (s : State) : State :=
  if after = .fault ∧ before ≠ .fault then makeEntry .valveFault (raise (valveFaultKind d) s)
  else if before = .fault ∧ after ≠ .fault then cease (valveFaultKind d) s
  else s

/-- The landing leg ends when the outlet drive state becomes CLOSED (R59, R60). -/
def endLanding (s : State) : State := judgeLimitGuard { s with mvc := { s.mvc with landingLeg := false } }

/-- A drive record replaced, with everything a change of its state is handed to (R49, R50, R59, R64, R66, R158). -/
def putDrive (d : Side) (x : Drive) (s : State) : State :=
  let before := (s.vdu.drive d).state
  let s1 := { s with vdu := s.vdu.setDrive d x }
  if x.state = before then s1
  else
    let s2 := if d = .outlet ∧ before = .isOpen then shutGovernor s1 else s1
    let s3 := signalDrive d before x.state s2
    let s4 := if d = .outlet ∧ x.state = .isClosed then endLanding s3 else s3
    judgeSilentWindow (judgeLossWindow s4)

/-! ## The valve commands (R55, R56) -/

/-- The derived inlet command (R55). -/
def inletCommand (s : State) : DriveCommand :=
  if s.station ≠ .run ∨ s.ini.key = .outOfService then .none
  else if s.holdsTake ∧ (s.mvc.zone = .landed ∨ s.mvc.zone = .low ∨ s.mvc.zone = .working) ∧
      s.srk.record.status ≠ .invalid then .toOpen
  else .toClose

/-- The derived outlet command (R55). -/
def outletCommand (s : State) : DriveCommand :=
  if s.station ≠ .run ∨ s.ini.key = .outOfService then .none
  else if s.holdsGive ∧ (s.mvc.zone = .working ∨ s.mvc.zone = .high ∨ s.mvc.zone = .top) then .toOpen
  else .toClose

/-- A command is given to a drive when it differs from the one last given (R56, R43). -/
def giveCommand (d : Side) (c : DriveCommand) (s : State) : State :=
  if (s.vdu.drive d).command = c then s else putDrive d (Drive.take s.travelMs c (s.vdu.drive d)) s

/-- Both commands derived afresh and given (R56). -/
def deriveCommands (s : State) : State := giveCommand .outlet (outletCommand s) (giveCommand .inlet (inletCommand s) s)

end Machine

end Sys2Proof
end

