-- ==== Sys2Proof/Machine/Duty.lean ====
section
/-! DEFINITION. The yard sharing unit's choice of duty (R107 to R135): abilities, calls and releases, claims, standing
rules, the hand-off of the role set, and the one settling pass every event ends in (log 10, log 11). -/

namespace Sys2Proof.Machine

/-! ## Abilities (R110, R111) -/

/-- CAN_TAKE (R110). -/
def canTake (s : State) : Bool :=
  s.station == .run && s.ini.key == .auto &&
  (s.srk.record.status == .valid || (s.srk.record.status == .doubtful && !s.isCurrent .liftMismatch)) &&
  (s.mvc.zone == .landed || s.mvc.zone == .low || s.mvc.zone == .working) &&
  s.vdu.inlet.state != .fault && !s.isCurrent .numberClash

/-- CAN_GIVE (R111). -/
def canGive (s : State) : Bool :=
  s.station == .run && s.ini.key == .auto && s.srk.record.status != .invalid &&
  (s.mvc.zone == .working || s.mvc.zone == .high || s.mvc.zone == .top) &&
  s.vdu.outlet.state != .fault && s.ini.district.value.isSome && !s.isCurrent .numberClash

/-- Both abilities judged afresh (R110, R111). -/
def judgeAbilities (s : State) : State :=
  { s with ysu := { s.ysu with take := { s.ysu.take with able := canTake s },
                               give := { s.ysu.give with able := canGive s } } }

/-! ## Calls and releases (R114 to R116) -/

/-- The governor openings of the givers (R115). -/
def giverOpenings (s : State) : List Nat :=
  (if s.holdsGive then [s.pgv.opening] else []) ++ (peerMembers .give s.ysu.table).map PeerEntry.opening

/-- The take call's condition (R114). -/
def takeCallHolds (s : State) : Bool :=
  match s.ini.inletMain.value with
  | some p => decide ((s.cfg.takeCall : Int) ≤ p)
  | none => false

/-- The take release's condition (R114). -/
def takeReleaseHolds (s : State) : Bool :=
  match s.ini.inletMain.value with
  | some p => decide (p ≤ (s.cfg.takeRelease : Int) ∧ 2 ≤ s.memberCount .take)
  | none => false

/-- The opening leg of the give call (R115). -/
def openingLeg (s : State) : Bool := !(giverOpenings s).isEmpty && (giverOpenings s).all (fun o => decide (900 ≤ o))

/-- The district pressure leg of the give call (R115). -/
def pressureLeg (s : State) : Bool :=
  match s.ini.district.value with
  | some p => decide (p ≤ (s.setPoint : Int) - 20)
  | none => false

/-- The give release's condition (R115). -/
def giveReleaseHolds (s : State) : Bool :=
  decide (2 ≤ s.memberCount .give) && (giverOpenings s).all (fun o => decide (o ≤ 300))

/-- A condition holds, in RUN, where alone the timers run (R114 to R116). -/
def conditionHolds (s : State) (r : Role) (k : CallKind) : Bool :=
  s.station == .run &&
    (match r, k with
     | .take, .call => takeCallHolds s
     | .take, .release => takeReleaseHolds s
     | .give, .call => openingLeg s || pressureLeg s
     | .give, .release => giveReleaseHolds s)

/-- A timer judged by its condition: it starts when the condition comes to hold and stops when it ceases (R116). -/
def CallTimer.judge (holds : Bool) (t : CallTimer) : CallTimer :=
  if holds then
    match t with
    | .stopped => .running Config.callTime
    | .running left => .running left
    | .active => .active
  else .stopped

/-- A timer restarted: back to 0, running if its condition holds (R116). -/
def CallTimer.restarted (holds : Bool) : CallTimer := if holds then .running Config.callTime else .stopped

/-- A role's record replaced by what a function makes of it. -/
def updateRole (r : Role) (f : RoleState → RoleState) (s : State) : State :=
  { s with ysu := s.ysu.setRole r (f (s.ysu.role r)) }

/-- A role's two timers judged (R116). -/
def judgeTimers (r : Role) (s : State) : State :=
  updateRole r (fun x => { x with call := CallTimer.judge (conditionHolds s r .call) x.call,
                                  release := CallTimer.judge (conditionHolds s r .release) x.release }) s

/-- A role's two timers restarted (R116). -/
def restartTimers (r : Role) (s : State) : State :=
  updateRole r (fun x => { x with call := CallTimer.restarted (conditionHolds s r .call),
                                  release := CallTimer.restarted (conditionHolds s r .release) }) s

/-- A role's release timer restarted (R116). -/
def restartRelease (r : Role) (s : State) : State :=
  updateRole r (fun x => { x with release := CallTimer.restarted (conditionHolds s r .release) }) s

/-! ## Automatic changes (R117 to R122) -/

/-- An automatic change to a role is permitted (R117). -/
def permitted (s : State) (r : Role) : Bool :=
  s.station == .run && s.ini.key == .auto && s.ysu.order == .auto && !s.isCurrent .alone && s.ysu.relearn.isNone &&
  !s.isCurrent .numberClash && (s.ysu.role r).dwell.isNone

/-- A running join delay stops when its call is not active, the station is no able non-member, or the change is not
permitted; a rise of the member count has restarted the call (R116, R120). -/
def judgeDelay (r : Role) (s : State) : State :=
  if (s.ysu.role r).call = .active ∧ s.ableNonMember r = true ∧ permitted s r = true then s
  else updateRole r (fun x => { x with delay := none }) s

/-- The four timers and the two delays judged afresh. -/
def judgeCalls (s : State) : State := judgeDelay .give (judgeDelay .take (judgeTimers .give (judgeTimers .take s)))

/-- A role set's change for one role: the dwell starts, the delay ends and the role's timers restart (R108, R116). -/
def changeRole (r : Role) (held : Option Cause) (s : State) : State :=
  restartTimers r (updateRole r (fun x => { x with held := held, delay := none, dwell := some Config.dwellTime }) s)

/-- Join with cause AUTOMATIC. -/
def joinRole (r : Role) (s : State) : State := changeRole r (some .automatic) s

/-- Leave. -/
def leaveRole (r : Role) (s : State) : State := changeRole r none s

/-- R118: no member, and rank 1 among the able non-members. -/
def noMemberJoin (s : State) (r : Role) : Bool :=
  s.ableNonMember r && s.memberCount r == 0 && s.joinRank r == 1

/-- R119: an active call finds an able non-member with no delay running. -/
def callJoin (s : State) (r : Role) : Bool :=
  s.ableNonMember r && (s.ysu.role r).call == .active && (s.ysu.role r).delay.isNone

/-- R122: an active release finds an AUTOMATIC member of last rank. -/
def releaseLeave (s : State) (r : Role) : Bool :=
  (s.ysu.role r).release == .active && (s.ysu.role r).held == some .automatic && s.memberRank r == s.memberCount r

/-- A join delay of (rank − 1) × 20 s with the member count kept; a delay of 0 s runs out at once (R119, R121). -/
def startDelay (r : Role) (s : State) : State :=
  if s.joinRank r ≤ 1 then joinRole r s
  else updateRole r (fun x => { x with
    delay := some { left := (s.joinRank r - 1) * Config.joinStep, countKept := s.memberCount r } }) s

/-- The standing rules of one role (R117 to R119, R122). -/
def standingRules (r : Role) (s : State) : State :=
  if permitted s r then
    if noMemberJoin s r then joinRole r s
    else if callJoin s r then startDelay r s
    else if releaseLeave s r then leaveRole r s
    else s
  else s

/-! ## Claims (R109, R124 to R126, R130 to R133) -/

/-- A role is suppressed by zone or fault (R109, claim 5). -/
def suppressed (s : State) (r : Role) : Bool :=
  match r with
  | .take =>
    s.mvc.zone == .high || s.mvc.zone == .top || s.vdu.inlet.state == .fault || s.isCurrent .liftMismatch ||
      s.srk.record.status == .invalid
  | .give => s.mvc.zone == .landed || s.mvc.zone == .low || s.vdu.outlet.state == .fault

/-- The forced-give request adds GIVE with cause LIMIT (R109, claim 6). -/
def forcedLimit (s : State) (r : Role) : Bool := r == .give && s.mvc.forcedGive

/-- What claims 7 and 8 leave of a role: the hand duty, or the role as held, then with cause AUTOMATIC (R125, R130,
R131). -/
def ownClaim (s : State) (r : Role) : Option Cause :=
  match s.ysu.effective, s.ysu.order with
  | true, .hand d => if d.includes r then some .hand else none
  | _, _ => (s.ysu.role r).held.map (fun _ => Cause.automatic)

/-- What the strongest claims that apply leave of a role (R109). -/
def claimOf (s : State) (r : Role) : Option Cause :=
  if s.station ≠ .run ∨ s.ini.key = .outOfService then none
  else if s.ini.key = .handRest ∨ s.isCurrent .numberClash = true then (if forcedLimit s r then some .limit else none)
  else if suppressed s r then none
  else if forcedLimit s r then some .limit
  else ownClaim s r

/-- A role set by its claims: a join or a leave, or a change of cause alone (R108, R109). -/
def applyClaim (r : Role) (s : State) : State :=
  if (claimOf s r).isSome = s.holds r then updateRole r (fun x => { x with held := claimOf s r }) s
  else changeRole r (claimOf s r) s

/-- Both roles set by their claims. -/
def applyClaims (s : State) : State := applyClaim .give (applyClaim .take s)

/-! ## The hand-off (R69, R71, R108) -/

/-- The role sets of two states are the same. -/
def sameRoles (old s : State) : Bool := old.holdsTake == s.holdsTake && old.holdsGive == s.holdsGive

/-- A role held before is held still. -/
def keepsRole (old s : State) : Bool := (old.holdsTake && s.holdsTake) || (old.holdsGive && s.holdsGive)

/-- A changed role set handed on: rest time, sub-count and turnover due when it is not empty, and the report trigger
(R69, R71, R88, R108; log 29). -/
def handOn (old s : State) : State :=
  if sameRoles old s then s
  else
    let m := s.mvc
    let m1 := if (s.holdsTake || s.holdsGive) && !keepsRole old s then { m with restTime := 0, restSub := 0 } else m
    let m2 := if s.holdsTake || s.holdsGive then { m1 with turnoverDue := false } else m1
    trigger { s with mvc := m2 }

/-! ## The settling pass (log 10, log 11) -/

/-- The role set chosen: the request, the abilities, the claims, the timers and the standing rules. -/
def chooseRoles (s : State) : State :=
  standingRules .give (standingRules .take (judgeCalls (applyClaims (judgeAbilities (judgeRequest s)))))

/-- The role set of `s` chosen and handed on against that of `old`; commands, governor mode and timers follow.
The commands are derived once, on the new role set and the new key, the model's choice (log 37): a key turned to OUT OF
SERVICE gives NONE and no CLOSE before it; a key that leaves it and brings a role at the same event gives OPEN and no CLOSE
before it, so a released valve that stands OPEN is not first sent toward closed. -/
def settleFrom (old s : State) : State := judgeCalls (judgeMode (deriveCommands (handOn old (chooseRoles s))))

/-- Everything that rests on the terms of duty sharing judged afresh, once, at the end of an event's own work. -/
def settle (s : State) : State := settleFrom s s

/-! ## The table's changes (R95, R97, R104, R116) -/

/-- A role's timers after a change of the peer table: a rise of the member count restarts both, a fall the release
timer only (R116). -/
def recount (old : State) (r : Role) (s : State) : State :=
  if old.memberCount r < s.memberCount r then restartTimers r s
  else if s.memberCount r < old.memberCount r then restartRelease r s
  else s

/-- The peer table replaced and handed to duty sharing. -/
def changeTable (t : List PeerEntry) (s : State) : State :=
  recount s .give (recount s .take { s with ysu := { s.ysu with table := t } })

end Sys2Proof.Machine
end

