-- ==== Sys2Proof/Machine/Startup.lean ====
section
/-! DEFINITION. Start-up control (R180 to R186): the block values of a start, START's four steps, the entry to FAULT, and
the station restart. -/

namespace Sys2Proof.Machine

/-! ## The station's side of the line emptied (R91) -/

/-- The queue is discarded, a message in flight is condemned, and the transmitter rests unless it is sending (R91). -/
def Yli.emptied (y : Yli) : Yli :=
  { y with queue := [], inFlight := y.inFlight.map (fun f => { f with discard := true }),
           tx := if y.tx = .sending then .sending else .standby, attempt := 0, backOff := none, blocked := none }

/-- The station's side of the line emptied, TX BLOCKED with it (R91). -/
def emptyLine (s : State) : State := cease .txBlocked { s with yli := s.yli.emptied }

/-! ## Entry to FAULT (R180) -/

/-- The yard sharing unit at the entry to FAULT: both roles left, with no ability and no timer; the hand order is kept,
and is EFFECTIVE no longer (R129, R135; log 19). -/
def Ysu.stopped (y : Ysu) : Ysu :=
  { y with take := .initial, give := .initial, effective := false, relearn := none, table := [], clash := none,
           silence := none }

/-- Every block's part of the entry to FAULT but for the alarm kinds, the commands and the governor (R4, R88, R91, R99,
R101 to R103, R135, R172, R184; log 19, log 20). -/
def faultBlocks (s : State) : State :=
  let s1 := emptyLine s
  { s1 with
    station := .fault, stepsDone := false, listenTimer := none,
    srk := { s1.srk with timer := none },
    mvc := { s1.mvc with window := none, forcedGive := false },
    yli := { s1.yli with quiet := false, reportTimer := none, reportDue := false },
    ysu := s1.ysu.stopped,
    acu := { s1.acu with silentWindow := none },
    rst := { s1.rst with writing := none, again := false, restartDue := false } }

/-- Entry to FAULT: both valves NONE, the governor released, ALONE and NUMBER CLASH not current, CONFIG FAULT current
(R180). The commands go to NONE at once (log 37). -/
def enterFault (s : State) : State :=
  raise .configFault (releaseGovernor (deriveCommands (cease .alone (cease .numberClash (faultBlocks s)))))

/-! ## The block values of a start (R186) -/

/-- CLOCK SYNCED over a start: a power-on clears it, a restart keeps it (R186). -/
def keptSync (k : StartKind) (s : State) : Bool :=
  match k with
  | .powerOn => false
  | .restart => s.ini.synced

/-- The button's 10 s over a start: nothing in R40 stops it at a restart made by order (log 34). -/
def keptHold (k : StartKind) (s : State) : Timer :=
  match k with
  | .powerOn => none
  | .restart => s.ini.buttonHold

/-- Every block at its values for a start; the pins, the retained store and the waiting commands stand (R186). What the
blocks that the store fills hold until it is checked, or in FAULT if it never is, is the model's choice (log 40). -/
def blocksAtStart (k : StartKind) (s : State) : State :=
  { s with
    supply := true, station := .start, startKind := k, stepsDone := false, listenTimer := none, number := 0,
    plug := none, plugSum := 0,
    ini := { Ini.initial (keptSync k s) s.ini.button s.ini.inletSwitches s.ini.outletSwitches with
               buttonHold := keptHold k s },
    vdu := { inlet := Drive.atStart s.ini.inletSwitches, outlet := Drive.atStart s.ini.outletSwitches,
             governor := .released },
    srk := .initial, mvc := .initial, yli := .initial, ysu := .initial, pgv := .initial, acu := .initial,
    oau := .initial,
    rst := { s.rst with writing := none, again := false, restartDue := false } }

/-- A drive set to FAULT at a start makes its kind current at that setting (R176). -/
def raiseDriveFault (d : Side) (s : State) : State :=
  if (s.vdu.drive d).state = .fault then raise (valveFaultKind d) s else s

/-! ## The retained store (R184, R185) -/

/-- The good copy of a half. -/
def Rst.goodHalf (r : Rst) (h : HalfId) : Option StoreHalf := (r.half h).filter StoreHalf.good

/-- The half whose copy is the store's contents, and the copy; none when the store is bad (R185). -/
def Rst.newestGood (r : Rst) : Option (HalfId × StoreHalf) :=
  match r.goodHalf .a, r.goodHalf .b with
  | some x, some y => if aheadOf y.writeCount x.writeCount then some (.b, y) else some (.a, x)
  | some x, none => some (.a, x)
  | none, some y => some (.b, y)
  | none, none => none

/-- The contents a bad store is cleared to (R171, R185). -/
def clearedContents : RetainedContents :=
  { list := [],
    period := { OpenPeriod.unset with flags := { PeriodFlags.clear with accountsLost := true } },
    inletResidue := 0, outletResidue := 0, cycles := 0, restTime := 0, minute := 0 }

/-- Some contents go to their blocks, and the clock starts (R34, R72, R149, R170). -/
def takeContents (c : RetainedContents) (s : State) : State :=
  { s with
    ini := { s.ini with minute := c.minute, impulse := some Config.impulseTime },
    mvc := { s.mvc with cycles := c.cycles, restTime := c.restTime },
    pgv := { s.pgv with lowest := c.period.lowest },
    acu := { s.acu with list := c.list, period := c.period, inletResidue := c.inletResidue,
                        outletResidue := c.outletResidue } }

/-- START's steps are done: the key's initial position is awaited (R180). -/
def stepsFinished (s : State) : State := { s with stepsDone := true }

/-- A bad store cleared: written to half A with write count 1, read back, RETAINED LOST (R171, R185). -/
def clearStore (back : ReadBack) (s : State) : State :=
  let s1 := takeContents clearedContents s
  match back with
  | .asWritten =>
    stepsFinished (raiseMomentary .retainedLost
      { s1 with rst := { s1.rst with a := some (StoreHalf.make clearedContents 1), newest := .a },
                acu := { s1.acu with openingDue := true } })
  | .differs now => enterFault { s1 with rst := { s1.rst with a := now, newest := .a } }

/-- START's fourth step (R185). -/
def storeCheck (back : ReadBack) (s : State) : State :=
  match s.rst.newestGood with
  | some (h, x) => stepsFinished (takeContents x.contents { s with rst := { s.rst with newest := h } })
  | none => clearStore back s

/-! ## START (R180 to R183) -/

/-- START's four steps in their order; the first that fails enters FAULT (R181 to R183, R185). -/
def startSteps (reads : StartReadings) (s : State) : State :=
  let s1 := { s with number := reads.straps }
  if !s1.numberValid then enterFault s1
  else
    let s2 := { s1 with plugSum := plugCheckWord reads.plug, plug := plugTaken reads.plug }
    if s2.plug.isNone then enterFault s2
    else if !lineTestPasses reads.straps reads.loop then enterFault s2
    else storeCheck reads.clearing s2

/-- A start: the block values, the drives found in FAULT, and START's steps (R186). -/
def start (k : StartKind) (reads : StartReadings) (s : State) : State :=
  startSteps reads (raiseDriveFault .outlet (raiseDriveFault .inlet (blocksAtStart k s)))

/-- A station restart: at once, or when the write in progress and its read-back are done (R184, R186). -/
def stationRestart (reads : StartReadings) (s : State) : State :=
  if s.rst.writing.isSome then { s with rst := { s.rst with restartDue := true } } else start .restart reads s

/-- A write cut short leaves its half bad (R184; log 14). -/
def tearWrite (s : State) : State :=
  match s.rst.writing with
  | some w =>
    { s with rst := { s.rst.setHalf w.half none with writing := none, again := false, restartDue := false } }
  | none => s

end Sys2Proof.Machine
end

