-- ==== Sys2Proof/Machine/Line.lean ====
section
/-! DEFINITION. The yard line at work: the end of a frame sent (R83 to R85), line heard (R102, R103), report arrival and
number clash (R94, R95, R100), the office's orders (R173, R174) and the routing of a valid message (R78). -/

namespace Sys2Proof.Machine

/-! ## Frames sent (R83 to R85, R91) -/

/-- A frame completes: its message is gone, the attempt count is 0, TX BLOCKED ceases (R83, R91). -/
def completeFrame (s : State) : State :=
  match s.yli.inFlight with
  | some _ => afterFrame (cease .txBlocked { s with yli := { s.yli with inFlight := none, attempt := 0 } })
  | none => s

/-- The back-off delay, in ms (R84). -/
def backOffDelay (n a : Nat) : Nat := (1 + (n + a * 5) % 16) * Config.backOffUnit

/-- The queue after a collision: the message returns to the head, or a newer REPORT goes there in its stead (R84). -/
def returnToQueue (m : Message) (q : List Message) : List Message :=
  if m.isReport && q.any Message.isReport then q.filter Message.isReport ++ q.filter (fun x => !x.isReport)
  else m :: q

/-- A collision: COLLISIONS, then the condemned message gone, the eighth attempt dropped, or the back-off (R84, R85,
R91; log 16). -/
def collide (s : State) : State :=
  match s.yli.inFlight with
  | some f =>
    let y := { s.yli with inFlight := none,
                          counters := { s.yli.counters with collisions := countUp s.yli.counters.collisions } }
    if f.discard then afterFrame { s with yli := y }
    else if Config.maxAttempts ≤ y.attempt + 1 then
      afterFrame { s with yli := { y with attempt := 0,
                                          counters := { y.counters with dropped := countUp y.counters.dropped } } }
    else
      { s with yli := { y with attempt := y.attempt + 1, queue := returnToQueue f.msg y.queue, tx := .backOff,
                               backOff := some (backOffDelay s.number (y.attempt + 1)) } }
  | none => s

/-! ## Line heard (R77, R102, R103) -/

/-- Line heard: the silence timer restarts and ALONE ceases (R102, R103). -/
def lineHeard (s : State) : State :=
  if s.working then
    cease .alone { s with ysu := { s.ysu with silence := some (5 * s.intervalMs) } }
  else s

/-! ## Report arrival (R94, R95, R100) -/

/-- A report under the own number (R100). -/
def numberClash (s : State) : State :=
  settle (raiseWithEntry .numberClash .numberClash
    { s with ysu := { s.ysu with clash := some (10 * s.intervalMs) } })

/-- A REPORT handed to the yard sharing unit (R94, R95, R100). R95 leaves open which of its two receivers takes the hand-off
first. Here the account unit goes first: a PEER MARK close takes the store's image (R184) before duty sharing settles, so the
write carries the rest time as it stood before a role that this REPORT brings. The model's choice (log 43). -/
def reportArrival (peer : Nat) (body : List Byte) (s : State) : State :=
  if peer = s.number then numberClash s
  else
    let e := entryOfReport peer body
    settle (peerPeriod e.period (changeTable (enterPeer e s.ysu.table) s))

/-! ## Orders (R173, R174) -/

/-- The order is taken by its destination and the station state (R173). -/
def orderTaken (s : State) (a : Address) (o : Order) : Bool :=
  match a with
  | .own => s.working || (s.station == .fault && (o == .statusRequest || o == .restart))
  | .all => s.working && (o == .accept || o == .lineReset)

/-- An order refused (R173). -/
def refuseOrder (s : State) : State :=
  { s with yli := { s.yli with counters := { s.yli.counters with
      ordersRefused := countUp s.yli.counters.ordersRefused } } }

/-- A hand order received (R129, R130). -/
def orderHand (d : Duty) (s : State) : State :=
  settle (makeEntry .handOrder { s with ysu := { s.ysu with
    order := .hand d, effective := s.station == .run && s.ini.key == .auto } })

/-- The AUTO order received (R131). -/
def orderAuto (s : State) : State :=
  settle (makeEntry .handOrder { s with ysu := { s.ysu with
    order := .auto, effective := false, take := { s.ysu.take with dwell := some Config.dwellTime },
    give := { s.ysu.give with dwell := some Config.dwellTime } } })

/-- LINE RESET (R91, R104, R128). -/
def orderLineReset (s : State) : State :=
  let s1 := emptyLine s
  settle (changeTable []
    { s1 with yli := { s1.yli with counters := .zero },
              ysu := { s1.ysu with relearn := some (2 * s1.intervalMs) } })

/-- QUIET (R87). -/
def orderQuiet (s : State) : State :=
  if s.yli.tx = .standby ∨ s.yli.tx = .waiting then
    { s with yli := { s.yli with quiet := true, tx := .standby, blocked := none } }
  else { s with yli := { s.yli with quiet := true } }

/-- TALK; the transmitter enters WAITING at the event's end (R87). -/
def orderTalk (s : State) : State := { s with yli := { s.yli with quiet := false } }

/-- ACCOUNT REQUEST (R169). -/
def orderAccount (period : Nat) (s : State) : State :=
  offerMessage { kind := .account, body := accountReplyBody period s } s

/-- STATUS REQUEST (R175). -/
def orderStatus (s : State) : State := offerMessage { kind := .status, body := statusBody s } s

/-- A taken order acts (R174). -/
def performOrder (o : Order) (reads : StartReadings) (s : State) : State :=
  match o with
  | .hand d => orderHand d s
  | .auto => orderAuto s
  | .accept => acceptAlarms s
  | .restart => stationRestart reads s
  | .lineReset => orderLineReset s
  | .quiet => orderQuiet s
  | .talk => orderTalk s
  | .accountRequest p => orderAccount p s
  | .statusRequest => orderStatus s

/-- An order handed to the order and alarm unit: taken or refused; never handed on in START or in FAULT without a valid
number (R79, R173). -/
def judgeOrder (a : Address) (o : Order) (reads : StartReadings) (s : State) : State :=
  if s.onLine then if orderTaken s a o then performOrder o reads s else refuseOrder s else s

/-- An ORDER body handed to the order and alarm unit (R173, R188). -/
def takeOrderBody (a : Address) (body : List Byte) (reads : StartReadings) (s : State) : State :=
  match orderOfBody body with
  | some o => judgeOrder a o reads s
  | none => refuseOrder s

/-! ## Routing (R78, R79) -/

/-- A source that is a holder station's number. -/
def holderSource (n : Nat) : Bool := decide (1 ≤ n ∧ n ≤ 16)

/-- An accepted message handed to its owner by source and kind (R78, R79). -/
def routeAccepted (source : Nat) (a : Address) (k : MessageKind) (body : List Byte) (reads : StartReadings)
    (s : State) : State :=
  if holderSource source then
    match k with
    | .report => if s.working then reportArrival source body s else s
    | .order => refuseOrder s
    | .account => s
    | .status => s
  else if source = 30 then
    match k with
    | .order => takeOrderBody a body reads s
    | .report => s
    | .account => s
    | .status => s
  else
    { s with yli := { s.yli with counters := { s.yli.counters with
        foreignSource := countUp s.yli.counters.foreignSource } } }

/-- A destination that accepts: the own number, or all (R78). -/
def acceptedAs (s : State) (destination : Nat) : Option Address :=
  if destination = 0 then some .all else if destination = s.number then some .own else none

/-- A valid message: line heard, then routed; the end of ALONE is judged with what the message brought (R77, R78,
R127). That the standing rules are tested after an order or a clashing REPORT has acted, and not before, is the model's choice
(log 41). -/
def validMessage (source destination : Nat) (k : MessageKind) (body : List Byte) (reads : StartReadings)
    (s : State) : State :=
  let wasAlone := s.isCurrent .alone
  let s1 := lineHeard s
  let s2 := match acceptedAs s1 destination with
    | some a => routeAccepted source a k body reads s1
    | none => s1
  if wasAlone && s2.working then settle s2 else s2

/-! ## Frames received (R76, R77, R79) -/

/-- BAD FRAME counted. -/
def countBadFrame (s : State) : State :=
  { s with yli := { s.yli with counters := { s.yli.counters with badFrame := countUp s.yli.counters.badFrame } } }

/-- CHECK FAIL counted. -/
def countCheckFail (s : State) : State :=
  { s with yli := { s.yli with counters := { s.yli.counters with checkFail := countUp s.yli.counters.checkFail } } }

/-- ABORTED counted. -/
def countAborted (s : State) : State :=
  { s with yli := { s.yli with counters := { s.yli.counters with aborted := countUp s.yli.counters.aborted } } }

/-- The receiver inside a frame, or not. -/
def setInFrame (b : Bool) (s : State) : State := { s with yli := { s.yli with inFrame := b } }

/-- A frame ended by CLOSE (R77). -/
def judgeClosed (bad : Bool) (data : List Byte) (reads : StartReadings) (s : State) : State :=
  match judgeFrame false bad data with
  | .badFrame => countBadFrame s
  | .checkFail => countCheckFail s
  | .valid source destination k body => validMessage source destination k body reads s

/-- The characters of a frame after its OPEN (R76, R77; log 17). -/
def receiveFrame (chars : List LineChar) (reads : StartReadings) (s : State) : State :=
  match gather chars with
  | (_, _, none) => setInFrame true s
  | (_, _, some .abort) => countAborted (setInFrame false s)
  | (_, _, some .opened) => countBadFrame (setInFrame true s)
  | (data, bad, some .close) => judgeClosed bad data reads (setInFrame false s)

end Sys2Proof.Machine
end

