-- ==== Sys2Proof/Machine/StartCommands.lean ====
section
/-! DEFINITION. The meanings of the start-up commands: POWER_ON, ENTRY_TO_LISTEN, LISTEN_TIMER_EXPIRY,
RETAINED_WRITE_COMPLETE, RECKONING, LOSS_OF_SUPPLY. Every command but POWER_ON needs the supply (log 5). -/

namespace Sys2Proof.Machine

/-- Work done while the supply is present; without it nothing happens (log 5). -/
def powered (f : State → State) (s : State) : State := if s.supply then f s else s

/-- POWER_ON (R186): a write in progress is cut short, and the station starts (log 15). -/
def powerOn (reads : StartReadings) (s : State) : State := start .powerOn reads (tearWrite s)

/-- The kind of the start's event entry (R170, R171, R186). -/
def startEntry (s : State) : EventKind :=
  match s.startKind with
  | .powerOn => .powerReturn
  | .restart => .restart

/-- A reckoning with its readers: the account unit, the movement controller, then the re-grade that LIFT MISMATCH causes,
duty sharing, and the write of the retained store (R4, R5, R22, R184; log 9). -/
def workRecord (s : State) : State := beginWrite (settle (regrade (movementRecord (accountRecord (reckon s)))))

/-- The key's initial position: the position found, else OUT OF SERVICE by default; one taken earlier stands (R39). -/
def initialKey (key : Option KeyPosition) (n : Ini) : Ini :=
  if n.keyTaken then n
  else
    match key with
    | some k => { n with key := k, keyTaken := true }
    | none => { n with key := .outOfService, keyTaken := true, keyDefaulted := true }

/-- The minute of the start's event entry. After a store that START found good it is the minute START set from the copy it
took, whatever impulses have come since (R170; log 36). After a store that START cleared, R170's words do not apply, and the
entry has the minute as it stands when it is made (R157, R171). -/
def startMinute (s : State) : Nat :=
  if s.acu.openingDue then s.ini.minute
  else
    match s.rst.half s.rst.newest with
    | some h => h.contents.minute
    | none => s.ini.minute

/-- The event entry of the continuing period, or of the one that a cleared store left unset (R157, R170, R171). -/
def enterStart (s : State) : State :=
  { s with acu := { s.acu with
      period := s.acu.period.addEntry { kind := startEntry s, minute := startMinute s } } }

/-- The pulses counted in START reach no take: both counters stand at 0 before the first one (R154, R170; log 35). -/
def dropStartPulses (s : State) : State := { s with ini := { s.ini with inletCount := 0, outletCount := 0 } }

/-- The timers of the entry to LISTEN (R4, R88, R102, R180). -/
def listenTimers (s : State) : State :=
  { s with listenTimer := some (2 * s.intervalMs),
           srk := { s.srk with timer := some Config.reckonTime },
           yli := { s.yli with reportTimer := some (s.number * 1000) },
           ysu := { s.ysu with silence := some (5 * s.intervalMs) } }

/-- ENTRY_TO_LISTEN (R180): START's steps done and the key's initial position taken. The report timer starts at N × 1 s
(R88) before the first reckoning is made, so a kind that the reckoning newly latches restarts it at I: the model's choice
(log 39). -/
def enterListen (key : Option KeyPosition) (s : State) : State :=
  if s.station = .start ∧ s.stepsDone then
    let s1 := listenTimers { s with station := .listen, stepsDone := false, ini := initialKey key s.ini }
    finish (workRecord (enterStart (dropStartPulses s1)))
  else s

/-- The role that a drive state adopts at the entry to RUN (R134). -/
def adopted (d : Drive) : Option Cause := if d.state = .isOpen then some .automatic else none

/-- The yard sharing unit at the entry to RUN: the adopted roles, the dwells, the hand order (R129, R134). -/
def adoptRoles (s : State) : Ysu :=
  { s.ysu with
    take := { s.ysu.take with held := adopted s.vdu.inlet, dwell := some Config.dwellTime },
    give := { s.ysu.give with held := adopted s.vdu.outlet, dwell := some Config.dwellTime },
    effective := s.ysu.order != .auto && s.ini.key == .auto }

/-- Entry to RUN (R134, R171, R180): the adopted set is settled and handed on against the empty set of LISTEN. -/
def enterRun (s : State) : State :=
  settleFrom s
    { s with station := .run, listenTimer := none, ysu := adoptRoles s,
             acu := { s.acu with period := { s.acu.period with number := some (s.acu.period.number.getD 1) } } }

/-- LISTEN_TIMER_EXPIRY (R180). -/
def listenExpired (s : State) : State :=
  if s.station = .listen ∧ s.listenTimer.isSome then finish (enterRun s) else s

/-- A written half as the read-back found it good: it is the newer copy (R184). -/
def writeKept (w : StoreWrite) (s : State) : State :=
  { s with rst := { s.rst.setHalf w.half (some w.image) with newest := w.half, writing := none } }

/-- The next write, when one has come due during this one (log 12). -/
def writeAgain (s : State) : State :=
  if s.rst.again then beginWrite { s with rst := { s.rst with again := false } } else s

/-- A failed write: the half holds something else, and the station enters FAULT (R184). -/
def writeFailed (w : StoreWrite) (now : Option StoreHalf) (s : State) : State :=
  enterFault { s with rst := { s.rst.setHalf w.half now with writing := none } }

/-- The restart that waited for the write (R184, R186). -/
def restartAfterWrite (w : StoreWrite) (now : Option StoreHalf) (reads : StartReadings) (s : State) : State :=
  start .restart reads { s with rst := { s.rst.setHalf w.half now with writing := none } }

/-- RETAINED_WRITE_COMPLETE (R184). -/
def writeDone (back : ReadBack) (reads : StartReadings) (s : State) : State :=
  match s.rst.writing with
  | none => s
  | some w =>
    match back with
    | .asWritten =>
      if s.rst.restartDue then restartAfterWrite w (some w.image) reads s else finish (writeAgain (writeKept w s))
    | .differs now =>
      if s.rst.restartDue then restartAfterWrite w now reads s else finish (writeFailed w now s)

/-- RECKONING (R4): the timer restarts at 10 s. -/
def reckonExpired (s : State) : State :=
  if s.working ∧ s.srk.timer.isSome then
    finish (workRecord { s with srk := { s.srk with timer := some Config.reckonTime } })
  else s

/-- LOSS_OF_SUPPLY (R184): a write in progress leaves its half bad. -/
def loseSupply (s : State) : State := { tearWrite s with supply := false }

/-! ## Meanings -/

/-- POWER_ON. -/
def execPowerOn (reads : StartReadings) (s : State) : Host.Outcome State Fault Refusal := .next (powerOn reads s)

/-- ENTRY_TO_LISTEN. -/
def execEntryToListen (key : Option KeyPosition) (s : State) : Host.Outcome State Fault Refusal :=
  .next (powered (enterListen key) s)

/-- LISTEN_TIMER_EXPIRY. -/
def execListenTimerExpiry (s : State) : Host.Outcome State Fault Refusal := .next (powered listenExpired s)

/-- RETAINED_WRITE_COMPLETE. -/
def execRetainedWriteComplete (back : ReadBack) (reads : StartReadings) (s : State) :
    Host.Outcome State Fault Refusal := .next (powered (writeDone back reads) s)

/-- RECKONING. -/
def execReckoning (s : State) : Host.Outcome State Fault Refusal := .next (powered reckonExpired s)

/-- LOSS_OF_SUPPLY. -/
def execLossOfSupply (s : State) : Host.Outcome State Fault Refusal := .next (powered loseSupply s)

end Sys2Proof.Machine
end

