-- ==== Sys2Proof/Machine/InstrumentCommands.lean ====
section
/-! DEFINITION. The meanings of the commands of the instruments, the works clock, the key, the button and the valves
(file 02). -/

namespace Sys2Proof.Machine

/-! ## Analogue inputs (R28 to R31) -/

/-- A changed input handed to its readers (R31). -/
def inputReaders (i : InputId) (s : State) : State :=
  match i with
  | .crown => settle (regrade s)
  | .gauge => s
  | .inletMain => judgeCalls s
  | .district => settle s
  | .gasTemp => s
  | .barometer => s

/-- A district pressure sample followed by the pressure governor (R148). -/
def sampleFollowed (i : InputId) (s : State) : State :=
  match i with
  | .district => followLowest s
  | .crown => s
  | .gauge => s
  | .inletMain => s
  | .gasTemp => s
  | .barometer => s

/-- INPUT_SAMPLE (R27 to R29). -/
def sampleInput (i : InputId) (x : Int) (s : State) : State :=
  finish (inputReaders i (sampleFollowed i
    { s with ini := s.ini.setInput i (InputRecord.sample i x (s.ini.input i)) }))

/-- HOLD_TIMER_EXPIRY (R30). -/
def holdExpired (i : InputId) (s : State) : State :=
  if (s.ini.input i).hold.isSome then
    finish (inputReaders i { s with ini := s.ini.setInput i (s.ini.input i).expire })
  else s

/-! ## Meters (R32) -/

/-- METER_PULSE: counted once the plug has been taken into use (R32). -/
def countPulse (m : Side) (s : State) : State :=
  if s.plug.isSome then
    match m with
    | .inlet => { s with ini := { s.ini with inletCount := countUp s.ini.inletCount } }
    | .outlet => { s with ini := { s.ini with outletCount := countUp s.ini.outletCount } }
  else s

/-! ## The works clock (R35 to R38) -/

/-- An impulse of either kind ends the self-count run and CLOCK LOST, and restarts the impulse timer (R35, R37). -/
def impulseHeard (absorb : Timer) (s : State) : State :=
  cease .clockLost { s with ini := { s.ini with absorb := absorb, selfRun := 0, impulse := some Config.impulseTime } }

/-- The minute of day advanced by one and handed on as a step (R35, R36, R38). -/
def stepMinute (s : State) : State :=
  let m := (s.ini.minute + 1) % 1440
  judgeCalls (passMinutes [m] { s with ini := { s.ini with minute := m } })

/-- MINUTE_IMPULSE (R35). -/
def minuteImpulse (s : State) : State :=
  if s.ini.impulse.isSome then
    if s.ini.absorb.isSome then finish (impulseHeard none s) else finish (stepMinute (impulseHeard none s))
  else s

/-- The self-count run at its third minute makes CLOCK LOST current (R36, R38). -/
def judgeRun (s : State) : State := if s.ini.selfRun = 3 then raiseWithEntry .clockLost .clockLost s else s

/-- IMPULSE_TIMER_EXPIRY (R36). -/
def selfCount (s : State) : State :=
  if s.ini.impulse.isSome then
    finish (judgeRun (stepMinute { s with ini := { s.ini with
      selfRun := min (s.ini.selfRun + 1) 3, absorb := some Config.absorbTime,
      impulse := some Config.impulseTime } }))
  else s

/-- ABSORB_WINDOW_EXPIRY (R36). -/
def closeAbsorb (s : State) : State := { s with ini := { s.ini with absorb := none } }

/-- The minutes that a jump of `d` from m passes (R37). -/
def minutesPassed (m d : Nat) : List Nat := (List.range d).map (fun i => (m + 1 + i) % 1440)

/-- The jump to 360 judged by d = (360 − m) mod 1440 (R37). -/
def judgeJump (m : Nat) (s : State) : State :=
  if minutesTo 360 m = 0 then s
  else if minutesTo 360 m ≤ 720 then passMinutes (minutesPassed m (minutesTo 360 m)) s
  else jumpBack s

/-- SYNCHRONISING_IMPULSE (R37). One that comes while the clock is stopped does nothing, and does not set CLOCK SYNCED: the
model's choice (log 22). -/
def synchronise (s : State) : State :=
  if s.ini.impulse.isSome then
    let s1 := impulseHeard (some Config.absorbTime) s
    finish (judgeCalls (judgeJump s.ini.minute { s1 with ini := { s1.ini with minute := 360, synced := true } }))
  else s

/-! ## Key and button (R39, R40) -/

/-- The hand order at a change of key: PENDING away from AUTO, EFFECTIVE at AUTO in RUN (R129). -/
def keyOrder (p : KeyPosition) (s : State) : Bool :=
  p == .auto && s.station == .run && s.ysu.order != .auto

/-- A change of the taken key position at its four units (R39, R132, R133). -/
def changeKey (p : KeyPosition) (s : State) : State :=
  settle (makeEntry .keyChange { s with ini := { s.ini with key := p, keyDefaulted := false },
                                        ysu := { s.ysu with effective := keyOrder p s } })

/-- KEY_POSITION_TAKEN (R39): the initial position is taken without a change (log 18). -/
def takeKey (p : KeyPosition) (s : State) : State :=
  if !s.ini.keyTaken then { s with ini := { s.ini with key := p, keyTaken := true } }
  else if p = s.ini.key ∧ s.ini.keyDefaulted = false then s
  else finish (changeKey p s)

/-- ACCEPT_BUTTON_PRESS at the pin (R40). -/
def closeButton (s : State) : State := { s with ini := { s.ini with button := true } }

/-- ACCEPT_BUTTON_PRESS at the station: the accept, and the 10 s begin (R40, R178). -/
def pressButton (s : State) : State :=
  let s1 := acceptAlarms s
  { s1 with ini := { s1.ini with buttonHold := some Config.buttonTime } }

/-- ACCEPT_BUTTON_HELD (R40): a station restart in whatever station state. -/
def buttonHeld (reads : StartReadings) (s : State) : State :=
  if s.ini.button ∧ s.ini.buttonHold.isSome then
    stationRestart reads { s with ini := { s.ini with buttonHold := none } }
  else s

/-- ACCEPT_BUTTON_RELEASE (R40). -/
def openButton (s : State) : State := { s with ini := { s.ini with button := false, buttonHold := none } }

/-! ## Valves (R41 to R49) -/

/-- One end switch as it stands after the change (R41). -/
def setSwitch (v : Side) (e : SwitchEnd) (made : Bool) (s : State) : State :=
  { s with ini := s.ini.setSwitches v ((s.ini.switches v).change e made) }

/-- A changed switch at the drive record and its readers (R41, R44, R46 to R49). -/
def switchChanged (v : Side) (s : State) : State :=
  finish (settle (putDrive v (Drive.switched s.travelMs (s.ini.switches v) (s.vdu.drive v)) s))

/-- END_SWITCH_CHANGE: a change is one that changes the switch (R41). -/
def endSwitch (v : Side) (e : SwitchEnd) (made : Bool) (s : State) : State :=
  if (s.ini.switches v).made e = made then s else powered (switchChanged v) (setSwitch v e made s)

/-- TRAVEL_TIMER_EXPIRY (R45). -/
def travelExpired (v : Side) (s : State) : State :=
  if (s.vdu.drive v).inOperation then
    finish (settle (putDrive v (Drive.expire s.travelMs (s.vdu.drive v)) s))
  else s

/-! ## Meanings -/

/-- INPUT_SAMPLE. -/
def execInputSample (i : InputId) (x : Int) (s : State) : Host.Outcome State Fault Refusal :=
  .next (powered (sampleInput i x) s)

/-- HOLD_TIMER_EXPIRY. -/
def execHoldTimerExpiry (i : InputId) (s : State) : Host.Outcome State Fault Refusal :=
  .next (powered (holdExpired i) s)

/-- METER_PULSE. -/
def execMeterPulse (m : Side) (s : State) : Host.Outcome State Fault Refusal := .next (powered (countPulse m) s)

/-- MINUTE_IMPULSE. -/
def execMinuteImpulse (s : State) : Host.Outcome State Fault Refusal := .next (powered minuteImpulse s)

/-- IMPULSE_TIMER_EXPIRY. -/
def execImpulseTimerExpiry (s : State) : Host.Outcome State Fault Refusal := .next (powered selfCount s)

/-- ABSORB_WINDOW_EXPIRY. -/
def execAbsorbWindowExpiry (s : State) : Host.Outcome State Fault Refusal := .next (powered closeAbsorb s)

/-- SYNCHRONISING_IMPULSE. -/
def execSynchronisingImpulse (s : State) : Host.Outcome State Fault Refusal := .next (powered synchronise s)

/-- KEY_POSITION_TAKEN. -/
def execKeyPositionTaken (p : KeyPosition) (s : State) : Host.Outcome State Fault Refusal :=
  .next (powered (takeKey p) s)

/-- ACCEPT_BUTTON_PRESS: a press is a closing of an open contact (R40). -/
def execAcceptButtonPress (s : State) : Host.Outcome State Fault Refusal :=
  .next (if s.ini.button then s else powered pressButton (closeButton s))

/-- ACCEPT_BUTTON_HELD. -/
def execAcceptButtonHeld (reads : StartReadings) (s : State) : Host.Outcome State Fault Refusal :=
  .next (powered (buttonHeld reads) s)

/-- ACCEPT_BUTTON_RELEASE. -/
def execAcceptButtonRelease (s : State) : Host.Outcome State Fault Refusal := .next (openButton s)

/-- END_SWITCH_CHANGE. -/
def execEndSwitchChange (v : Side) (e : SwitchEnd) (made : Bool) (s : State) : Host.Outcome State Fault Refusal :=
  .next (endSwitch v e made s)

/-- TRAVEL_TIMER_EXPIRY. -/
def execTravelTimerExpiry (v : Side) (s : State) : Host.Outcome State Fault Refusal :=
  .next (powered (travelExpired v) s)

end Sys2Proof.Machine
end

