-- ==== Sys2Proof/Machine/LineCommands.lean ====
section
/-! DEFINITION. The meanings of the yard line's commands (file 04). -/

namespace Sys2Proof.Machine

/-- CARRIER_ON_LINE (R74). -/
def carrierHeard (s : State) : State := { s with yli := { s.yli with line := .busy } }

/-- LINE_IDLE (R74): a frame in hand ends BAD FRAME, and a waiting transmitter begins (R76, R82). While the station
sends, its own sending is carrier (log 17). -/
def lineFellIdle (openTaken : Bool) (s : State) : State :=
  if s.yli.tx = .sending then s
  else
    let s1 := if (s.yli.inFrame || openTaken) && s.onLine then countBadFrame s else s
    finish { s1 with yli := { s1.yli with line := .idle, inFrame := false } }

/-- FRAME_RECEIVED (R76, R77): judged where R79 lets frames be judged, and not while the station sends (log 17). -/
def frameHeard (chars : List LineChar) (reads : StartReadings) (s : State) : State :=
  if s.onLine = true ∧ s.yli.tx ≠ .sending then finish (receiveFrame chars reads s) else s

/-- FRAME_COMPLETION (R83). -/
def frameDone (s : State) : State := if s.yli.tx = .sending then finish (completeFrame s) else s

/-- COLLISION (R84). -/
def frameCollided (s : State) : State := if s.yli.tx = .sending then finish (collide s) else s

/-- BACK_OFF_TIMER_EXPIRY (R84). -/
def backOffExpired (s : State) : State :=
  if s.yli.tx = .backOff ∧ s.yli.backOff.isSome then
    finish (afterFrame { s with yli := { s.yli with backOff := none } })
  else s

/-- BLOCKED_TIMER_EXPIRY (R86). -/
def blockedExpired (s : State) : State :=
  if s.yli.tx = .waiting ∧ s.yli.blocked.isSome then
    finish (raise .txBlocked { s with yli := { s.yli with blocked := none } })
  else s

/-- REPORT_TIMER_EXPIRY (R88). -/
def reportExpired (s : State) : State :=
  if s.working ∧ s.yli.reportTimer.isSome then finish (trigger s) else s

/-! ## Meanings -/

/-- CARRIER_ON_LINE. -/
def execCarrierOnLine (s : State) : Host.Outcome State Fault Refusal := .next (powered carrierHeard s)

/-- LINE_IDLE. -/
def execLineIdle (openTaken : Bool) (s : State) : Host.Outcome State Fault Refusal :=
  .next (powered (lineFellIdle openTaken) s)

/-- FRAME_RECEIVED. -/
def execFrameReceived (chars : List LineChar) (reads : StartReadings) (s : State) :
    Host.Outcome State Fault Refusal := .next (powered (frameHeard chars reads) s)

/-- FRAME_COMPLETION. -/
def execFrameCompletion (s : State) : Host.Outcome State Fault Refusal := .next (powered frameDone s)

/-- COLLISION. -/
def execCollision (s : State) : Host.Outcome State Fault Refusal := .next (powered frameCollided s)

/-- BACK_OFF_TIMER_EXPIRY. -/
def execBackOffTimerExpiry (s : State) : Host.Outcome State Fault Refusal := .next (powered backOffExpired s)

/-- BLOCKED_TIMER_EXPIRY. -/
def execBlockedTimerExpiry (s : State) : Host.Outcome State Fault Refusal := .next (powered blockedExpired s)

/-- REPORT_TIMER_EXPIRY. -/
def execReportTimerExpiry (s : State) : Host.Outcome State Fault Refusal := .next (powered reportExpired s)

end Sys2Proof.Machine
end

