-- ==== Sys2Proof/Machine/DutyCommands.lean ====
section
/-! DEFINITION. The meanings of the expiries of the peer table, of duty sharing and of the governor (files 05 to 07). -/

namespace Sys2Proof.Machine

/-- A peer's stale expiry falls due: its entry is FRESH and has reached 3 × I. After a report it no longer does, for the
age is back at 0; an entry already STALE does not become so again (R97, R98). -/
def State.staleDue (s : State) (n : Nat) : Bool :=
  s.working && s.ysu.table.any (fun e => e.fresh && e.reached n (3 * s.intervalMs))

/-- A peer's removal expiry falls due: its entry has reached 10 × I. After a report it no longer does (R98). -/
def State.removalDue (s : State) (n : Nat) : Bool :=
  s.working && s.ysu.table.any (fun e => e.reached n (10 * s.intervalMs))

/-- STALE_EXPIRY, where it falls due (R97). -/
def staleExpired (n : Nat) (s : State) : State :=
  if s.staleDue n then finish (settle (changeTable (stalePeer n (3 * s.intervalMs) s.ysu.table) s)) else s

/-- REMOVAL_EXPIRY, where it falls due (R98). -/
def removalExpired (n : Nat) (s : State) : State :=
  if s.removalDue n then finish (settle (changeTable (removePeer n (10 * s.intervalMs) s.ysu.table) s)) else s

/-- CLASH_TIMER_EXPIRY (R101). -/
def clashExpired (s : State) : State :=
  if s.ysu.clash.isSome then
    finish (settle (cease .numberClash { s with ysu := { s.ysu with clash := none } }))
  else s

/-- SILENCE_TIMER_EXPIRY, in RUN (R103; log 23). -/
def silenceExpired (s : State) : State :=
  if s.station = .run ∧ s.ysu.silence.isSome then
    finish (settle (raiseWithEntry .alone .alone { s with ysu := { s.ysu with silence := none } }))
  else s

/-- A timer is running. -/
def CallTimer.isRunning (t : CallTimer) : Bool :=
  match t with
  | .running _ => true
  | .stopped => false
  | .active => false

/-- A role's timer of a kind. -/
def RoleState.timer (x : RoleState) (k : CallKind) : CallTimer :=
  match k with
  | .call => x.call
  | .release => x.release

/-- A role's timer of a kind made active. -/
def RoleState.activate (x : RoleState) (k : CallKind) : RoleState :=
  match k with
  | .call => { x with call := .active }
  | .release => { x with release := .active }

/-- CALL_RELEASE_TIMER_EXPIRY (R116). -/
def callExpired (r : Role) (k : CallKind) (s : State) : State :=
  if ((s.ysu.role r).timer k).isRunning then finish (settle (updateRole r (fun x => x.activate k) s)) else s

/-- A join delay has run out: the join, if it is still due (R121). -/
def endDelay (r : Role) (s : State) : State :=
  let s1 := updateRole r (fun x => { x with delay := none }) s
  if (s.ysu.role r).call = .active ∧ s.ableNonMember r = true ∧ permitted s r = true then joinRole r s1 else s1

/-- JOIN_DELAY_EXPIRY (R121). -/
def delayExpired (r : Role) (s : State) : State :=
  if (s.ysu.role r).delay.isSome then finish (settleFrom s (endDelay r s)) else s

/-- DWELL_TIMER_EXPIRY (R123). -/
def dwellExpired (r : Role) (s : State) : State :=
  if (s.ysu.role r).dwell.isSome then finish (settle (updateRole r (fun x => { x with dwell := none }) s)) else s

/-- RELEARN_HOLD_TIMER_EXPIRY (R128). -/
def relearnExpired (s : State) : State :=
  if s.ysu.relearn.isSome then finish (settle { s with ysu := { s.ysu with relearn := none } }) else s

/-- STEP_TIMER_EXPIRY (R139): a step in the mode as it stands, and the timer restarts at 2 s. -/
def stepExpired (s : State) : State :=
  if s.pgv.step.isSome then
    finish (judgeCalls (governorStep { s with pgv := { s.pgv with step := some Config.stepTime } }))
  else s

/-! ## Meanings -/

/-- STALE_EXPIRY. -/
def execStaleExpiry (n : Nat) (s : State) : Host.Outcome State Fault Refusal := .next (powered (staleExpired n) s)

/-- REMOVAL_EXPIRY. -/
def execRemovalExpiry (n : Nat) (s : State) : Host.Outcome State Fault Refusal := .next (powered (removalExpired n) s)

/-- CLASH_TIMER_EXPIRY. -/
def execClashTimerExpiry (s : State) : Host.Outcome State Fault Refusal := .next (powered clashExpired s)

/-- SILENCE_TIMER_EXPIRY. -/
def execSilenceTimerExpiry (s : State) : Host.Outcome State Fault Refusal := .next (powered silenceExpired s)

/-- CALL_RELEASE_TIMER_EXPIRY. -/
def execCallReleaseTimerExpiry (r : Role) (k : CallKind) (s : State) : Host.Outcome State Fault Refusal :=
  .next (powered (callExpired r k) s)

/-- JOIN_DELAY_EXPIRY. -/
def execJoinDelayExpiry (r : Role) (s : State) : Host.Outcome State Fault Refusal :=
  .next (powered (delayExpired r) s)

/-- DWELL_TIMER_EXPIRY. -/
def execDwellTimerExpiry (r : Role) (s : State) : Host.Outcome State Fault Refusal :=
  .next (powered (dwellExpired r) s)

/-- RELEARN_HOLD_TIMER_EXPIRY. -/
def execRelearnHoldTimerExpiry (s : State) : Host.Outcome State Fault Refusal := .next (powered relearnExpired s)

/-- STEP_TIMER_EXPIRY. -/
def execStepTimerExpiry (s : State) : Host.Outcome State Fault Refusal := .next (powered stepExpired s)

end Sys2Proof.Machine
end

