-- ==== Sys2Proof/Machine/OrderCommands.lean ====
section
/-! DEFINITION. The meanings of the office's orders as rows of their own: the order handed to the order and alarm unit,
judged by R173 (log 2). -/

namespace Sys2Proof.Machine

/-- What stands for the readings of START where an order makes no start. -/
def noReadings : StartReadings := { straps := 0, plug := none, loop := none, clearing := .asWritten }

/-- An order handed to the order and alarm unit, and the end of the event (R173, R174). -/
def orderHanded (a : Address) (o : Order) (reads : StartReadings) (s : State) : State :=
  finish (judgeOrder a o reads s)

/-- HAND. -/
def execHand (a : Address) (d : Duty) (s : State) : Host.Outcome State Fault Refusal :=
  .next (powered (orderHanded a (.hand d) noReadings) s)

/-- AUTO. -/
def execAuto (a : Address) (s : State) : Host.Outcome State Fault Refusal :=
  .next (powered (orderHanded a .auto noReadings) s)

/-- ACCEPT. -/
def execAccept (a : Address) (s : State) : Host.Outcome State Fault Refusal :=
  .next (powered (orderHanded a .accept noReadings) s)

/-- RESTART. -/
def execRestart (a : Address) (reads : StartReadings) (s : State) : Host.Outcome State Fault Refusal :=
  .next (powered (orderHanded a .restart reads) s)

/-- LINE_RESET. -/
def execLineReset (a : Address) (s : State) : Host.Outcome State Fault Refusal :=
  .next (powered (orderHanded a .lineReset noReadings) s)

/-- QUIET. -/
def execQuiet (a : Address) (s : State) : Host.Outcome State Fault Refusal :=
  .next (powered (orderHanded a .quiet noReadings) s)

/-- TALK. -/
def execTalk (a : Address) (s : State) : Host.Outcome State Fault Refusal :=
  .next (powered (orderHanded a .talk noReadings) s)

/-- ACCOUNT_REQUEST. -/
def execAccountRequest (a : Address) (period : Nat) (s : State) : Host.Outcome State Fault Refusal :=
  .next (powered (orderHanded a (.accountRequest period) noReadings) s)

/-- STATUS_REQUEST. -/
def execStatusRequest (a : Address) (s : State) : Host.Outcome State Fault Refusal :=
  .next (powered (orderHanded a .statusRequest noReadings) s)

end Sys2Proof.Machine
end

