-- ==== Sys2Proof/Machine/Clock.lean ====
section
/-! DEFINITION. The passing of time: one millisecond less on every running timer, one more on every peer's age (log 4). No
timer acts of itself: each expiry is a command. -/

namespace Sys2Proof.Machine

/-- A timer after one ms. -/
def tickTimer (t : Timer) : Timer := t.map (fun n => n - 1)

/-- An input record after one ms. -/
def InputRecord.tick (r : InputRecord) : InputRecord := { r with hold := tickTimer r.hold }

/-- The instrument interface after one ms. -/
def Ini.tick (n : Ini) : Ini :=
  { n with crown := n.crown.tick, gauge := n.gauge.tick, inletMain := n.inletMain.tick, district := n.district.tick,
           gasTemp := n.gasTemp.tick, barometer := n.barometer.tick, impulse := tickTimer n.impulse,
           absorb := tickTimer n.absorb, buttonHold := tickTimer n.buttonHold }

/-- A drive record after one ms. -/
def Drive.tick (d : Drive) : Drive := { d with travel := tickTimer d.travel }

/-- The valve drive unit after one ms. -/
def Vdu.tick (v : Vdu) : Vdu := { v with inlet := v.inlet.tick, outlet := v.outlet.tick }

/-- The yard line interface after one ms. -/
def Yli.tick (y : Yli) : Yli :=
  { y with backOff := tickTimer y.backOff, blocked := tickTimer y.blocked, reportTimer := tickTimer y.reportTimer }

/-- A call or release timer after one ms. -/
def CallTimer.tick (t : CallTimer) : CallTimer :=
  match t with
  | .stopped => .stopped
  | .running left => .running (left - 1)
  | .active => .active

/-- What is kept for a role after one ms. -/
def RoleState.tick (x : RoleState) : RoleState :=
  { x with call := x.call.tick, release := x.release.tick,
           delay := x.delay.map (fun d => { d with left := d.left - 1 }), dwell := tickTimer x.dwell }

/-- A peer's age after one ms, held at 10 × I (R93). -/
def PeerEntry.tick (top : Nat) (e : PeerEntry) : PeerEntry := { e with age := min (e.age + 1) top }

/-- The yard sharing unit after one ms; ages count in LISTEN and RUN (R99). -/
def Ysu.tick (working : Bool) (top : Nat) (y : Ysu) : Ysu :=
  { y with take := y.take.tick, give := y.give.tick, relearn := tickTimer y.relearn,
           table := if working then y.table.map (PeerEntry.tick top) else y.table, clash := tickTimer y.clash,
           silence := tickTimer y.silence }

/-- The station after one ms; without supply nothing counts. -/
def tickWork (s : State) : State :=
  { s with
    listenTimer := tickTimer s.listenTimer, ini := s.ini.tick, vdu := s.vdu.tick,
    srk := { s.srk with timer := tickTimer s.srk.timer }, yli := s.yli.tick,
    ysu := s.ysu.tick s.working (10 * s.intervalMs), pgv := { s.pgv with step := tickTimer s.pgv.step } }

/-- What a step does on an empty queue (log 4). -/
def tick (s : State) : State := powered tickWork s

end Sys2Proof.Machine
end

