-- ==== Sys2Proof/Machine/Dispatch.lean ====
section
/-! DEFINITION. One arm per command: a direct call of its meaning. -/

namespace Sys2Proof.Machine

/-- The effect of a command on everything but the queue. -/
def exec (i : Instr) (s : State) : Host.Outcome State Fault Refusal :=
  match i with
  | .powerOn reads => Sys2Proof.Machine.execPowerOn reads s
  | .entryToListen key => Sys2Proof.Machine.execEntryToListen key s
  | .listenTimerExpiry => Sys2Proof.Machine.execListenTimerExpiry s
  | .retainedWriteComplete back reads => Sys2Proof.Machine.execRetainedWriteComplete back reads s
  | .inputSample input reading => Sys2Proof.Machine.execInputSample input reading s
  | .holdTimerExpiry input => Sys2Proof.Machine.execHoldTimerExpiry input s
  | .meterPulse meter => Sys2Proof.Machine.execMeterPulse meter s
  | .minuteImpulse => Sys2Proof.Machine.execMinuteImpulse s
  | .impulseTimerExpiry => Sys2Proof.Machine.execImpulseTimerExpiry s
  | .absorbWindowExpiry => Sys2Proof.Machine.execAbsorbWindowExpiry s
  | .synchronisingImpulse => Sys2Proof.Machine.execSynchronisingImpulse s
  | .keyPositionTaken position => Sys2Proof.Machine.execKeyPositionTaken position s
  | .acceptButtonPress => Sys2Proof.Machine.execAcceptButtonPress s
  | .acceptButtonHeld reads => Sys2Proof.Machine.execAcceptButtonHeld reads s
  | .endSwitchChange valve which made => Sys2Proof.Machine.execEndSwitchChange valve which made s
  | .travelTimerExpiry valve => Sys2Proof.Machine.execTravelTimerExpiry valve s
  | .reckoning => Sys2Proof.Machine.execReckoning s
  | .carrierOnLine => Sys2Proof.Machine.execCarrierOnLine s
  | .lineIdle openTaken => Sys2Proof.Machine.execLineIdle openTaken s
  | .frameReceived chars reads => Sys2Proof.Machine.execFrameReceived chars reads s
  | .frameCompletion => Sys2Proof.Machine.execFrameCompletion s
  | .collision => Sys2Proof.Machine.execCollision s
  | .backOffTimerExpiry => Sys2Proof.Machine.execBackOffTimerExpiry s
  | .blockedTimerExpiry => Sys2Proof.Machine.execBlockedTimerExpiry s
  | .reportTimerExpiry => Sys2Proof.Machine.execReportTimerExpiry s
  | .staleExpiry peer => Sys2Proof.Machine.execStaleExpiry peer s
  | .removalExpiry peer => Sys2Proof.Machine.execRemovalExpiry peer s
  | .clashTimerExpiry => Sys2Proof.Machine.execClashTimerExpiry s
  | .silenceTimerExpiry => Sys2Proof.Machine.execSilenceTimerExpiry s
  | .callReleaseTimerExpiry role kind => Sys2Proof.Machine.execCallReleaseTimerExpiry role kind s
  | .joinDelayExpiry role => Sys2Proof.Machine.execJoinDelayExpiry role s
  | .dwellTimerExpiry role => Sys2Proof.Machine.execDwellTimerExpiry role s
  | .relearnHoldTimerExpiry => Sys2Proof.Machine.execRelearnHoldTimerExpiry s
  | .stepTimerExpiry => Sys2Proof.Machine.execStepTimerExpiry s
  | .hand address duty => Sys2Proof.Machine.execHand address duty s
  | .auto address => Sys2Proof.Machine.execAuto address s
  | .accept address => Sys2Proof.Machine.execAccept address s
  | .restart address reads => Sys2Proof.Machine.execRestart address reads s
  | .lineReset address => Sys2Proof.Machine.execLineReset address s
  | .quiet address => Sys2Proof.Machine.execQuiet address s
  | .talk address => Sys2Proof.Machine.execTalk address s
  | .accountRequest address period => Sys2Proof.Machine.execAccountRequest address period s
  | .statusRequest address => Sys2Proof.Machine.execStatusRequest address s
  | .lossOfSupply => Sys2Proof.Machine.execLossOfSupply s
  | .acceptButtonRelease => Sys2Proof.Machine.execAcceptButtonRelease s

end Sys2Proof.Machine
end

