-- ==== Sys2Proof/WellFormed.lean ====
section
/-! DEFINITION. Which commands are well formed: peer numbers, period numbers, the characters of a frame, and the copies a
half of the retained store may be found to hold. -/

namespace Sys2Proof

/-! ## Retained contents -/

/-- A record's unaccounted gas is that of its figures (R165). -/
def AccountRecord.balanced (r : AccountRecord) : Bool :=
  r.unaccounted == (r.openingStock : Int) + r.makeIn - r.sendOut - r.closingStock

/-- Two records in a row: the second opens on the first's closing stock under a number ahead (R168). -/
def AccountRecord.chained (r q : AccountRecord) : Bool := r.closingStock == q.openingStock && aheadOf q.number r.number

/-- Every two records in a row are chained. -/
def chainedList : List AccountRecord → Bool
  | [] => true
  | [_] => true
  | r :: q :: rest => r.chained q && chainedList (q :: rest)

/-- A period number is 1..65535 (00). -/
def periodNumber (n : Nat) : Bool := decide (1 ≤ n ∧ n ≤ 65535)

/-- The open period continues the list: it opens on the newest record's closing stock under a number ahead (R167,
R168). -/
def OpenPeriod.continues (p : OpenPeriod) (list : List AccountRecord) : Bool :=
  match list.getLast?, p.number with
  | none, none => true
  | none, some n => periodNumber n
  | some r, some n => periodNumber n && aheadOf n r.number && r.closingStock == p.openingStock
  | some _, none => false

/-- Retained contents as the station writes them: R152's ranges, R165's balance and R168's chain. -/
def RetainedContents.wf (c : RetainedContents) : Bool :=
  decide (c.list.length ≤ 12) && c.list.all AccountRecord.balanced &&
  c.list.all (fun r => periodNumber r.number) && chainedList c.list && c.period.continues c.list &&
  decide (c.period.entries.length ≤ 8) && decide (c.inletResidue ≤ 65535 ∧ c.outletResidue ≤ 65535) &&
  decide (c.cycles ≤ 65535 ∧ c.restTime ≤ 65535 ∧ c.minute ≤ 1439)

/-- A half that passes its check word holds contents of the station's own writing (log 14). -/
def StoreHalf.wf (h : StoreHalf) : Bool := !h.good || h.contents.wf

/-- A read-back shows what was written, or a half that is well formed. -/
def ReadBack.wf (b : ReadBack) : Bool :=
  match b with
  | .asWritten => true
  | .differs none => true
  | .differs (some h) => h.wf

/-! ## Commands -/

/-- The characters after an OPEN, up to the mark that ends the frame: no ending mark before the last (R76). -/
def frameSpan (chars : List LineChar) : Bool := chars.dropLast.all (fun c => c.ending.isNone)

/-- A peer number (R92). -/
def peerNumber (n : Nat) : Bool := decide (1 ≤ n ∧ n ≤ 16)

/-- What START reads is well formed. -/
def StartReadings.wf (r : StartReadings) : Bool := r.clearing.wf

/-- A command is well formed. -/
def Instr.wellFormed (i : Instr) : Bool :=
  match i with
  | .powerOn r => r.wf
  | .retainedWriteComplete b r => b.wf && r.wf
  | .acceptButtonHeld r => r.wf
  | .frameReceived chars r => frameSpan chars && r.wf
  | .staleExpiry n => peerNumber n
  | .removalExpiry n => peerNumber n
  | .restart _ r => r.wf
  | .accountRequest _ p => decide (p ≤ 65535)
  | _ => true

end Sys2Proof
end

