-- ==== Sys2Proof/Safety.lean ====
section
/-! DEFINITION. The laws of the device, each as a property of a state: what the statements about every step speak of. -/

namespace Sys2Proof.Machine

/-- The waiting commands are well formed. -/
abbrev pendingLaw (s : State) : Prop := ∀ c ∈ s.pending, c.wellFormed = true

/-- R177, R179: every kind currently present is in the latched set. -/
abbrev alarmLaw (s : State) : Prop := s.oau.current &&& ~~~ s.oau.latched = 0#16

/-- R80: at most one REPORT and at most three other messages, an ACCOUNT or STATUS in flight among the three. -/
abbrev queueLaw (s : State) : Prop :=
  (s.yli.queue.filter Message.isReport).length ≤ 1 ∧ s.yli.othersHeld ≤ 3

/-- Log 8, R80, R82, R87: no REPORT is due between events; a transmitter that sends has its message in flight and the line
BUSY, one that waits has a queue and the line BUSY, and one that stands by has no queue or is held by QUIET. -/
abbrev lineLaw (s : State) : Prop :=
  s.yli.reportDue = false ∧
    (s.yli.tx = .sending → s.yli.line = .busy ∧ s.yli.inFlight.isSome = true) ∧
    (s.yli.tx = .waiting → s.yli.line = .busy ∧ s.yli.queue ≠ []) ∧
    (s.yli.tx = .standby → s.yli.queue = [] ∨ s.yli.quiet = true)

/-- No frame begins at the end of an event: the line is BUSY, the transmitter sends or backs off, or QUIET holds it. -/
abbrev nothingBegins (s : State) : Prop :=
  s.yli.line = .busy ∨ s.yli.tx = .sending ∨ s.yli.tx = .backOff ∨ (s.yli.tx = .standby ∧ s.yli.quiet = true)

/-- The numbers of a table ascend. -/
abbrev ascendingTable (t : List PeerEntry) : Prop := t.Pairwise (fun x y => x.number < y.number)

/-- R92: ascending station numbers in 1..16, none the own number, and so at most 15 entries. -/
abbrev tableLaw (s : State) : Prop :=
  ascendingTable s.ysu.table ∧ (∀ e ∈ s.ysu.table, 1 ≤ e.number ∧ e.number ≤ 16 ∧ e.number ≠ s.number) ∧
    s.ysu.table.length ≤ 15

/-- What START has settled before LISTEN: a valid number and a key position taken; and a table outside LISTEN and RUN is
empty (R39, R99, R181). -/
abbrev stationLaw (s : State) : Prop :=
  (s.stepsDone = true → s.numberValid = true ∧ s.station = .start) ∧
    (s.working = true → s.numberValid = true ∧ s.ini.keyTaken = true) ∧ (s.ysu.table ≠ [] → s.working = true)

/-- R22, R63: while LIFT MISMATCH is current the record is not graded VALID. -/
abbrev gradeLaw (s : State) : Prop := s.isCurrent .liftMismatch = true → s.srk.record.status ≠ .valid

/-- R109, R124: a role only in RUN with the key not at OUT OF SERVICE; no TAKE in HIGH or TOP, with the inlet drive in FAULT,
with LIFT MISMATCH current or on an INVALID stock; no GIVE in LANDED or LOW or with the outlet drive in FAULT. -/
abbrev roleLaw (s : State) : Prop :=
  (s.holdsTake = true ∨ s.holdsGive = true → s.station = .run ∧ s.ini.key ≠ .outOfService) ∧
    (s.holdsTake = true → s.mvc.zone ≠ .high ∧ s.mvc.zone ≠ .top ∧ s.vdu.inlet.state ≠ .fault ∧
      s.isCurrent .liftMismatch = false ∧ s.srk.record.status ≠ .invalid) ∧
    (s.holdsGive = true → s.mvc.zone ≠ .landed ∧ s.mvc.zone ≠ .low ∧ s.vdu.outlet.state ≠ .fault)

/-- R110, R111: the station holds each ability exactly while every term of its list holds. -/
abbrev abilityLaw (s : State) : Prop :=
  (s.ysu.take.able = true ↔ s.station = .run ∧ s.ini.key = .auto ∧
    (s.srk.record.status = .valid ∨ (s.srk.record.status = .doubtful ∧ s.isCurrent .liftMismatch = false)) ∧
    (s.mvc.zone = .landed ∨ s.mvc.zone = .low ∨ s.mvc.zone = .working) ∧ s.vdu.inlet.state ≠ .fault ∧
    s.isCurrent .numberClash = false) ∧
  (s.ysu.give.able = true ↔ s.station = .run ∧ s.ini.key = .auto ∧ s.srk.record.status ≠ .invalid ∧
    (s.mvc.zone = .working ∨ s.mvc.zone = .high ∨ s.mvc.zone = .top) ∧ s.vdu.outlet.state ≠ .fault ∧
    s.ini.district.value.isSome = true ∧ s.isCurrent .numberClash = false)

/-- R57, R125: the request is raised exactly in RUN with the holder in TOP, the key not at OUT OF SERVICE and the outlet not in
FAULT, and exactly then GIVE is held with cause LIMIT. -/
abbrev limitLaw (s : State) : Prop :=
  let forced := s.station = .run ∧ s.mvc.zone = .top ∧ s.ini.key ≠ .outOfService ∧ s.vdu.outlet.state ≠ .fault
  (s.mvc.forcedGive = true ↔ forced) ∧ (s.ysu.give.held = some .limit ↔ forced)

/-- R55: the commands are those of the table: NONE outside RUN and at OUT OF SERVICE; else OPEN for a role held in a zone that
allows it, the inlet not on an INVALID stock, and CLOSE otherwise. -/
abbrev commandLaw (s : State) : Prop :=
  let free := s.station ≠ .run ∨ s.ini.key = .outOfService
  let filling := s.holdsTake = true ∧ (s.mvc.zone = .landed ∨ s.mvc.zone = .low ∨ s.mvc.zone = .working) ∧
    s.srk.record.status ≠ .invalid
  let giving := s.holdsGive = true ∧ (s.mvc.zone = .working ∨ s.mvc.zone = .high ∨ s.mvc.zone = .top)
  s.vdu.inlet.command = (if free then .none else if filling then .toOpen else .toClose) ∧
    s.vdu.outlet.command = (if free then .none else if giving then .toOpen else .toClose)

/-- R50: a driven governor output lies in 0..1000, and is 0 whenever the outlet drive state is not OPEN. -/
abbrev governorLaw (s : State) : Prop :=
  match s.vdu.governor with
  | .released => True
  | .driven o => o ≤ 1000 ∧ (s.vdu.outlet.state ≠ .isOpen → o = 0)

/-- R42, R47: an output is driven only toward the state's end with the timer running; a released drive is never driven;
the retry count is 0..2. -/
abbrev driveLaw (d : Drive) : Prop :=
  d.retry ≤ 2 ∧ (d.command = .none → d.output = .notDriven) ∧
    (d.output = .towardOpen → d.state = .opening ∧ d.travel.isSome = true) ∧
    (d.output = .towardClosed → d.state = .closing ∧ d.travel.isSome = true)

/-- R185: the halves and the image being written hold contents of the station's own writing. -/
abbrev storeLaw (s : State) : Prop :=
  (∀ h ∈ s.rst.a, h.wf = true) ∧ (∀ h ∈ s.rst.b, h.wf = true) ∧ (∀ w ∈ s.rst.writing, w.image.contents.wf = true)

/-- R153, R165, R168 and R152's ranges, with what the station now holds in the place of a half's contents; and an
opening stock is awaited before LISTEN only, with the list empty (R171). -/
abbrev accountLaw (s : State) : Prop :=
  (retainedContents s).wf = true ∧
    (s.acu.openingDue = true → s.acu.list = [] ∧ s.working = false)

/-- R27 to R30: a VALID input holds its reading, which lies in range; a held value lies in range; the hold timer runs while
HELD, and only then. -/
abbrev recordLaw (i : InputId) (r : InputRecord) : Prop :=
  (r.status = .valid → i.inRange r.reading = true ∧ r.held = some r.reading) ∧
    (∀ v ∈ r.held, i.inRange v = true) ∧ (r.hold.isSome = true ↔ r.status = .held)

/-- The law of an input record, for the six. -/
abbrev inputLaw (s : State) : Prop :=
  recordLaw .crown s.ini.crown ∧ recordLaw .gauge s.ini.gauge ∧ recordLaw .inletMain s.ini.inletMain ∧
    recordLaw .district s.ini.district ∧ recordLaw .gasTemp s.ini.gasTemp ∧ recordLaw .barometer s.ini.barometer

/-- R1, R7, R24, R182: the settings in use passed every test, and are in use from the end of START's steps on; the record's
height is within the total travel; and the record of LISTEN and RUN has been graded. -/
abbrev plantLaw (s : State) : Prop :=
  (∀ p ∈ s.plug, p.valid = true) ∧ (s.stepsDone = true ∨ s.working = true → s.plug.isSome = true) ∧
    s.srk.record.h ≤ totalTravel s.cfg.lifts ∧ (s.working = true → s.srk.graded = true)

/-- R136, R141: the opening is 0..1000. -/
abbrev openingLaw (s : State) : Prop := s.pgv.opening ≤ 1000

/-- R138's table; the first line that applies decides. -/
def modeTable (s : State) : GovernorMode :=
  if s.station ≠ .run ∨ s.ini.key = .outOfService then .released
  else if s.holdsGive = false then .ramping
  else if s.vdu.outlet.state ≠ .isOpen then .shut
  else if s.ini.district.value = none then .holding
  else .governing

/-- R138, R139, R142, R145: the mode is the table's; the step timer runs in the driven modes alone; the opening is 0 while
RELEASED and while the outlet is not OPEN; and the actuator stands where the opening says. -/
abbrev modeLaw (s : State) : Prop :=
  s.pgv.mode = modeTable s ∧ (s.pgv.step.isSome = true ↔ s.pgv.mode ≠ .released) ∧
    (s.pgv.mode = .released → s.pgv.opening = 0 ∧ s.vdu.governor = .released) ∧
    (s.pgv.mode ≠ .released → s.vdu.governor = .driven s.pgv.opening) ∧
    (s.vdu.outlet.state ≠ .isOpen → s.pgv.opening = 0)

/-! ## What a statement says did not change -/

/-- Nothing changed but the blocks that duty sharing and what follows from it may move: VDU, MVC, YLI, YSU, PGV, ACU and
the alarm sets. -/
abbrev dutyFrame (s t : State) : Prop :=
  t = { s with vdu := t.vdu, mvc := t.mvc, yli := t.yli, ysu := t.ysu, pgv := t.pgv, acu := t.acu, oau := t.oau }

/-- Nothing changed but the yard line interface. -/
abbrev lineFrame (s t : State) : Prop := t = { s with yli := t.yli }

/-- The accounts kept: list, open number and stock, meter figures, residues, rate. -/
abbrev accountsKept (s t : State) : Prop :=
  t.acu.list = s.acu.list ∧ t.acu.period.number = s.acu.period.number ∧
    t.acu.period.openingStock = s.acu.period.openingStock ∧ t.acu.period.makeIn = s.acu.period.makeIn ∧
    t.acu.period.sendOut = s.acu.period.sendOut ∧ t.acu.inletResidue = s.acu.inletResidue ∧
    t.acu.outletResidue = s.acu.outletResidue ∧ t.acu.rate = s.acu.rate

/-- What a start leaves whose steps all pass on a good store: its contents in their blocks, the clock started from them, the
line, the duty sharing and the stock record at their first values (R34, R72, R149, R170, R185). -/
abbrev restoredFrom (r : StartReadings) (p : Settings) (h : HalfId) (x : StoreHalf) (t : State) : Prop :=
  t.station = .start ∧ t.stepsDone = true ∧ t.number = r.straps ∧ t.plug = some p ∧ t.plugSum = plugCheckWord r.plug ∧
    t.acu.list = x.contents.list ∧ t.acu.period = x.contents.period ∧
    t.acu.inletResidue = x.contents.inletResidue ∧ t.acu.outletResidue = x.contents.outletResidue ∧
    t.acu.slots = [] ∧ t.acu.slot = 0 ∧ t.acu.rate = 0 ∧ t.acu.lastGood = none ∧ t.acu.silentWindow = none ∧
    t.acu.served = none ∧ t.acu.openingDue = false ∧
    t.mvc.cycles = x.contents.cycles ∧ t.mvc.restTime = x.contents.restTime ∧ t.ini.minute = x.contents.minute ∧
    t.pgv.lowest = x.contents.period.lowest ∧ t.ini.impulse = some 70000 ∧
    t.yli = .initial ∧ t.ysu = .initial ∧ t.srk = .initial ∧ t.rst.newest = h ∧
    t.isLatched .retainedLost = false ∧ t.isCurrent .configFault = false

/-- What the blocks hold after a power-on in `s` whose steps pass on a good store, beside what the store fills: the drives by
the end switches as they stand, at rest with no command (R42), the governor released (R50, R136), the movement controller at
its first values (R51), the inputs cleared (log 7), the pulses at 0 (R32), the key not taken (log 18), the button's 10 s
dropped (log 34), the pins as they stand, and both alarm sets empty but for the VALVE FAULT kind of a drive with both switches
made (R176, R179). -/
abbrev blocksStarted (s t : State) : Prop :=
  let both := fun w : Switches => w.openMade = true ∧ w.closedMade = true
  let drive := fun w : Switches =>
    { state := if both w then .fault else if w.openMade = true then .isOpen
               else if w.closedMade = true then .isClosed else .closing,
      command := .none, output := .notDriven, travel := none, retry := 0 : Drive }
  let unsampled : InputRecord := { reading := 0, held := none, status := .invalid, hold := none, sampled := false }
  let found := fun k => (k = .inletValveFault ∧ both s.ini.inletSwitches) ∨
    (k = .outletValveFault ∧ both s.ini.outletSwitches)
  t.supply = true ∧ t.listenTimer = none ∧
    t.vdu = { inlet := drive s.ini.inletSwitches, outlet := drive s.ini.outletSwitches, governor := .released } ∧
    t.mvc = { State.reset.mvc with cycles := t.mvc.cycles, restTime := t.mvc.restTime } ∧
    t.pgv = { mode := .released, opening := 0, step := none, lowest := t.pgv.lowest } ∧
    t.ini = {
      crown := unsampled, gauge := unsampled, inletMain := unsampled, district := unsampled, gasTemp := unsampled,
      barometer := unsampled, inletCount := 0, outletCount := 0, minute := t.ini.minute, impulse := t.ini.impulse,
      absorb := none, selfRun := 0, synced := false, key := .outOfService, keyTaken := false, keyDefaulted := false,
      button := s.ini.button, buttonHold := none, inletSwitches := s.ini.inletSwitches,
      outletSwitches := s.ini.outletSwitches } ∧
    t.rst.writing = none ∧ t.rst.again = false ∧ t.rst.restartDue = false ∧
    (∀ k, t.isCurrent k = true ↔ found k) ∧ (∀ k, t.isLatched k = true ↔ found k)

/-- What a start leaves that clears a bad store, its clearing write read back as written: half A with write count 1, RETAINED
LOST latched and not current, the accounts from nothing with ACCOUNTS LOST (R171, R176, R185). -/
abbrev clearedStore (t : State) : Prop :=
  t.station = .start ∧ t.stepsDone = true ∧ t.isLatched .retainedLost = true ∧ t.isCurrent .retainedLost = false ∧
    t.rst.a = some (StoreHalf.make clearedContents 1) ∧ t.rst.newest = .a ∧
    t.acu.list = [] ∧ t.acu.period.number = none ∧ t.acu.period.flags.accountsLost = true ∧
    t.acu.inletResidue = 0 ∧ t.acu.outletResidue = 0 ∧ t.acu.period.makeIn = 0 ∧ t.acu.period.sendOut = 0 ∧
    t.acu.period.secRest = 0 ∧ t.acu.period.secTake = 0 ∧ t.acu.period.secGive = 0 ∧ t.acu.period.secFloat = 0 ∧
    t.acu.period.peak = 0 ∧ t.acu.period.lowest = none ∧ t.pgv.lowest = none ∧ t.acu.period.entries = [] ∧
    t.mvc.cycles = 0 ∧ t.mvc.restTime = 0 ∧ t.ini.minute = 0

/-- What a station restart made in `s` on some readings leaves, whether START's steps pass or fail (R179, R181, R186). -/
abbrev restarted (r : StartReadings) (s t : State) : Prop :=
  t.startKind = .restart ∧ t.number = r.straps ∧ (t.station = .start ∨ t.station = .fault) ∧
    t.ini.synced = s.ini.synced ∧ t.ini.inletCount = 0 ∧ t.ini.outletCount = 0 ∧ t.ini.keyTaken = false ∧
    t.yli.queue = [] ∧ t.yli.inFlight = none ∧ t.yli.counters = .zero ∧ t.yli.quiet = false ∧ t.ysu.table = [] ∧
    t.ysu.order = .auto ∧ t.holdsTake = false ∧ t.holdsGive = false ∧ t.pgv.mode = .released ∧
    t.vdu.governor = .released ∧ t.srk.timer = none ∧ t.rst.writing = none ∧
    (∀ k, t.isCurrent k = true → k = .inletValveFault ∨ k = .outletValveFault ∨ k = .configFault) ∧
    (∀ k, t.isLatched k = true →
      k = .inletValveFault ∨ k = .outletValveFault ∨ k = .configFault ∨ k = .retainedLost)

/-- A restart whose steps pass, on a store: restored from the newest good half, both halves standing, or cleared when neither is
good (R185, R186). -/
abbrev restartedOn (r : StartReadings) (store : Rst) (s t : State) : Prop :=
  restarted r s t ∧
    (1 ≤ r.straps → r.straps ≤ 16 → lineTestPasses r.straps r.loop = true → ∀ p ∈ plugTaken r.plug,
      (∀ c ∈ store.newestGood, restoredFrom r p c.1 c.2 t ∧ t.rst.a = store.a ∧ t.rst.b = store.b) ∧
      (store.newestGood = none → r.clearing = .asWritten → clearedStore t ∧ t.rst.b = store.b))

/-- What a close at a minute of day leaves (R153, R158, R164 to R168, R184), from the figures of `s`: the take with F in
force; the record `r` at the end of the list, its closing stock chosen and its balance tested; the new period opened on it;
the ACCOUNT message and the report trigger; the retained write begun, or due again. The new period's entries and the served
boundary are left to the statement. -/
abbrev closedBy (cause : CloseCause) (n next minute : Nat) (s t : State) : Prop :=
  let inSum := s.ini.inletCount * s.cfg.pulseIn * s.srk.record.factor + s.acu.inletResidue
  let outSum := s.ini.outletCount * s.cfg.pulseOut * s.srk.record.factor + s.acu.outletResidue
  t.acu.list.getLast?.isSome = true ∧
  (∀ r ∈ t.acu.list.getLast?,
    t.acu.list = s.acu.list.drop (s.acu.list.length - 11) ++ [r] ∧
    r.number = n ∧ r.cause = cause ∧ r.minute = minute ∧
    r.openingStock = s.acu.period.openingStock ∧ r.openingStatus = s.acu.period.openingStatus ∧
    (s.srk.record.status.trusted = true → r.closingStock = s.srk.record.stock ∧
      r.closingStatus = s.srk.record.status ∧ r.flags.stockDoubtful = s.acu.period.flags.stockDoubtful) ∧
    (s.srk.record.status.trusted = false → r.flags.stockDoubtful = true ∧
      (∀ g ∈ s.acu.lastGood, r.closingStock = g.stock ∧ r.closingStatus = g.status) ∧
      (s.acu.lastGood = none → r.closingStock = s.acu.period.openingStock ∧
        r.closingStatus = s.acu.period.openingStatus)) ∧
    r.makeIn = min (s.acu.period.makeIn + inSum / 65536) 16777215 ∧
    r.sendOut = min (s.acu.period.sendOut + outSum / 65536) 16777215 ∧
    r.unaccounted = (r.openingStock : Int) + r.makeIn - r.sendOut - r.closingStock ∧
    (r.flags.balance = true ↔ s.acu.period.flags.balance = true ∨
      s.cfg.balanceLimit * max (r.makeIn + r.sendOut) 1 < r.unaccounted.natAbs * 1000) ∧
    (s.cfg.balanceLimit * max (r.makeIn + r.sendOut) 1 < r.unaccounted.natAbs * 1000 → t.isLatched .balance = true) ∧
    r.flags.meterSilent = s.acu.period.flags.meterSilent ∧ r.flags.eventsLost = s.acu.period.flags.eventsLost ∧
    r.flags.accountsLost = s.acu.period.flags.accountsLost ∧
    r.minRest = s.acu.period.secRest / 60 ∧ r.minTake = s.acu.period.secTake / 60 ∧
    r.minGive = s.acu.period.secGive / 60 ∧ r.minFloat = s.acu.period.secFloat / 60 ∧
    r.peak = s.acu.period.peak ∧ r.lowest = s.acu.period.lowest ∧ r.entries = s.acu.period.entries ∧
    t.acu.period = { OpenPeriod.unset with number := some next, openingStock := r.closingStock,
                                           openingStatus := r.closingStatus, entries := t.acu.period.entries } ∧
    (s.yli.othersHeld < 3 → nothingBegins s →
      { kind := .account, body := accountClosedBody r } ∈ t.yli.queue)) ∧
  t.isCurrent .balance = s.isCurrent .balance ∧ t.pgv.lowest = none ∧
  t.ini.inletCount = 0 ∧ t.ini.outletCount = 0 ∧ t.acu.inletResidue = inSum % 65536 ∧
  t.acu.outletResidue = outSum % 65536 ∧ t.acu.slot = s.acu.slot + outSum / 65536 ∧ t.acu.slots = s.acu.slots ∧
  t.acu.rate = s.acu.rate ∧ t.acu.lastGood = s.acu.lastGood ∧
  (∀ w ∈ s.acu.silentWindow, ∀ x ∈ t.acu.silentWindow,
    x = { w with pulses := min (w.pulses + s.ini.outletCount) 65535 }) ∧
  (3 ≤ s.yli.othersHeld → t.yli.counters.dropped = min (s.yli.counters.dropped + 1) 65535) ∧
  t.yli.reportTimer = some s.intervalMs ∧ t.rst.writing.isSome = true ∧
  (s.rst.writing.isSome = true → t.rst.again = true)

/-- The books stand: no record closed, the open period as it was. -/
abbrev booksStand (s t : State) : Prop := t.acu.list = s.acu.list ∧ t.acu.period = s.acu.period

/-- An event entry offered (R157): at the end of the list where there is room; a ninth is not kept, and sets EVENTS LOST. -/
abbrev entered (s t : State) (e : EventEntry) : Prop :=
  (s.acu.period.entries.length < 8 → t.acu.period.entries = s.acu.period.entries ++ [e]) ∧
    (8 ≤ s.acu.period.entries.length →
      t.acu.period.entries = s.acu.period.entries ∧ t.acu.period.flags.eventsLost = true)

/-- The record of a drive that an event's own work leaves, before the commands are derived: a change of its end switches and
its travel timer's expiry move it, and nothing else does (R44 to R48). -/
def ownRecord (c : Instr) (s : State) (v : Side) : Drive :=
  match c with
  | .endSwitchChange w e m =>
    if w = v ∧ (s.ini.switches v).made e ≠ m then
      Drive.switched s.travelMs ((s.ini.switches v).change e m) (s.vdu.drive v)
    else s.vdu.drive v
  | .travelTimerExpiry w => if w = v then Drive.expire s.travelMs (s.vdu.drive v) else s.vdu.drive v
  | _ => s.vdu.drive v

/-- The commands were derived on a drive record `d` (R43, R56): where the command differs from the one last given the record
takes it, and where it does not the record stands. -/
abbrev drivenFrom (s t : State) (v : Side) (d : Drive) : Prop :=
  t.vdu.drive v =
    if (t.vdu.drive v).command = d.command then d else Drive.take s.travelMs (t.vdu.drive v).command d

/-- A role's timers after its member count rose or fell while the station's own part in it stayed (R116, R120): a rise
restarts both and ends a join delay, a fall restarts the release timer. -/
abbrev recounted (s t : State) (r : Role) : Prop :=
  let fresh := fun k => if conditionHolds t r k = true then CallTimer.running 60000 else CallTimer.stopped
  t.holds r = s.holds r →
    (s.memberCount r < t.memberCount r → (t.ysu.role r).delay = none ∧ (t.ysu.role r).call = fresh .call ∧
      (t.ysu.role r).release = fresh .release) ∧
    (t.memberCount r < s.memberCount r → (t.ysu.role r).release = fresh .release)

/-- A report trigger of R88 was worked: the report timer stands at one full interval, and a REPORT is in the queue or has just
begun; where no close came with it, built from the state as the event leaves it. That it is built once, then, and not at the
trigger, is the model's choice (log 8). -/
abbrev reported (s t : State) : Prop :=
  let due := fun m : Message => m.kind = .report ∧ (t.acu.list = s.acu.list → m.body = reportBody t)
  t.yli.reportTimer = some s.intervalMs ∧
    ((∃ m ∈ t.yli.queue, due m) ∨ (s.yli.tx ≠ .sending ∧ t.yli.tx = .sending ∧ ∃ f ∈ t.yli.inFlight, due f.msg))

/-- R182's tests and R189's slots, on the characters of a plug: the sum, then every field in the order of the table. -/
abbrev passesR182 (cs : List Byte) : Prop :=
  let n := fieldAt cs 1 1
  let travel := fun k => fieldAt cs (10 + 2 * k) 2
  let m := fieldAt cs 152 1
  let boundary := fun k => fieldAt cs (153 + 2 * k) 2
  let total := ((List.range n).map travel).sum
  let frost := (BitVec.ofNat 8 (fieldAt cs 53 1)).toInt
  ((cs.take 163).map BitVec.toNat).sum % 65536 = fieldAt cs 163 2 ∧
  (fieldAt cs 0 1 = 1 ∧ 1 ≤ n ∧ n ≤ 4 ∨ fieldAt cs 0 1 = 2 ∧ n = 1) ∧
  (∀ k < n, 1 ≤ fieldAt cs (2 + 2 * k) 2 ∧ fieldAt cs (2 + 2 * k) 2 ≤ 60000) ∧
  (∀ k < n, 1 ≤ travel k ∧ travel k ≤ 65000) ∧ total ≤ 65000 ∧
  (∀ k < n, fieldAt cs (18 + 4 * k) 2 ≤ fieldAt cs (20 + 4 * k) 2 ∧ fieldAt cs (20 + 4 * k) 2 ≤ 600) ∧
  fieldAt cs 34 2 < fieldAt cs 36 2 ∧ fieldAt cs 36 2 < fieldAt cs 38 2 ∧ fieldAt cs 38 2 < fieldAt cs 40 2 ∧
  fieldAt cs 40 2 ≤ total ∧
  1 ≤ fieldAt cs 42 1 ∧ fieldAt cs 42 1 ≤ 100 ∧ 1 ≤ fieldAt cs 43 1 ∧ fieldAt cs 43 1 ≤ 100 ∧
  30 ≤ fieldAt cs 44 1 ∧ fieldAt cs 44 1 ≤ 240 ∧ 20 ≤ fieldAt cs 45 1 ∧ fieldAt cs 45 1 ≤ 120 ∧
  fieldAt cs 46 2 ≤ 1000 ∧ fieldAt cs 48 2 < fieldAt cs 46 2 ∧
  10 ≤ fieldAt cs 50 2 ∧ fieldAt cs 50 2 ≤ 5000 ∧ 4 ≤ fieldAt cs 52 1 ∧ fieldAt cs 52 1 ≤ 72 ∧
  -100 ≤ frost ∧ frost ≤ 100 ∧ (∀ k < 48, 50 ≤ fieldAt cs (54 + 2 * k) 2 ∧ fieldAt cs (54 + 2 * k) 2 ≤ 300) ∧
  1 ≤ fieldAt cs 150 1 ∧ fieldAt cs 150 1 ≤ 64 ∧ fieldAt cs 151 1 ≤ 50 ∧
  1 ≤ m ∧ m ≤ 4 ∧ (∀ k < m, boundary k ≤ 1439) ∧ (∀ k < m - 1, boundary k < boundary (k + 1)) ∧
  1 ≤ fieldAt cs 161 2 ∧ fieldAt cs 161 2 ≤ 1000

/-- The row of an order (log 2). -/
def orderRow (a : Address) (o : Order) (r : StartReadings) : Instr :=
  match o with
  | .hand d => .hand a d
  | .auto => .auto a
  | .accept => .accept a
  | .restart => .restart a r
  | .lineReset => .lineReset a
  | .quiet => .quiet a
  | .talk => .talk a
  | .accountRequest p => .accountRequest a p
  | .statusRequest => .statusRequest a

/-- The ability that a role asks for holds now (R110, R111). -/
def canHold (s : State) (r : Role) : Bool :=
  match r with
  | .take => canTake s
  | .give => canGive s

end Sys2Proof.Machine
end

