-- ==== Sys2Proof/Laws/State.lean ====
section
/-! SUPPORT. One lemma per field per update: what each plain update of the state leaves as it was. All are true by
computation, so that no proof unfolds a record update. -/

namespace Sys2Proof.Machine

/-! ## cease -/

@[simp] theorem cease_supply (k : AlarmKind) (s : State) : (cease k s).supply = s.supply := rfl
@[simp] theorem cease_station (k : AlarmKind) (s : State) : (cease k s).station = s.station := rfl
@[simp] theorem cease_startKind (k : AlarmKind) (s : State) : (cease k s).startKind = s.startKind := rfl
@[simp] theorem cease_stepsDone (k : AlarmKind) (s : State) : (cease k s).stepsDone = s.stepsDone := rfl
@[simp] theorem cease_listenTimer (k : AlarmKind) (s : State) : (cease k s).listenTimer = s.listenTimer := rfl
@[simp] theorem cease_number (k : AlarmKind) (s : State) : (cease k s).number = s.number := rfl
@[simp] theorem cease_plug (k : AlarmKind) (s : State) : (cease k s).plug = s.plug := rfl
@[simp] theorem cease_plugSum (k : AlarmKind) (s : State) : (cease k s).plugSum = s.plugSum := rfl
@[simp] theorem cease_ini (k : AlarmKind) (s : State) : (cease k s).ini = s.ini := rfl
@[simp] theorem cease_vdu (k : AlarmKind) (s : State) : (cease k s).vdu = s.vdu := rfl
@[simp] theorem cease_srk (k : AlarmKind) (s : State) : (cease k s).srk = s.srk := rfl
@[simp] theorem cease_mvc (k : AlarmKind) (s : State) : (cease k s).mvc = s.mvc := rfl
@[simp] theorem cease_yli (k : AlarmKind) (s : State) : (cease k s).yli = s.yli := rfl
@[simp] theorem cease_ysu (k : AlarmKind) (s : State) : (cease k s).ysu = s.ysu := rfl
@[simp] theorem cease_pgv (k : AlarmKind) (s : State) : (cease k s).pgv = s.pgv := rfl
@[simp] theorem cease_acu (k : AlarmKind) (s : State) : (cease k s).acu = s.acu := rfl
@[simp] theorem cease_rst (k : AlarmKind) (s : State) : (cease k s).rst = s.rst := rfl
@[simp] theorem cease_pending (k : AlarmKind) (s : State) : (cease k s).pending = s.pending := rfl

/-! ## acceptAlarms -/

@[simp] theorem acceptAlarms_supply (s : State) : (acceptAlarms s).supply = s.supply := rfl
@[simp] theorem acceptAlarms_station (s : State) : (acceptAlarms s).station = s.station := rfl
@[simp] theorem acceptAlarms_startKind (s : State) : (acceptAlarms s).startKind = s.startKind := rfl
@[simp] theorem acceptAlarms_stepsDone (s : State) : (acceptAlarms s).stepsDone = s.stepsDone := rfl
@[simp] theorem acceptAlarms_listenTimer (s : State) : (acceptAlarms s).listenTimer = s.listenTimer := rfl
@[simp] theorem acceptAlarms_number (s : State) : (acceptAlarms s).number = s.number := rfl
@[simp] theorem acceptAlarms_plug (s : State) : (acceptAlarms s).plug = s.plug := rfl
@[simp] theorem acceptAlarms_plugSum (s : State) : (acceptAlarms s).plugSum = s.plugSum := rfl
@[simp] theorem acceptAlarms_ini (s : State) : (acceptAlarms s).ini = s.ini := rfl
@[simp] theorem acceptAlarms_vdu (s : State) : (acceptAlarms s).vdu = s.vdu := rfl
@[simp] theorem acceptAlarms_srk (s : State) : (acceptAlarms s).srk = s.srk := rfl
@[simp] theorem acceptAlarms_mvc (s : State) : (acceptAlarms s).mvc = s.mvc := rfl
@[simp] theorem acceptAlarms_yli (s : State) : (acceptAlarms s).yli = s.yli := rfl
@[simp] theorem acceptAlarms_ysu (s : State) : (acceptAlarms s).ysu = s.ysu := rfl
@[simp] theorem acceptAlarms_pgv (s : State) : (acceptAlarms s).pgv = s.pgv := rfl
@[simp] theorem acceptAlarms_acu (s : State) : (acceptAlarms s).acu = s.acu := rfl
@[simp] theorem acceptAlarms_rst (s : State) : (acceptAlarms s).rst = s.rst := rfl
@[simp] theorem acceptAlarms_pending (s : State) : (acceptAlarms s).pending = s.pending := rfl

/-! ## updateRole -/

@[simp] theorem updateRole_supply (r : Role) (f : RoleState → RoleState) (s : State) : (updateRole r f s).supply = s.supply := rfl
@[simp] theorem updateRole_station (r : Role) (f : RoleState → RoleState) (s : State) : (updateRole r f s).station = s.station := rfl
@[simp] theorem updateRole_startKind (r : Role) (f : RoleState → RoleState) (s : State) : (updateRole r f s).startKind = s.startKind := rfl
@[simp] theorem updateRole_stepsDone (r : Role) (f : RoleState → RoleState) (s : State) : (updateRole r f s).stepsDone = s.stepsDone := rfl
@[simp] theorem updateRole_listenTimer (r : Role) (f : RoleState → RoleState) (s : State) : (updateRole r f s).listenTimer = s.listenTimer := rfl
@[simp] theorem updateRole_number (r : Role) (f : RoleState → RoleState) (s : State) : (updateRole r f s).number = s.number := rfl
@[simp] theorem updateRole_plug (r : Role) (f : RoleState → RoleState) (s : State) : (updateRole r f s).plug = s.plug := rfl
@[simp] theorem updateRole_plugSum (r : Role) (f : RoleState → RoleState) (s : State) : (updateRole r f s).plugSum = s.plugSum := rfl
@[simp] theorem updateRole_ini (r : Role) (f : RoleState → RoleState) (s : State) : (updateRole r f s).ini = s.ini := rfl
@[simp] theorem updateRole_vdu (r : Role) (f : RoleState → RoleState) (s : State) : (updateRole r f s).vdu = s.vdu := rfl
@[simp] theorem updateRole_srk (r : Role) (f : RoleState → RoleState) (s : State) : (updateRole r f s).srk = s.srk := rfl
@[simp] theorem updateRole_mvc (r : Role) (f : RoleState → RoleState) (s : State) : (updateRole r f s).mvc = s.mvc := rfl
@[simp] theorem updateRole_yli (r : Role) (f : RoleState → RoleState) (s : State) : (updateRole r f s).yli = s.yli := rfl
@[simp] theorem updateRole_pgv (r : Role) (f : RoleState → RoleState) (s : State) : (updateRole r f s).pgv = s.pgv := rfl
@[simp] theorem updateRole_acu (r : Role) (f : RoleState → RoleState) (s : State) : (updateRole r f s).acu = s.acu := rfl
@[simp] theorem updateRole_oau (r : Role) (f : RoleState → RoleState) (s : State) : (updateRole r f s).oau = s.oau := rfl
@[simp] theorem updateRole_rst (r : Role) (f : RoleState → RoleState) (s : State) : (updateRole r f s).rst = s.rst := rfl
@[simp] theorem updateRole_pending (r : Role) (f : RoleState → RoleState) (s : State) : (updateRole r f s).pending = s.pending := rfl

/-! ## judgeAbilities -/

@[simp] theorem judgeAbilities_supply (s : State) : (judgeAbilities s).supply = s.supply := rfl
@[simp] theorem judgeAbilities_station (s : State) : (judgeAbilities s).station = s.station := rfl
@[simp] theorem judgeAbilities_startKind (s : State) : (judgeAbilities s).startKind = s.startKind := rfl
@[simp] theorem judgeAbilities_stepsDone (s : State) : (judgeAbilities s).stepsDone = s.stepsDone := rfl
@[simp] theorem judgeAbilities_listenTimer (s : State) : (judgeAbilities s).listenTimer = s.listenTimer := rfl
@[simp] theorem judgeAbilities_number (s : State) : (judgeAbilities s).number = s.number := rfl
@[simp] theorem judgeAbilities_plug (s : State) : (judgeAbilities s).plug = s.plug := rfl
@[simp] theorem judgeAbilities_plugSum (s : State) : (judgeAbilities s).plugSum = s.plugSum := rfl
@[simp] theorem judgeAbilities_ini (s : State) : (judgeAbilities s).ini = s.ini := rfl
@[simp] theorem judgeAbilities_vdu (s : State) : (judgeAbilities s).vdu = s.vdu := rfl
@[simp] theorem judgeAbilities_srk (s : State) : (judgeAbilities s).srk = s.srk := rfl
@[simp] theorem judgeAbilities_mvc (s : State) : (judgeAbilities s).mvc = s.mvc := rfl
@[simp] theorem judgeAbilities_yli (s : State) : (judgeAbilities s).yli = s.yli := rfl
@[simp] theorem judgeAbilities_pgv (s : State) : (judgeAbilities s).pgv = s.pgv := rfl
@[simp] theorem judgeAbilities_acu (s : State) : (judgeAbilities s).acu = s.acu := rfl
@[simp] theorem judgeAbilities_oau (s : State) : (judgeAbilities s).oau = s.oau := rfl
@[simp] theorem judgeAbilities_rst (s : State) : (judgeAbilities s).rst = s.rst := rfl
@[simp] theorem judgeAbilities_pending (s : State) : (judgeAbilities s).pending = s.pending := rfl

/-! ## judgeRequest -/

@[simp] theorem judgeRequest_supply (s : State) : (judgeRequest s).supply = s.supply := rfl
@[simp] theorem judgeRequest_station (s : State) : (judgeRequest s).station = s.station := rfl
@[simp] theorem judgeRequest_startKind (s : State) : (judgeRequest s).startKind = s.startKind := rfl
@[simp] theorem judgeRequest_stepsDone (s : State) : (judgeRequest s).stepsDone = s.stepsDone := rfl
@[simp] theorem judgeRequest_listenTimer (s : State) : (judgeRequest s).listenTimer = s.listenTimer := rfl
@[simp] theorem judgeRequest_number (s : State) : (judgeRequest s).number = s.number := rfl
@[simp] theorem judgeRequest_plug (s : State) : (judgeRequest s).plug = s.plug := rfl
@[simp] theorem judgeRequest_plugSum (s : State) : (judgeRequest s).plugSum = s.plugSum := rfl
@[simp] theorem judgeRequest_ini (s : State) : (judgeRequest s).ini = s.ini := rfl
@[simp] theorem judgeRequest_vdu (s : State) : (judgeRequest s).vdu = s.vdu := rfl
@[simp] theorem judgeRequest_srk (s : State) : (judgeRequest s).srk = s.srk := rfl
@[simp] theorem judgeRequest_yli (s : State) : (judgeRequest s).yli = s.yli := rfl
@[simp] theorem judgeRequest_ysu (s : State) : (judgeRequest s).ysu = s.ysu := rfl
@[simp] theorem judgeRequest_pgv (s : State) : (judgeRequest s).pgv = s.pgv := rfl
@[simp] theorem judgeRequest_acu (s : State) : (judgeRequest s).acu = s.acu := rfl
@[simp] theorem judgeRequest_oau (s : State) : (judgeRequest s).oau = s.oau := rfl
@[simp] theorem judgeRequest_rst (s : State) : (judgeRequest s).rst = s.rst := rfl
@[simp] theorem judgeRequest_pending (s : State) : (judgeRequest s).pending = s.pending := rfl

/-! ## governorStep -/

@[simp] theorem governorStep_supply (s : State) : (governorStep s).supply = s.supply := rfl
@[simp] theorem governorStep_station (s : State) : (governorStep s).station = s.station := rfl
@[simp] theorem governorStep_startKind (s : State) : (governorStep s).startKind = s.startKind := rfl
@[simp] theorem governorStep_stepsDone (s : State) : (governorStep s).stepsDone = s.stepsDone := rfl
@[simp] theorem governorStep_listenTimer (s : State) : (governorStep s).listenTimer = s.listenTimer := rfl
@[simp] theorem governorStep_number (s : State) : (governorStep s).number = s.number := rfl
@[simp] theorem governorStep_plug (s : State) : (governorStep s).plug = s.plug := rfl
@[simp] theorem governorStep_plugSum (s : State) : (governorStep s).plugSum = s.plugSum := rfl
@[simp] theorem governorStep_ini (s : State) : (governorStep s).ini = s.ini := rfl
@[simp] theorem governorStep_srk (s : State) : (governorStep s).srk = s.srk := rfl
@[simp] theorem governorStep_mvc (s : State) : (governorStep s).mvc = s.mvc := rfl
@[simp] theorem governorStep_yli (s : State) : (governorStep s).yli = s.yli := rfl
@[simp] theorem governorStep_ysu (s : State) : (governorStep s).ysu = s.ysu := rfl
@[simp] theorem governorStep_acu (s : State) : (governorStep s).acu = s.acu := rfl
@[simp] theorem governorStep_oau (s : State) : (governorStep s).oau = s.oau := rfl
@[simp] theorem governorStep_rst (s : State) : (governorStep s).rst = s.rst := rfl
@[simp] theorem governorStep_pending (s : State) : (governorStep s).pending = s.pending := rfl

/-! ## releaseGovernor -/

@[simp] theorem releaseGovernor_supply (s : State) : (releaseGovernor s).supply = s.supply := rfl
@[simp] theorem releaseGovernor_station (s : State) : (releaseGovernor s).station = s.station := rfl
@[simp] theorem releaseGovernor_startKind (s : State) : (releaseGovernor s).startKind = s.startKind := rfl
@[simp] theorem releaseGovernor_stepsDone (s : State) : (releaseGovernor s).stepsDone = s.stepsDone := rfl
@[simp] theorem releaseGovernor_listenTimer (s : State) : (releaseGovernor s).listenTimer = s.listenTimer := rfl
@[simp] theorem releaseGovernor_number (s : State) : (releaseGovernor s).number = s.number := rfl
@[simp] theorem releaseGovernor_plug (s : State) : (releaseGovernor s).plug = s.plug := rfl
@[simp] theorem releaseGovernor_plugSum (s : State) : (releaseGovernor s).plugSum = s.plugSum := rfl
@[simp] theorem releaseGovernor_ini (s : State) : (releaseGovernor s).ini = s.ini := rfl
@[simp] theorem releaseGovernor_srk (s : State) : (releaseGovernor s).srk = s.srk := rfl
@[simp] theorem releaseGovernor_mvc (s : State) : (releaseGovernor s).mvc = s.mvc := rfl
@[simp] theorem releaseGovernor_yli (s : State) : (releaseGovernor s).yli = s.yli := rfl
@[simp] theorem releaseGovernor_ysu (s : State) : (releaseGovernor s).ysu = s.ysu := rfl
@[simp] theorem releaseGovernor_acu (s : State) : (releaseGovernor s).acu = s.acu := rfl
@[simp] theorem releaseGovernor_oau (s : State) : (releaseGovernor s).oau = s.oau := rfl
@[simp] theorem releaseGovernor_rst (s : State) : (releaseGovernor s).rst = s.rst := rfl
@[simp] theorem releaseGovernor_pending (s : State) : (releaseGovernor s).pending = s.pending := rfl

/-! ## shutGovernor -/

@[simp] theorem shutGovernor_supply (s : State) : (shutGovernor s).supply = s.supply := rfl
@[simp] theorem shutGovernor_station (s : State) : (shutGovernor s).station = s.station := rfl
@[simp] theorem shutGovernor_startKind (s : State) : (shutGovernor s).startKind = s.startKind := rfl
@[simp] theorem shutGovernor_stepsDone (s : State) : (shutGovernor s).stepsDone = s.stepsDone := rfl
@[simp] theorem shutGovernor_listenTimer (s : State) : (shutGovernor s).listenTimer = s.listenTimer := rfl
@[simp] theorem shutGovernor_number (s : State) : (shutGovernor s).number = s.number := rfl
@[simp] theorem shutGovernor_plug (s : State) : (shutGovernor s).plug = s.plug := rfl
@[simp] theorem shutGovernor_plugSum (s : State) : (shutGovernor s).plugSum = s.plugSum := rfl
@[simp] theorem shutGovernor_ini (s : State) : (shutGovernor s).ini = s.ini := rfl
@[simp] theorem shutGovernor_srk (s : State) : (shutGovernor s).srk = s.srk := rfl
@[simp] theorem shutGovernor_mvc (s : State) : (shutGovernor s).mvc = s.mvc := rfl
@[simp] theorem shutGovernor_yli (s : State) : (shutGovernor s).yli = s.yli := rfl
@[simp] theorem shutGovernor_ysu (s : State) : (shutGovernor s).ysu = s.ysu := rfl
@[simp] theorem shutGovernor_acu (s : State) : (shutGovernor s).acu = s.acu := rfl
@[simp] theorem shutGovernor_oau (s : State) : (shutGovernor s).oau = s.oau := rfl
@[simp] theorem shutGovernor_rst (s : State) : (shutGovernor s).rst = s.rst := rfl
@[simp] theorem shutGovernor_pending (s : State) : (shutGovernor s).pending = s.pending := rfl

/-! ## placeRecord -/

@[simp] theorem placeRecord_supply (s : State) : (placeRecord s).supply = s.supply := rfl
@[simp] theorem placeRecord_station (s : State) : (placeRecord s).station = s.station := rfl
@[simp] theorem placeRecord_startKind (s : State) : (placeRecord s).startKind = s.startKind := rfl
@[simp] theorem placeRecord_stepsDone (s : State) : (placeRecord s).stepsDone = s.stepsDone := rfl
@[simp] theorem placeRecord_listenTimer (s : State) : (placeRecord s).listenTimer = s.listenTimer := rfl
@[simp] theorem placeRecord_number (s : State) : (placeRecord s).number = s.number := rfl
@[simp] theorem placeRecord_plug (s : State) : (placeRecord s).plug = s.plug := rfl
@[simp] theorem placeRecord_plugSum (s : State) : (placeRecord s).plugSum = s.plugSum := rfl
@[simp] theorem placeRecord_ini (s : State) : (placeRecord s).ini = s.ini := rfl
@[simp] theorem placeRecord_vdu (s : State) : (placeRecord s).vdu = s.vdu := rfl
@[simp] theorem placeRecord_srk (s : State) : (placeRecord s).srk = s.srk := rfl
@[simp] theorem placeRecord_yli (s : State) : (placeRecord s).yli = s.yli := rfl
@[simp] theorem placeRecord_ysu (s : State) : (placeRecord s).ysu = s.ysu := rfl
@[simp] theorem placeRecord_pgv (s : State) : (placeRecord s).pgv = s.pgv := rfl
@[simp] theorem placeRecord_acu (s : State) : (placeRecord s).acu = s.acu := rfl
@[simp] theorem placeRecord_oau (s : State) : (placeRecord s).oau = s.oau := rfl
@[simp] theorem placeRecord_rst (s : State) : (placeRecord s).rst = s.rst := rfl
@[simp] theorem placeRecord_pending (s : State) : (placeRecord s).pending = s.pending := rfl

/-! ## takeMeters -/

@[simp] theorem takeMeters_supply (s : State) : (takeMeters s).supply = s.supply := rfl
@[simp] theorem takeMeters_station (s : State) : (takeMeters s).station = s.station := rfl
@[simp] theorem takeMeters_startKind (s : State) : (takeMeters s).startKind = s.startKind := rfl
@[simp] theorem takeMeters_stepsDone (s : State) : (takeMeters s).stepsDone = s.stepsDone := rfl
@[simp] theorem takeMeters_listenTimer (s : State) : (takeMeters s).listenTimer = s.listenTimer := rfl
@[simp] theorem takeMeters_number (s : State) : (takeMeters s).number = s.number := rfl
@[simp] theorem takeMeters_plug (s : State) : (takeMeters s).plug = s.plug := rfl
@[simp] theorem takeMeters_plugSum (s : State) : (takeMeters s).plugSum = s.plugSum := rfl
@[simp] theorem takeMeters_vdu (s : State) : (takeMeters s).vdu = s.vdu := rfl
@[simp] theorem takeMeters_srk (s : State) : (takeMeters s).srk = s.srk := rfl
@[simp] theorem takeMeters_mvc (s : State) : (takeMeters s).mvc = s.mvc := rfl
@[simp] theorem takeMeters_yli (s : State) : (takeMeters s).yli = s.yli := rfl
@[simp] theorem takeMeters_ysu (s : State) : (takeMeters s).ysu = s.ysu := rfl
@[simp] theorem takeMeters_pgv (s : State) : (takeMeters s).pgv = s.pgv := rfl
@[simp] theorem takeMeters_oau (s : State) : (takeMeters s).oau = s.oau := rfl
@[simp] theorem takeMeters_rst (s : State) : (takeMeters s).rst = s.rst := rfl
@[simp] theorem takeMeters_pending (s : State) : (takeMeters s).pending = s.pending := rfl

/-! ## refuseOrder -/

@[simp] theorem refuseOrder_supply (s : State) : (refuseOrder s).supply = s.supply := rfl
@[simp] theorem refuseOrder_station (s : State) : (refuseOrder s).station = s.station := rfl
@[simp] theorem refuseOrder_startKind (s : State) : (refuseOrder s).startKind = s.startKind := rfl
@[simp] theorem refuseOrder_stepsDone (s : State) : (refuseOrder s).stepsDone = s.stepsDone := rfl
@[simp] theorem refuseOrder_listenTimer (s : State) : (refuseOrder s).listenTimer = s.listenTimer := rfl
@[simp] theorem refuseOrder_number (s : State) : (refuseOrder s).number = s.number := rfl
@[simp] theorem refuseOrder_plug (s : State) : (refuseOrder s).plug = s.plug := rfl
@[simp] theorem refuseOrder_plugSum (s : State) : (refuseOrder s).plugSum = s.plugSum := rfl
@[simp] theorem refuseOrder_ini (s : State) : (refuseOrder s).ini = s.ini := rfl
@[simp] theorem refuseOrder_vdu (s : State) : (refuseOrder s).vdu = s.vdu := rfl
@[simp] theorem refuseOrder_srk (s : State) : (refuseOrder s).srk = s.srk := rfl
@[simp] theorem refuseOrder_mvc (s : State) : (refuseOrder s).mvc = s.mvc := rfl
@[simp] theorem refuseOrder_ysu (s : State) : (refuseOrder s).ysu = s.ysu := rfl
@[simp] theorem refuseOrder_pgv (s : State) : (refuseOrder s).pgv = s.pgv := rfl
@[simp] theorem refuseOrder_acu (s : State) : (refuseOrder s).acu = s.acu := rfl
@[simp] theorem refuseOrder_oau (s : State) : (refuseOrder s).oau = s.oau := rfl
@[simp] theorem refuseOrder_rst (s : State) : (refuseOrder s).rst = s.rst := rfl
@[simp] theorem refuseOrder_pending (s : State) : (refuseOrder s).pending = s.pending := rfl

/-! ## enterWaiting -/

@[simp] theorem enterWaiting_supply (s : State) : (enterWaiting s).supply = s.supply := rfl
@[simp] theorem enterWaiting_station (s : State) : (enterWaiting s).station = s.station := rfl
@[simp] theorem enterWaiting_startKind (s : State) : (enterWaiting s).startKind = s.startKind := rfl
@[simp] theorem enterWaiting_stepsDone (s : State) : (enterWaiting s).stepsDone = s.stepsDone := rfl
@[simp] theorem enterWaiting_listenTimer (s : State) : (enterWaiting s).listenTimer = s.listenTimer := rfl
@[simp] theorem enterWaiting_number (s : State) : (enterWaiting s).number = s.number := rfl
@[simp] theorem enterWaiting_plug (s : State) : (enterWaiting s).plug = s.plug := rfl
@[simp] theorem enterWaiting_plugSum (s : State) : (enterWaiting s).plugSum = s.plugSum := rfl
@[simp] theorem enterWaiting_ini (s : State) : (enterWaiting s).ini = s.ini := rfl
@[simp] theorem enterWaiting_vdu (s : State) : (enterWaiting s).vdu = s.vdu := rfl
@[simp] theorem enterWaiting_srk (s : State) : (enterWaiting s).srk = s.srk := rfl
@[simp] theorem enterWaiting_mvc (s : State) : (enterWaiting s).mvc = s.mvc := rfl
@[simp] theorem enterWaiting_ysu (s : State) : (enterWaiting s).ysu = s.ysu := rfl
@[simp] theorem enterWaiting_pgv (s : State) : (enterWaiting s).pgv = s.pgv := rfl
@[simp] theorem enterWaiting_acu (s : State) : (enterWaiting s).acu = s.acu := rfl
@[simp] theorem enterWaiting_oau (s : State) : (enterWaiting s).oau = s.oau := rfl
@[simp] theorem enterWaiting_rst (s : State) : (enterWaiting s).rst = s.rst := rfl
@[simp] theorem enterWaiting_pending (s : State) : (enterWaiting s).pending = s.pending := rfl

/-! ## Parts replaced by name -/

@[simp] theorem role_setRole (y : Ysu) (r : Role) (x : RoleState) : (y.setRole r x).role r = x := by cases r <;> rfl

theorem role_setRole_other (y : Ysu) (r q : Role) (x : RoleState) (h : q ≠ r) : (y.setRole r x).role q = y.role q := by
  cases r <;> cases q <;> first | rfl | exact absurd rfl h

@[simp] theorem setRole_order (y : Ysu) (r : Role) (x : RoleState) : (y.setRole r x).order = y.order := by
  cases r <;> rfl

@[simp] theorem setRole_effective (y : Ysu) (r : Role) (x : RoleState) : (y.setRole r x).effective = y.effective := by
  cases r <;> rfl

@[simp] theorem setRole_relearn (y : Ysu) (r : Role) (x : RoleState) : (y.setRole r x).relearn = y.relearn := by
  cases r <;> rfl

@[simp] theorem setRole_table (y : Ysu) (r : Role) (x : RoleState) : (y.setRole r x).table = y.table := by
  cases r <;> rfl

@[simp] theorem setRole_clash (y : Ysu) (r : Role) (x : RoleState) : (y.setRole r x).clash = y.clash := by
  cases r <;> rfl

@[simp] theorem setRole_silence (y : Ysu) (r : Role) (x : RoleState) : (y.setRole r x).silence = y.silence := by
  cases r <;> rfl

@[simp] theorem drive_setDrive (v : Vdu) (d : Side) (x : Drive) : (v.setDrive d x).drive d = x := by cases d <;> rfl

theorem drive_setDrive_other (v : Vdu) (d e : Side) (x : Drive) (h : e ≠ d) : (v.setDrive d x).drive e = v.drive e := by
  cases d <;> cases e <;> first | rfl | exact absurd rfl h

@[simp] theorem setDrive_governor (v : Vdu) (d : Side) (x : Drive) : (v.setDrive d x).governor = v.governor := by
  cases d <;> rfl

@[simp] theorem input_setInput (n : Ini) (i : InputId) (r : InputRecord) : (n.setInput i r).input i = r := by
  cases i <;> rfl

theorem input_setInput_other (n : Ini) (i j : InputId) (r : InputRecord) (h : j ≠ i) :
    (n.setInput i r).input j = n.input j := by cases i <;> cases j <;> first | rfl | exact absurd rfl h

@[simp] theorem switches_setSwitches (n : Ini) (d : Side) (w : Switches) : (n.setSwitches d w).switches d = w := by
  cases d <;> rfl

@[simp] theorem half_setHalf (r : Rst) (h : HalfId) (x : Option StoreHalf) : (r.setHalf h x).half h = x := by
  cases h <;> rfl

theorem half_setHalf_other (r : Rst) (h k : HalfId) (x : Option StoreHalf) (n : k ≠ h) :
    (r.setHalf h x).half k = r.half k := by cases h <;> cases k <;> first | rfl | exact absurd rfl n

end Sys2Proof.Machine
end

