-- ==== Sys2Proof/Laws/Frame.lean ====
section
/-! SUPPORT. What each shared operation leaves as it was, one lemma per field of the state: an event's operation touches
only the blocks that its rules name. -/

namespace Sys2Proof.Machine

/-! ## trigger -/

@[simp] theorem trigger_supply (s : State) : (trigger s).supply = s.supply := by
  unfold trigger; split <;> rfl
@[simp] theorem trigger_station (s : State) : (trigger s).station = s.station := by
  unfold trigger; split <;> rfl
@[simp] theorem trigger_startKind (s : State) : (trigger s).startKind = s.startKind := by
  unfold trigger; split <;> rfl
@[simp] theorem trigger_stepsDone (s : State) : (trigger s).stepsDone = s.stepsDone := by
  unfold trigger; split <;> rfl
@[simp] theorem trigger_listenTimer (s : State) : (trigger s).listenTimer = s.listenTimer := by
  unfold trigger; split <;> rfl
@[simp] theorem trigger_number (s : State) : (trigger s).number = s.number := by
  unfold trigger; split <;> rfl
@[simp] theorem trigger_plug (s : State) : (trigger s).plug = s.plug := by
  unfold trigger; split <;> rfl
@[simp] theorem trigger_plugSum (s : State) : (trigger s).plugSum = s.plugSum := by
  unfold trigger; split <;> rfl
@[simp] theorem trigger_ini (s : State) : (trigger s).ini = s.ini := by
  unfold trigger; split <;> rfl
@[simp] theorem trigger_vdu (s : State) : (trigger s).vdu = s.vdu := by
  unfold trigger; split <;> rfl
@[simp] theorem trigger_srk (s : State) : (trigger s).srk = s.srk := by
  unfold trigger; split <;> rfl
@[simp] theorem trigger_mvc (s : State) : (trigger s).mvc = s.mvc := by
  unfold trigger; split <;> rfl
@[simp] theorem trigger_ysu (s : State) : (trigger s).ysu = s.ysu := by
  unfold trigger; split <;> rfl
@[simp] theorem trigger_pgv (s : State) : (trigger s).pgv = s.pgv := by
  unfold trigger; split <;> rfl
@[simp] theorem trigger_acu (s : State) : (trigger s).acu = s.acu := by
  unfold trigger; split <;> rfl
@[simp] theorem trigger_oau (s : State) : (trigger s).oau = s.oau := by
  unfold trigger; split <;> rfl
@[simp] theorem trigger_rst (s : State) : (trigger s).rst = s.rst := by
  unfold trigger; split <;> rfl
@[simp] theorem trigger_pending (s : State) : (trigger s).pending = s.pending := by
  unfold trigger; split <;> rfl

/-! ## latch -/

@[simp] theorem latch_supply (k : AlarmKind) (s : State) : (latch k s).supply = s.supply := by
  unfold latch; split <;> simp
@[simp] theorem latch_station (k : AlarmKind) (s : State) : (latch k s).station = s.station := by
  unfold latch; split <;> simp
@[simp] theorem latch_startKind (k : AlarmKind) (s : State) : (latch k s).startKind = s.startKind := by
  unfold latch; split <;> simp
@[simp] theorem latch_stepsDone (k : AlarmKind) (s : State) : (latch k s).stepsDone = s.stepsDone := by
  unfold latch; split <;> simp
@[simp] theorem latch_listenTimer (k : AlarmKind) (s : State) : (latch k s).listenTimer = s.listenTimer := by
  unfold latch; split <;> simp
@[simp] theorem latch_number (k : AlarmKind) (s : State) : (latch k s).number = s.number := by
  unfold latch; split <;> simp
@[simp] theorem latch_plug (k : AlarmKind) (s : State) : (latch k s).plug = s.plug := by
  unfold latch; split <;> simp
@[simp] theorem latch_plugSum (k : AlarmKind) (s : State) : (latch k s).plugSum = s.plugSum := by
  unfold latch; split <;> simp
@[simp] theorem latch_ini (k : AlarmKind) (s : State) : (latch k s).ini = s.ini := by
  unfold latch; split <;> simp
@[simp] theorem latch_vdu (k : AlarmKind) (s : State) : (latch k s).vdu = s.vdu := by
  unfold latch; split <;> simp
@[simp] theorem latch_srk (k : AlarmKind) (s : State) : (latch k s).srk = s.srk := by
  unfold latch; split <;> simp
@[simp] theorem latch_mvc (k : AlarmKind) (s : State) : (latch k s).mvc = s.mvc := by
  unfold latch; split <;> simp
@[simp] theorem latch_ysu (k : AlarmKind) (s : State) : (latch k s).ysu = s.ysu := by
  unfold latch; split <;> simp
@[simp] theorem latch_pgv (k : AlarmKind) (s : State) : (latch k s).pgv = s.pgv := by
  unfold latch; split <;> simp
@[simp] theorem latch_acu (k : AlarmKind) (s : State) : (latch k s).acu = s.acu := by
  unfold latch; split <;> simp
@[simp] theorem latch_rst (k : AlarmKind) (s : State) : (latch k s).rst = s.rst := by
  unfold latch; split <;> simp
@[simp] theorem latch_pending (k : AlarmKind) (s : State) : (latch k s).pending = s.pending := by
  unfold latch; split <;> simp

/-! ## raise -/

@[simp] theorem raise_supply (k : AlarmKind) (s : State) : (raise k s).supply = s.supply := by
  unfold raise; split <;> simp
@[simp] theorem raise_station (k : AlarmKind) (s : State) : (raise k s).station = s.station := by
  unfold raise; split <;> simp
@[simp] theorem raise_startKind (k : AlarmKind) (s : State) : (raise k s).startKind = s.startKind := by
  unfold raise; split <;> simp
@[simp] theorem raise_stepsDone (k : AlarmKind) (s : State) : (raise k s).stepsDone = s.stepsDone := by
  unfold raise; split <;> simp
@[simp] theorem raise_listenTimer (k : AlarmKind) (s : State) : (raise k s).listenTimer = s.listenTimer := by
  unfold raise; split <;> simp
@[simp] theorem raise_number (k : AlarmKind) (s : State) : (raise k s).number = s.number := by
  unfold raise; split <;> simp
@[simp] theorem raise_plug (k : AlarmKind) (s : State) : (raise k s).plug = s.plug := by
  unfold raise; split <;> simp
@[simp] theorem raise_plugSum (k : AlarmKind) (s : State) : (raise k s).plugSum = s.plugSum := by
  unfold raise; split <;> simp
@[simp] theorem raise_ini (k : AlarmKind) (s : State) : (raise k s).ini = s.ini := by
  unfold raise; split <;> simp
@[simp] theorem raise_vdu (k : AlarmKind) (s : State) : (raise k s).vdu = s.vdu := by
  unfold raise; split <;> simp
@[simp] theorem raise_srk (k : AlarmKind) (s : State) : (raise k s).srk = s.srk := by
  unfold raise; split <;> simp
@[simp] theorem raise_mvc (k : AlarmKind) (s : State) : (raise k s).mvc = s.mvc := by
  unfold raise; split <;> simp
@[simp] theorem raise_ysu (k : AlarmKind) (s : State) : (raise k s).ysu = s.ysu := by
  unfold raise; split <;> simp
@[simp] theorem raise_pgv (k : AlarmKind) (s : State) : (raise k s).pgv = s.pgv := by
  unfold raise; split <;> simp
@[simp] theorem raise_acu (k : AlarmKind) (s : State) : (raise k s).acu = s.acu := by
  unfold raise; split <;> simp
@[simp] theorem raise_rst (k : AlarmKind) (s : State) : (raise k s).rst = s.rst := by
  unfold raise; split <;> simp
@[simp] theorem raise_pending (k : AlarmKind) (s : State) : (raise k s).pending = s.pending := by
  unfold raise; split <;> simp

/-! ## raiseMomentary -/

@[simp] theorem raiseMomentary_supply (k : AlarmKind) (s : State) : (raiseMomentary k s).supply = s.supply := by
  simp [raiseMomentary]
@[simp] theorem raiseMomentary_station (k : AlarmKind) (s : State) : (raiseMomentary k s).station = s.station := by
  simp [raiseMomentary]
@[simp] theorem raiseMomentary_startKind (k : AlarmKind) (s : State) : (raiseMomentary k s).startKind = s.startKind := by
  simp [raiseMomentary]
@[simp] theorem raiseMomentary_stepsDone (k : AlarmKind) (s : State) : (raiseMomentary k s).stepsDone = s.stepsDone := by
  simp [raiseMomentary]
@[simp] theorem raiseMomentary_listenTimer (k : AlarmKind) (s : State) : (raiseMomentary k s).listenTimer = s.listenTimer := by
  simp [raiseMomentary]
@[simp] theorem raiseMomentary_number (k : AlarmKind) (s : State) : (raiseMomentary k s).number = s.number := by
  simp [raiseMomentary]
@[simp] theorem raiseMomentary_plug (k : AlarmKind) (s : State) : (raiseMomentary k s).plug = s.plug := by
  simp [raiseMomentary]
@[simp] theorem raiseMomentary_plugSum (k : AlarmKind) (s : State) : (raiseMomentary k s).plugSum = s.plugSum := by
  simp [raiseMomentary]
@[simp] theorem raiseMomentary_ini (k : AlarmKind) (s : State) : (raiseMomentary k s).ini = s.ini := by
  simp [raiseMomentary]
@[simp] theorem raiseMomentary_vdu (k : AlarmKind) (s : State) : (raiseMomentary k s).vdu = s.vdu := by
  simp [raiseMomentary]
@[simp] theorem raiseMomentary_srk (k : AlarmKind) (s : State) : (raiseMomentary k s).srk = s.srk := by
  simp [raiseMomentary]
@[simp] theorem raiseMomentary_mvc (k : AlarmKind) (s : State) : (raiseMomentary k s).mvc = s.mvc := by
  simp [raiseMomentary]
@[simp] theorem raiseMomentary_ysu (k : AlarmKind) (s : State) : (raiseMomentary k s).ysu = s.ysu := by
  simp [raiseMomentary]
@[simp] theorem raiseMomentary_pgv (k : AlarmKind) (s : State) : (raiseMomentary k s).pgv = s.pgv := by
  simp [raiseMomentary]
@[simp] theorem raiseMomentary_acu (k : AlarmKind) (s : State) : (raiseMomentary k s).acu = s.acu := by
  simp [raiseMomentary]
@[simp] theorem raiseMomentary_rst (k : AlarmKind) (s : State) : (raiseMomentary k s).rst = s.rst := by
  simp [raiseMomentary]
@[simp] theorem raiseMomentary_pending (k : AlarmKind) (s : State) : (raiseMomentary k s).pending = s.pending := by
  simp [raiseMomentary]

/-! ## makeEntry -/

@[simp] theorem makeEntry_supply (k : EventKind) (s : State) : (makeEntry k s).supply = s.supply := by
  unfold makeEntry; split <;> rfl
@[simp] theorem makeEntry_station (k : EventKind) (s : State) : (makeEntry k s).station = s.station := by
  unfold makeEntry; split <;> rfl
@[simp] theorem makeEntry_startKind (k : EventKind) (s : State) : (makeEntry k s).startKind = s.startKind := by
  unfold makeEntry; split <;> rfl
@[simp] theorem makeEntry_stepsDone (k : EventKind) (s : State) : (makeEntry k s).stepsDone = s.stepsDone := by
  unfold makeEntry; split <;> rfl
@[simp] theorem makeEntry_listenTimer (k : EventKind) (s : State) : (makeEntry k s).listenTimer = s.listenTimer := by
  unfold makeEntry; split <;> rfl
@[simp] theorem makeEntry_number (k : EventKind) (s : State) : (makeEntry k s).number = s.number := by
  unfold makeEntry; split <;> rfl
@[simp] theorem makeEntry_plug (k : EventKind) (s : State) : (makeEntry k s).plug = s.plug := by
  unfold makeEntry; split <;> rfl
@[simp] theorem makeEntry_plugSum (k : EventKind) (s : State) : (makeEntry k s).plugSum = s.plugSum := by
  unfold makeEntry; split <;> rfl
@[simp] theorem makeEntry_ini (k : EventKind) (s : State) : (makeEntry k s).ini = s.ini := by
  unfold makeEntry; split <;> rfl
@[simp] theorem makeEntry_vdu (k : EventKind) (s : State) : (makeEntry k s).vdu = s.vdu := by
  unfold makeEntry; split <;> rfl
@[simp] theorem makeEntry_srk (k : EventKind) (s : State) : (makeEntry k s).srk = s.srk := by
  unfold makeEntry; split <;> rfl
@[simp] theorem makeEntry_mvc (k : EventKind) (s : State) : (makeEntry k s).mvc = s.mvc := by
  unfold makeEntry; split <;> rfl
@[simp] theorem makeEntry_yli (k : EventKind) (s : State) : (makeEntry k s).yli = s.yli := by
  unfold makeEntry; split <;> rfl
@[simp] theorem makeEntry_ysu (k : EventKind) (s : State) : (makeEntry k s).ysu = s.ysu := by
  unfold makeEntry; split <;> rfl
@[simp] theorem makeEntry_pgv (k : EventKind) (s : State) : (makeEntry k s).pgv = s.pgv := by
  unfold makeEntry; split <;> rfl
@[simp] theorem makeEntry_oau (k : EventKind) (s : State) : (makeEntry k s).oau = s.oau := by
  unfold makeEntry; split <;> rfl
@[simp] theorem makeEntry_rst (k : EventKind) (s : State) : (makeEntry k s).rst = s.rst := by
  unfold makeEntry; split <;> rfl
@[simp] theorem makeEntry_pending (k : EventKind) (s : State) : (makeEntry k s).pending = s.pending := by
  unfold makeEntry; split <;> rfl

/-! ## raiseWithEntry -/

@[simp] theorem raiseWithEntry_supply (k : AlarmKind) (e : EventKind) (s : State) : (raiseWithEntry k e s).supply = s.supply := by
  unfold raiseWithEntry; split <;> simp
@[simp] theorem raiseWithEntry_station (k : AlarmKind) (e : EventKind) (s : State) : (raiseWithEntry k e s).station = s.station := by
  unfold raiseWithEntry; split <;> simp
@[simp] theorem raiseWithEntry_startKind (k : AlarmKind) (e : EventKind) (s : State) : (raiseWithEntry k e s).startKind = s.startKind := by
  unfold raiseWithEntry; split <;> simp
@[simp] theorem raiseWithEntry_stepsDone (k : AlarmKind) (e : EventKind) (s : State) : (raiseWithEntry k e s).stepsDone = s.stepsDone := by
  unfold raiseWithEntry; split <;> simp
@[simp] theorem raiseWithEntry_listenTimer (k : AlarmKind) (e : EventKind) (s : State) : (raiseWithEntry k e s).listenTimer = s.listenTimer := by
  unfold raiseWithEntry; split <;> simp
@[simp] theorem raiseWithEntry_number (k : AlarmKind) (e : EventKind) (s : State) : (raiseWithEntry k e s).number = s.number := by
  unfold raiseWithEntry; split <;> simp
@[simp] theorem raiseWithEntry_plug (k : AlarmKind) (e : EventKind) (s : State) : (raiseWithEntry k e s).plug = s.plug := by
  unfold raiseWithEntry; split <;> simp
@[simp] theorem raiseWithEntry_plugSum (k : AlarmKind) (e : EventKind) (s : State) : (raiseWithEntry k e s).plugSum = s.plugSum := by
  unfold raiseWithEntry; split <;> simp
@[simp] theorem raiseWithEntry_ini (k : AlarmKind) (e : EventKind) (s : State) : (raiseWithEntry k e s).ini = s.ini := by
  unfold raiseWithEntry; split <;> simp
@[simp] theorem raiseWithEntry_vdu (k : AlarmKind) (e : EventKind) (s : State) : (raiseWithEntry k e s).vdu = s.vdu := by
  unfold raiseWithEntry; split <;> simp
@[simp] theorem raiseWithEntry_srk (k : AlarmKind) (e : EventKind) (s : State) : (raiseWithEntry k e s).srk = s.srk := by
  unfold raiseWithEntry; split <;> simp
@[simp] theorem raiseWithEntry_mvc (k : AlarmKind) (e : EventKind) (s : State) : (raiseWithEntry k e s).mvc = s.mvc := by
  unfold raiseWithEntry; split <;> simp
@[simp] theorem raiseWithEntry_ysu (k : AlarmKind) (e : EventKind) (s : State) : (raiseWithEntry k e s).ysu = s.ysu := by
  unfold raiseWithEntry; split <;> simp
@[simp] theorem raiseWithEntry_pgv (k : AlarmKind) (e : EventKind) (s : State) : (raiseWithEntry k e s).pgv = s.pgv := by
  unfold raiseWithEntry; split <;> simp
@[simp] theorem raiseWithEntry_rst (k : AlarmKind) (e : EventKind) (s : State) : (raiseWithEntry k e s).rst = s.rst := by
  unfold raiseWithEntry; split <;> simp
@[simp] theorem raiseWithEntry_pending (k : AlarmKind) (e : EventKind) (s : State) : (raiseWithEntry k e s).pending = s.pending := by
  unfold raiseWithEntry; split <;> simp

/-! ## flushReport -/

@[simp] theorem flushReport_supply (s : State) : (flushReport s).supply = s.supply := by
  unfold flushReport; split <;> rfl
@[simp] theorem flushReport_station (s : State) : (flushReport s).station = s.station := by
  unfold flushReport; split <;> rfl
@[simp] theorem flushReport_startKind (s : State) : (flushReport s).startKind = s.startKind := by
  unfold flushReport; split <;> rfl
@[simp] theorem flushReport_stepsDone (s : State) : (flushReport s).stepsDone = s.stepsDone := by
  unfold flushReport; split <;> rfl
@[simp] theorem flushReport_listenTimer (s : State) : (flushReport s).listenTimer = s.listenTimer := by
  unfold flushReport; split <;> rfl
@[simp] theorem flushReport_number (s : State) : (flushReport s).number = s.number := by
  unfold flushReport; split <;> rfl
@[simp] theorem flushReport_plug (s : State) : (flushReport s).plug = s.plug := by
  unfold flushReport; split <;> rfl
@[simp] theorem flushReport_plugSum (s : State) : (flushReport s).plugSum = s.plugSum := by
  unfold flushReport; split <;> rfl
@[simp] theorem flushReport_ini (s : State) : (flushReport s).ini = s.ini := by
  unfold flushReport; split <;> rfl
@[simp] theorem flushReport_vdu (s : State) : (flushReport s).vdu = s.vdu := by
  unfold flushReport; split <;> rfl
@[simp] theorem flushReport_srk (s : State) : (flushReport s).srk = s.srk := by
  unfold flushReport; split <;> rfl
@[simp] theorem flushReport_mvc (s : State) : (flushReport s).mvc = s.mvc := by
  unfold flushReport; split <;> rfl
@[simp] theorem flushReport_ysu (s : State) : (flushReport s).ysu = s.ysu := by
  unfold flushReport; split <;> rfl
@[simp] theorem flushReport_pgv (s : State) : (flushReport s).pgv = s.pgv := by
  unfold flushReport; split <;> rfl
@[simp] theorem flushReport_acu (s : State) : (flushReport s).acu = s.acu := by
  unfold flushReport; split <;> rfl
@[simp] theorem flushReport_oau (s : State) : (flushReport s).oau = s.oau := by
  unfold flushReport; split <;> rfl
@[simp] theorem flushReport_rst (s : State) : (flushReport s).rst = s.rst := by
  unfold flushReport; split <;> rfl
@[simp] theorem flushReport_pending (s : State) : (flushReport s).pending = s.pending := by
  unfold flushReport; split <;> rfl

/-! ## offerMessage -/

@[simp] theorem offerMessage_supply (m : Message) (s : State) : (offerMessage m s).supply = s.supply := by
  simp [offerMessage]
@[simp] theorem offerMessage_station (m : Message) (s : State) : (offerMessage m s).station = s.station := by
  simp [offerMessage]
@[simp] theorem offerMessage_startKind (m : Message) (s : State) : (offerMessage m s).startKind = s.startKind := by
  simp [offerMessage]
@[simp] theorem offerMessage_stepsDone (m : Message) (s : State) : (offerMessage m s).stepsDone = s.stepsDone := by
  simp [offerMessage]
@[simp] theorem offerMessage_listenTimer (m : Message) (s : State) : (offerMessage m s).listenTimer = s.listenTimer := by
  simp [offerMessage]
@[simp] theorem offerMessage_number (m : Message) (s : State) : (offerMessage m s).number = s.number := by
  simp [offerMessage]
@[simp] theorem offerMessage_plug (m : Message) (s : State) : (offerMessage m s).plug = s.plug := by
  simp [offerMessage]
@[simp] theorem offerMessage_plugSum (m : Message) (s : State) : (offerMessage m s).plugSum = s.plugSum := by
  simp [offerMessage]
@[simp] theorem offerMessage_ini (m : Message) (s : State) : (offerMessage m s).ini = s.ini := by
  simp [offerMessage]
@[simp] theorem offerMessage_vdu (m : Message) (s : State) : (offerMessage m s).vdu = s.vdu := by
  simp [offerMessage]
@[simp] theorem offerMessage_srk (m : Message) (s : State) : (offerMessage m s).srk = s.srk := by
  simp [offerMessage]
@[simp] theorem offerMessage_mvc (m : Message) (s : State) : (offerMessage m s).mvc = s.mvc := by
  simp [offerMessage]
@[simp] theorem offerMessage_ysu (m : Message) (s : State) : (offerMessage m s).ysu = s.ysu := by
  simp [offerMessage]
@[simp] theorem offerMessage_pgv (m : Message) (s : State) : (offerMessage m s).pgv = s.pgv := by
  simp [offerMessage]
@[simp] theorem offerMessage_acu (m : Message) (s : State) : (offerMessage m s).acu = s.acu := by
  simp [offerMessage]
@[simp] theorem offerMessage_oau (m : Message) (s : State) : (offerMessage m s).oau = s.oau := by
  simp [offerMessage]
@[simp] theorem offerMessage_rst (m : Message) (s : State) : (offerMessage m s).rst = s.rst := by
  simp [offerMessage]
@[simp] theorem offerMessage_pending (m : Message) (s : State) : (offerMessage m s).pending = s.pending := by
  simp [offerMessage]

/-! ## standbyToWaiting -/

@[simp] theorem standbyToWaiting_supply (s : State) : (standbyToWaiting s).supply = s.supply := by
  unfold standbyToWaiting; split <;> rfl
@[simp] theorem standbyToWaiting_station (s : State) : (standbyToWaiting s).station = s.station := by
  unfold standbyToWaiting; split <;> rfl
@[simp] theorem standbyToWaiting_startKind (s : State) : (standbyToWaiting s).startKind = s.startKind := by
  unfold standbyToWaiting; split <;> rfl
@[simp] theorem standbyToWaiting_stepsDone (s : State) : (standbyToWaiting s).stepsDone = s.stepsDone := by
  unfold standbyToWaiting; split <;> rfl
@[simp] theorem standbyToWaiting_listenTimer (s : State) : (standbyToWaiting s).listenTimer = s.listenTimer := by
  unfold standbyToWaiting; split <;> rfl
@[simp] theorem standbyToWaiting_number (s : State) : (standbyToWaiting s).number = s.number := by
  unfold standbyToWaiting; split <;> rfl
@[simp] theorem standbyToWaiting_plug (s : State) : (standbyToWaiting s).plug = s.plug := by
  unfold standbyToWaiting; split <;> rfl
@[simp] theorem standbyToWaiting_plugSum (s : State) : (standbyToWaiting s).plugSum = s.plugSum := by
  unfold standbyToWaiting; split <;> rfl
@[simp] theorem standbyToWaiting_ini (s : State) : (standbyToWaiting s).ini = s.ini := by
  unfold standbyToWaiting; split <;> rfl
@[simp] theorem standbyToWaiting_vdu (s : State) : (standbyToWaiting s).vdu = s.vdu := by
  unfold standbyToWaiting; split <;> rfl
@[simp] theorem standbyToWaiting_srk (s : State) : (standbyToWaiting s).srk = s.srk := by
  unfold standbyToWaiting; split <;> rfl
@[simp] theorem standbyToWaiting_mvc (s : State) : (standbyToWaiting s).mvc = s.mvc := by
  unfold standbyToWaiting; split <;> rfl
@[simp] theorem standbyToWaiting_ysu (s : State) : (standbyToWaiting s).ysu = s.ysu := by
  unfold standbyToWaiting; split <;> rfl
@[simp] theorem standbyToWaiting_pgv (s : State) : (standbyToWaiting s).pgv = s.pgv := by
  unfold standbyToWaiting; split <;> rfl
@[simp] theorem standbyToWaiting_acu (s : State) : (standbyToWaiting s).acu = s.acu := by
  unfold standbyToWaiting; split <;> rfl
@[simp] theorem standbyToWaiting_oau (s : State) : (standbyToWaiting s).oau = s.oau := by
  unfold standbyToWaiting; split <;> rfl
@[simp] theorem standbyToWaiting_rst (s : State) : (standbyToWaiting s).rst = s.rst := by
  unfold standbyToWaiting; split <;> rfl
@[simp] theorem standbyToWaiting_pending (s : State) : (standbyToWaiting s).pending = s.pending := by
  unfold standbyToWaiting; split <;> rfl

/-! ## txSettle -/

@[simp] theorem txSettle_supply (s : State) : (txSettle s).supply = s.supply := by
  simp [txSettle]
@[simp] theorem txSettle_station (s : State) : (txSettle s).station = s.station := by
  simp [txSettle]
@[simp] theorem txSettle_startKind (s : State) : (txSettle s).startKind = s.startKind := by
  simp [txSettle]
@[simp] theorem txSettle_stepsDone (s : State) : (txSettle s).stepsDone = s.stepsDone := by
  simp [txSettle]
@[simp] theorem txSettle_listenTimer (s : State) : (txSettle s).listenTimer = s.listenTimer := by
  simp [txSettle]
@[simp] theorem txSettle_number (s : State) : (txSettle s).number = s.number := by
  simp [txSettle]
@[simp] theorem txSettle_plug (s : State) : (txSettle s).plug = s.plug := by
  simp [txSettle]
@[simp] theorem txSettle_plugSum (s : State) : (txSettle s).plugSum = s.plugSum := by
  simp [txSettle]
@[simp] theorem txSettle_ini (s : State) : (txSettle s).ini = s.ini := by
  simp [txSettle]
@[simp] theorem txSettle_vdu (s : State) : (txSettle s).vdu = s.vdu := by
  simp [txSettle]
@[simp] theorem txSettle_srk (s : State) : (txSettle s).srk = s.srk := by
  simp [txSettle]
@[simp] theorem txSettle_mvc (s : State) : (txSettle s).mvc = s.mvc := by
  simp [txSettle]
@[simp] theorem txSettle_ysu (s : State) : (txSettle s).ysu = s.ysu := by
  simp [txSettle]
@[simp] theorem txSettle_pgv (s : State) : (txSettle s).pgv = s.pgv := by
  simp [txSettle]
@[simp] theorem txSettle_acu (s : State) : (txSettle s).acu = s.acu := by
  simp [txSettle]
@[simp] theorem txSettle_oau (s : State) : (txSettle s).oau = s.oau := by
  simp [txSettle]
@[simp] theorem txSettle_rst (s : State) : (txSettle s).rst = s.rst := by
  simp [txSettle]
@[simp] theorem txSettle_pending (s : State) : (txSettle s).pending = s.pending := by
  simp [txSettle]

/-! ## afterFrame -/

@[simp] theorem afterFrame_supply (s : State) : (afterFrame s).supply = s.supply := by
  unfold afterFrame; split <;> rfl
@[simp] theorem afterFrame_station (s : State) : (afterFrame s).station = s.station := by
  unfold afterFrame; split <;> rfl
@[simp] theorem afterFrame_startKind (s : State) : (afterFrame s).startKind = s.startKind := by
  unfold afterFrame; split <;> rfl
@[simp] theorem afterFrame_stepsDone (s : State) : (afterFrame s).stepsDone = s.stepsDone := by
  unfold afterFrame; split <;> rfl
@[simp] theorem afterFrame_listenTimer (s : State) : (afterFrame s).listenTimer = s.listenTimer := by
  unfold afterFrame; split <;> rfl
@[simp] theorem afterFrame_number (s : State) : (afterFrame s).number = s.number := by
  unfold afterFrame; split <;> rfl
@[simp] theorem afterFrame_plug (s : State) : (afterFrame s).plug = s.plug := by
  unfold afterFrame; split <;> rfl
@[simp] theorem afterFrame_plugSum (s : State) : (afterFrame s).plugSum = s.plugSum := by
  unfold afterFrame; split <;> rfl
@[simp] theorem afterFrame_ini (s : State) : (afterFrame s).ini = s.ini := by
  unfold afterFrame; split <;> rfl
@[simp] theorem afterFrame_vdu (s : State) : (afterFrame s).vdu = s.vdu := by
  unfold afterFrame; split <;> rfl
@[simp] theorem afterFrame_srk (s : State) : (afterFrame s).srk = s.srk := by
  unfold afterFrame; split <;> rfl
@[simp] theorem afterFrame_mvc (s : State) : (afterFrame s).mvc = s.mvc := by
  unfold afterFrame; split <;> rfl
@[simp] theorem afterFrame_ysu (s : State) : (afterFrame s).ysu = s.ysu := by
  unfold afterFrame; split <;> rfl
@[simp] theorem afterFrame_pgv (s : State) : (afterFrame s).pgv = s.pgv := by
  unfold afterFrame; split <;> rfl
@[simp] theorem afterFrame_acu (s : State) : (afterFrame s).acu = s.acu := by
  unfold afterFrame; split <;> rfl
@[simp] theorem afterFrame_oau (s : State) : (afterFrame s).oau = s.oau := by
  unfold afterFrame; split <;> rfl
@[simp] theorem afterFrame_rst (s : State) : (afterFrame s).rst = s.rst := by
  unfold afterFrame; split <;> rfl
@[simp] theorem afterFrame_pending (s : State) : (afterFrame s).pending = s.pending := by
  unfold afterFrame; split <;> rfl

/-! ## finish -/

@[simp] theorem finish_supply (s : State) : (finish s).supply = s.supply := by
  simp [finish]
@[simp] theorem finish_station (s : State) : (finish s).station = s.station := by
  simp [finish]
@[simp] theorem finish_startKind (s : State) : (finish s).startKind = s.startKind := by
  simp [finish]
@[simp] theorem finish_stepsDone (s : State) : (finish s).stepsDone = s.stepsDone := by
  simp [finish]
@[simp] theorem finish_listenTimer (s : State) : (finish s).listenTimer = s.listenTimer := by
  simp [finish]
@[simp] theorem finish_number (s : State) : (finish s).number = s.number := by
  simp [finish]
@[simp] theorem finish_plug (s : State) : (finish s).plug = s.plug := by
  simp [finish]
@[simp] theorem finish_plugSum (s : State) : (finish s).plugSum = s.plugSum := by
  simp [finish]
@[simp] theorem finish_ini (s : State) : (finish s).ini = s.ini := by
  simp [finish]
@[simp] theorem finish_vdu (s : State) : (finish s).vdu = s.vdu := by
  simp [finish]
@[simp] theorem finish_srk (s : State) : (finish s).srk = s.srk := by
  simp [finish]
@[simp] theorem finish_mvc (s : State) : (finish s).mvc = s.mvc := by
  simp [finish]
@[simp] theorem finish_ysu (s : State) : (finish s).ysu = s.ysu := by
  simp [finish]
@[simp] theorem finish_pgv (s : State) : (finish s).pgv = s.pgv := by
  simp [finish]
@[simp] theorem finish_acu (s : State) : (finish s).acu = s.acu := by
  simp [finish]
@[simp] theorem finish_oau (s : State) : (finish s).oau = s.oau := by
  simp [finish]
@[simp] theorem finish_rst (s : State) : (finish s).rst = s.rst := by
  simp [finish]
@[simp] theorem finish_pending (s : State) : (finish s).pending = s.pending := by
  simp [finish]

/-! ## judgeMode -/

@[simp] theorem judgeMode_supply (s : State) : (judgeMode s).supply = s.supply := by
  unfold judgeMode; dsimp only; split; · rfl
  split; · rfl
  split <;> rfl
@[simp] theorem judgeMode_station (s : State) : (judgeMode s).station = s.station := by
  unfold judgeMode; dsimp only; split; · rfl
  split; · rfl
  split <;> rfl
@[simp] theorem judgeMode_startKind (s : State) : (judgeMode s).startKind = s.startKind := by
  unfold judgeMode; dsimp only; split; · rfl
  split; · rfl
  split <;> rfl
@[simp] theorem judgeMode_stepsDone (s : State) : (judgeMode s).stepsDone = s.stepsDone := by
  unfold judgeMode; dsimp only; split; · rfl
  split; · rfl
  split <;> rfl
@[simp] theorem judgeMode_listenTimer (s : State) : (judgeMode s).listenTimer = s.listenTimer := by
  unfold judgeMode; dsimp only; split; · rfl
  split; · rfl
  split <;> rfl
@[simp] theorem judgeMode_number (s : State) : (judgeMode s).number = s.number := by
  unfold judgeMode; dsimp only; split; · rfl
  split; · rfl
  split <;> rfl
@[simp] theorem judgeMode_plug (s : State) : (judgeMode s).plug = s.plug := by
  unfold judgeMode; dsimp only; split; · rfl
  split; · rfl
  split <;> rfl
@[simp] theorem judgeMode_plugSum (s : State) : (judgeMode s).plugSum = s.plugSum := by
  unfold judgeMode; dsimp only; split; · rfl
  split; · rfl
  split <;> rfl
@[simp] theorem judgeMode_ini (s : State) : (judgeMode s).ini = s.ini := by
  unfold judgeMode; dsimp only; split; · rfl
  split; · rfl
  split <;> rfl
@[simp] theorem judgeMode_srk (s : State) : (judgeMode s).srk = s.srk := by
  unfold judgeMode; dsimp only; split; · rfl
  split; · rfl
  split <;> rfl
@[simp] theorem judgeMode_mvc (s : State) : (judgeMode s).mvc = s.mvc := by
  unfold judgeMode; dsimp only; split; · rfl
  split; · rfl
  split <;> rfl
@[simp] theorem judgeMode_yli (s : State) : (judgeMode s).yli = s.yli := by
  unfold judgeMode; dsimp only; split; · rfl
  split; · rfl
  split <;> rfl
@[simp] theorem judgeMode_ysu (s : State) : (judgeMode s).ysu = s.ysu := by
  unfold judgeMode; dsimp only; split; · rfl
  split; · rfl
  split <;> rfl
@[simp] theorem judgeMode_acu (s : State) : (judgeMode s).acu = s.acu := by
  unfold judgeMode; dsimp only; split; · rfl
  split; · rfl
  split <;> rfl
@[simp] theorem judgeMode_oau (s : State) : (judgeMode s).oau = s.oau := by
  unfold judgeMode; dsimp only; split; · rfl
  split; · rfl
  split <;> rfl
@[simp] theorem judgeMode_rst (s : State) : (judgeMode s).rst = s.rst := by
  unfold judgeMode; dsimp only; split; · rfl
  split; · rfl
  split <;> rfl
@[simp] theorem judgeMode_pending (s : State) : (judgeMode s).pending = s.pending := by
  unfold judgeMode; dsimp only; split; · rfl
  split; · rfl
  split <;> rfl

/-! ## followLowest -/

@[simp] theorem followLowest_supply (s : State) : (followLowest s).supply = s.supply := by
  unfold followLowest; split; swap; · rfl
  dsimp only; split <;> (split <;> rfl)
@[simp] theorem followLowest_station (s : State) : (followLowest s).station = s.station := by
  unfold followLowest; split; swap; · rfl
  dsimp only; split <;> (split <;> rfl)
@[simp] theorem followLowest_startKind (s : State) : (followLowest s).startKind = s.startKind := by
  unfold followLowest; split; swap; · rfl
  dsimp only; split <;> (split <;> rfl)
@[simp] theorem followLowest_stepsDone (s : State) : (followLowest s).stepsDone = s.stepsDone := by
  unfold followLowest; split; swap; · rfl
  dsimp only; split <;> (split <;> rfl)
@[simp] theorem followLowest_listenTimer (s : State) : (followLowest s).listenTimer = s.listenTimer := by
  unfold followLowest; split; swap; · rfl
  dsimp only; split <;> (split <;> rfl)
@[simp] theorem followLowest_number (s : State) : (followLowest s).number = s.number := by
  unfold followLowest; split; swap; · rfl
  dsimp only; split <;> (split <;> rfl)
@[simp] theorem followLowest_plug (s : State) : (followLowest s).plug = s.plug := by
  unfold followLowest; split; swap; · rfl
  dsimp only; split <;> (split <;> rfl)
@[simp] theorem followLowest_plugSum (s : State) : (followLowest s).plugSum = s.plugSum := by
  unfold followLowest; split; swap; · rfl
  dsimp only; split <;> (split <;> rfl)
@[simp] theorem followLowest_ini (s : State) : (followLowest s).ini = s.ini := by
  unfold followLowest; split; swap; · rfl
  dsimp only; split <;> (split <;> rfl)
@[simp] theorem followLowest_vdu (s : State) : (followLowest s).vdu = s.vdu := by
  unfold followLowest; split; swap; · rfl
  dsimp only; split <;> (split <;> rfl)
@[simp] theorem followLowest_srk (s : State) : (followLowest s).srk = s.srk := by
  unfold followLowest; split; swap; · rfl
  dsimp only; split <;> (split <;> rfl)
@[simp] theorem followLowest_mvc (s : State) : (followLowest s).mvc = s.mvc := by
  unfold followLowest; split; swap; · rfl
  dsimp only; split <;> (split <;> rfl)
@[simp] theorem followLowest_yli (s : State) : (followLowest s).yli = s.yli := by
  unfold followLowest; split; swap; · rfl
  dsimp only; split <;> (split <;> rfl)
@[simp] theorem followLowest_ysu (s : State) : (followLowest s).ysu = s.ysu := by
  unfold followLowest; split; swap; · rfl
  dsimp only; split <;> (split <;> rfl)
@[simp] theorem followLowest_oau (s : State) : (followLowest s).oau = s.oau := by
  unfold followLowest; split; swap; · rfl
  dsimp only; split <;> (split <;> rfl)
@[simp] theorem followLowest_rst (s : State) : (followLowest s).rst = s.rst := by
  unfold followLowest; split; swap; · rfl
  dsimp only; split <;> (split <;> rfl)
@[simp] theorem followLowest_pending (s : State) : (followLowest s).pending = s.pending := by
  unfold followLowest; split; swap; · rfl
  dsimp only; split <;> (split <;> rfl)

/-! ## beginWrite -/

@[simp] theorem beginWrite_supply (s : State) : (beginWrite s).supply = s.supply := by
  unfold beginWrite; split; · rfl
  split <;> rfl
@[simp] theorem beginWrite_station (s : State) : (beginWrite s).station = s.station := by
  unfold beginWrite; split; · rfl
  split <;> rfl
@[simp] theorem beginWrite_startKind (s : State) : (beginWrite s).startKind = s.startKind := by
  unfold beginWrite; split; · rfl
  split <;> rfl
@[simp] theorem beginWrite_stepsDone (s : State) : (beginWrite s).stepsDone = s.stepsDone := by
  unfold beginWrite; split; · rfl
  split <;> rfl
@[simp] theorem beginWrite_listenTimer (s : State) : (beginWrite s).listenTimer = s.listenTimer := by
  unfold beginWrite; split; · rfl
  split <;> rfl
@[simp] theorem beginWrite_number (s : State) : (beginWrite s).number = s.number := by
  unfold beginWrite; split; · rfl
  split <;> rfl
@[simp] theorem beginWrite_plug (s : State) : (beginWrite s).plug = s.plug := by
  unfold beginWrite; split; · rfl
  split <;> rfl
@[simp] theorem beginWrite_plugSum (s : State) : (beginWrite s).plugSum = s.plugSum := by
  unfold beginWrite; split; · rfl
  split <;> rfl
@[simp] theorem beginWrite_ini (s : State) : (beginWrite s).ini = s.ini := by
  unfold beginWrite; split; · rfl
  split <;> rfl
@[simp] theorem beginWrite_vdu (s : State) : (beginWrite s).vdu = s.vdu := by
  unfold beginWrite; split; · rfl
  split <;> rfl
@[simp] theorem beginWrite_srk (s : State) : (beginWrite s).srk = s.srk := by
  unfold beginWrite; split; · rfl
  split <;> rfl
@[simp] theorem beginWrite_mvc (s : State) : (beginWrite s).mvc = s.mvc := by
  unfold beginWrite; split; · rfl
  split <;> rfl
@[simp] theorem beginWrite_yli (s : State) : (beginWrite s).yli = s.yli := by
  unfold beginWrite; split; · rfl
  split <;> rfl
@[simp] theorem beginWrite_ysu (s : State) : (beginWrite s).ysu = s.ysu := by
  unfold beginWrite; split; · rfl
  split <;> rfl
@[simp] theorem beginWrite_pgv (s : State) : (beginWrite s).pgv = s.pgv := by
  unfold beginWrite; split; · rfl
  split <;> rfl
@[simp] theorem beginWrite_acu (s : State) : (beginWrite s).acu = s.acu := by
  unfold beginWrite; split; · rfl
  split <;> rfl
@[simp] theorem beginWrite_oau (s : State) : (beginWrite s).oau = s.oau := by
  unfold beginWrite; split; · rfl
  split <;> rfl
@[simp] theorem beginWrite_pending (s : State) : (beginWrite s).pending = s.pending := by
  unfold beginWrite; split; · rfl
  split <;> rfl

/-! ## judgeSilentWindow -/

@[simp] theorem judgeSilentWindow_supply (s : State) : (judgeSilentWindow s).supply = s.supply := by
  unfold judgeSilentWindow; split; · split <;> rfl
  rfl
@[simp] theorem judgeSilentWindow_station (s : State) : (judgeSilentWindow s).station = s.station := by
  unfold judgeSilentWindow; split; · split <;> rfl
  rfl
@[simp] theorem judgeSilentWindow_startKind (s : State) : (judgeSilentWindow s).startKind = s.startKind := by
  unfold judgeSilentWindow; split; · split <;> rfl
  rfl
@[simp] theorem judgeSilentWindow_stepsDone (s : State) : (judgeSilentWindow s).stepsDone = s.stepsDone := by
  unfold judgeSilentWindow; split; · split <;> rfl
  rfl
@[simp] theorem judgeSilentWindow_listenTimer (s : State) : (judgeSilentWindow s).listenTimer = s.listenTimer := by
  unfold judgeSilentWindow; split; · split <;> rfl
  rfl
@[simp] theorem judgeSilentWindow_number (s : State) : (judgeSilentWindow s).number = s.number := by
  unfold judgeSilentWindow; split; · split <;> rfl
  rfl
@[simp] theorem judgeSilentWindow_plug (s : State) : (judgeSilentWindow s).plug = s.plug := by
  unfold judgeSilentWindow; split; · split <;> rfl
  rfl
@[simp] theorem judgeSilentWindow_plugSum (s : State) : (judgeSilentWindow s).plugSum = s.plugSum := by
  unfold judgeSilentWindow; split; · split <;> rfl
  rfl
@[simp] theorem judgeSilentWindow_ini (s : State) : (judgeSilentWindow s).ini = s.ini := by
  unfold judgeSilentWindow; split; · split <;> rfl
  rfl
@[simp] theorem judgeSilentWindow_vdu (s : State) : (judgeSilentWindow s).vdu = s.vdu := by
  unfold judgeSilentWindow; split; · split <;> rfl
  rfl
@[simp] theorem judgeSilentWindow_srk (s : State) : (judgeSilentWindow s).srk = s.srk := by
  unfold judgeSilentWindow; split; · split <;> rfl
  rfl
@[simp] theorem judgeSilentWindow_mvc (s : State) : (judgeSilentWindow s).mvc = s.mvc := by
  unfold judgeSilentWindow; split; · split <;> rfl
  rfl
@[simp] theorem judgeSilentWindow_yli (s : State) : (judgeSilentWindow s).yli = s.yli := by
  unfold judgeSilentWindow; split; · split <;> rfl
  rfl
@[simp] theorem judgeSilentWindow_ysu (s : State) : (judgeSilentWindow s).ysu = s.ysu := by
  unfold judgeSilentWindow; split; · split <;> rfl
  rfl
@[simp] theorem judgeSilentWindow_pgv (s : State) : (judgeSilentWindow s).pgv = s.pgv := by
  unfold judgeSilentWindow; split; · split <;> rfl
  rfl
@[simp] theorem judgeSilentWindow_oau (s : State) : (judgeSilentWindow s).oau = s.oau := by
  unfold judgeSilentWindow; split; · split <;> rfl
  rfl
@[simp] theorem judgeSilentWindow_rst (s : State) : (judgeSilentWindow s).rst = s.rst := by
  unfold judgeSilentWindow; split; · split <;> rfl
  rfl
@[simp] theorem judgeSilentWindow_pending (s : State) : (judgeSilentWindow s).pending = s.pending := by
  unfold judgeSilentWindow; split; · split <;> rfl
  rfl

/-! ## judgeLossWindow -/

@[simp] theorem judgeLossWindow_supply (s : State) : (judgeLossWindow s).supply = s.supply := by
  unfold judgeLossWindow; split; · split <;> rfl
  rfl
@[simp] theorem judgeLossWindow_station (s : State) : (judgeLossWindow s).station = s.station := by
  unfold judgeLossWindow; split; · split <;> rfl
  rfl
@[simp] theorem judgeLossWindow_startKind (s : State) : (judgeLossWindow s).startKind = s.startKind := by
  unfold judgeLossWindow; split; · split <;> rfl
  rfl
@[simp] theorem judgeLossWindow_stepsDone (s : State) : (judgeLossWindow s).stepsDone = s.stepsDone := by
  unfold judgeLossWindow; split; · split <;> rfl
  rfl
@[simp] theorem judgeLossWindow_listenTimer (s : State) : (judgeLossWindow s).listenTimer = s.listenTimer := by
  unfold judgeLossWindow; split; · split <;> rfl
  rfl
@[simp] theorem judgeLossWindow_number (s : State) : (judgeLossWindow s).number = s.number := by
  unfold judgeLossWindow; split; · split <;> rfl
  rfl
@[simp] theorem judgeLossWindow_plug (s : State) : (judgeLossWindow s).plug = s.plug := by
  unfold judgeLossWindow; split; · split <;> rfl
  rfl
@[simp] theorem judgeLossWindow_plugSum (s : State) : (judgeLossWindow s).plugSum = s.plugSum := by
  unfold judgeLossWindow; split; · split <;> rfl
  rfl
@[simp] theorem judgeLossWindow_ini (s : State) : (judgeLossWindow s).ini = s.ini := by
  unfold judgeLossWindow; split; · split <;> rfl
  rfl
@[simp] theorem judgeLossWindow_vdu (s : State) : (judgeLossWindow s).vdu = s.vdu := by
  unfold judgeLossWindow; split; · split <;> rfl
  rfl
@[simp] theorem judgeLossWindow_srk (s : State) : (judgeLossWindow s).srk = s.srk := by
  unfold judgeLossWindow; split; · split <;> rfl
  rfl
@[simp] theorem judgeLossWindow_yli (s : State) : (judgeLossWindow s).yli = s.yli := by
  unfold judgeLossWindow; split; · split <;> rfl
  rfl
@[simp] theorem judgeLossWindow_ysu (s : State) : (judgeLossWindow s).ysu = s.ysu := by
  unfold judgeLossWindow; split; · split <;> rfl
  rfl
@[simp] theorem judgeLossWindow_pgv (s : State) : (judgeLossWindow s).pgv = s.pgv := by
  unfold judgeLossWindow; split; · split <;> rfl
  rfl
@[simp] theorem judgeLossWindow_acu (s : State) : (judgeLossWindow s).acu = s.acu := by
  unfold judgeLossWindow; split; · split <;> rfl
  rfl
@[simp] theorem judgeLossWindow_oau (s : State) : (judgeLossWindow s).oau = s.oau := by
  unfold judgeLossWindow; split; · split <;> rfl
  rfl
@[simp] theorem judgeLossWindow_rst (s : State) : (judgeLossWindow s).rst = s.rst := by
  unfold judgeLossWindow; split; · split <;> rfl
  rfl
@[simp] theorem judgeLossWindow_pending (s : State) : (judgeLossWindow s).pending = s.pending := by
  unfold judgeLossWindow; split; · split <;> rfl
  rfl

/-! ## judgeLimitGuard -/

@[simp] theorem judgeLimitGuard_supply (s : State) : (judgeLimitGuard s).supply = s.supply := by
  unfold judgeLimitGuard; split <;> simp
@[simp] theorem judgeLimitGuard_station (s : State) : (judgeLimitGuard s).station = s.station := by
  unfold judgeLimitGuard; split <;> simp
@[simp] theorem judgeLimitGuard_startKind (s : State) : (judgeLimitGuard s).startKind = s.startKind := by
  unfold judgeLimitGuard; split <;> simp
@[simp] theorem judgeLimitGuard_stepsDone (s : State) : (judgeLimitGuard s).stepsDone = s.stepsDone := by
  unfold judgeLimitGuard; split <;> simp
@[simp] theorem judgeLimitGuard_listenTimer (s : State) : (judgeLimitGuard s).listenTimer = s.listenTimer := by
  unfold judgeLimitGuard; split <;> simp
@[simp] theorem judgeLimitGuard_number (s : State) : (judgeLimitGuard s).number = s.number := by
  unfold judgeLimitGuard; split <;> simp
@[simp] theorem judgeLimitGuard_plug (s : State) : (judgeLimitGuard s).plug = s.plug := by
  unfold judgeLimitGuard; split <;> simp
@[simp] theorem judgeLimitGuard_plugSum (s : State) : (judgeLimitGuard s).plugSum = s.plugSum := by
  unfold judgeLimitGuard; split <;> simp
@[simp] theorem judgeLimitGuard_ini (s : State) : (judgeLimitGuard s).ini = s.ini := by
  unfold judgeLimitGuard; split <;> simp
@[simp] theorem judgeLimitGuard_vdu (s : State) : (judgeLimitGuard s).vdu = s.vdu := by
  unfold judgeLimitGuard; split <;> simp
@[simp] theorem judgeLimitGuard_srk (s : State) : (judgeLimitGuard s).srk = s.srk := by
  unfold judgeLimitGuard; split <;> simp
@[simp] theorem judgeLimitGuard_mvc (s : State) : (judgeLimitGuard s).mvc = s.mvc := by
  unfold judgeLimitGuard; split <;> simp
@[simp] theorem judgeLimitGuard_ysu (s : State) : (judgeLimitGuard s).ysu = s.ysu := by
  unfold judgeLimitGuard; split <;> simp
@[simp] theorem judgeLimitGuard_pgv (s : State) : (judgeLimitGuard s).pgv = s.pgv := by
  unfold judgeLimitGuard; split <;> simp
@[simp] theorem judgeLimitGuard_rst (s : State) : (judgeLimitGuard s).rst = s.rst := by
  unfold judgeLimitGuard; split <;> simp
@[simp] theorem judgeLimitGuard_pending (s : State) : (judgeLimitGuard s).pending = s.pending := by
  unfold judgeLimitGuard; split <;> simp

/-! ## signalGrade -/

@[simp] theorem signalGrade_supply (st : StockStatus) (s : State) : (signalGrade st s).supply = s.supply := by
  cases st <;> simp [signalGrade]
@[simp] theorem signalGrade_station (st : StockStatus) (s : State) : (signalGrade st s).station = s.station := by
  cases st <;> simp [signalGrade]
@[simp] theorem signalGrade_startKind (st : StockStatus) (s : State) : (signalGrade st s).startKind = s.startKind := by
  cases st <;> simp [signalGrade]
@[simp] theorem signalGrade_stepsDone (st : StockStatus) (s : State) : (signalGrade st s).stepsDone = s.stepsDone := by
  cases st <;> simp [signalGrade]
@[simp] theorem signalGrade_listenTimer (st : StockStatus) (s : State) : (signalGrade st s).listenTimer = s.listenTimer := by
  cases st <;> simp [signalGrade]
@[simp] theorem signalGrade_number (st : StockStatus) (s : State) : (signalGrade st s).number = s.number := by
  cases st <;> simp [signalGrade]
@[simp] theorem signalGrade_plug (st : StockStatus) (s : State) : (signalGrade st s).plug = s.plug := by
  cases st <;> simp [signalGrade]
@[simp] theorem signalGrade_plugSum (st : StockStatus) (s : State) : (signalGrade st s).plugSum = s.plugSum := by
  cases st <;> simp [signalGrade]
@[simp] theorem signalGrade_ini (st : StockStatus) (s : State) : (signalGrade st s).ini = s.ini := by
  cases st <;> simp [signalGrade]
@[simp] theorem signalGrade_vdu (st : StockStatus) (s : State) : (signalGrade st s).vdu = s.vdu := by
  cases st <;> simp [signalGrade]
@[simp] theorem signalGrade_srk (st : StockStatus) (s : State) : (signalGrade st s).srk = s.srk := by
  cases st <;> simp [signalGrade]
@[simp] theorem signalGrade_mvc (st : StockStatus) (s : State) : (signalGrade st s).mvc = s.mvc := by
  cases st <;> simp [signalGrade]
@[simp] theorem signalGrade_ysu (st : StockStatus) (s : State) : (signalGrade st s).ysu = s.ysu := by
  cases st <;> simp [signalGrade]
@[simp] theorem signalGrade_pgv (st : StockStatus) (s : State) : (signalGrade st s).pgv = s.pgv := by
  cases st <;> simp [signalGrade]
@[simp] theorem signalGrade_rst (st : StockStatus) (s : State) : (signalGrade st s).rst = s.rst := by
  cases st <;> simp [signalGrade]
@[simp] theorem signalGrade_pending (st : StockStatus) (s : State) : (signalGrade st s).pending = s.pending := by
  cases st <;> simp [signalGrade]

/-! ## signalDrive -/

@[simp] theorem signalDrive_supply (d : Side) (a b : DriveState) (s : State) : (signalDrive d a b s).supply = s.supply := by
  unfold signalDrive; split; · simp
  split <;> simp
@[simp] theorem signalDrive_station (d : Side) (a b : DriveState) (s : State) : (signalDrive d a b s).station = s.station := by
  unfold signalDrive; split; · simp
  split <;> simp
@[simp] theorem signalDrive_startKind (d : Side) (a b : DriveState) (s : State) : (signalDrive d a b s).startKind = s.startKind := by
  unfold signalDrive; split; · simp
  split <;> simp
@[simp] theorem signalDrive_stepsDone (d : Side) (a b : DriveState) (s : State) : (signalDrive d a b s).stepsDone = s.stepsDone := by
  unfold signalDrive; split; · simp
  split <;> simp
@[simp] theorem signalDrive_listenTimer (d : Side) (a b : DriveState) (s : State) : (signalDrive d a b s).listenTimer = s.listenTimer := by
  unfold signalDrive; split; · simp
  split <;> simp
@[simp] theorem signalDrive_number (d : Side) (a b : DriveState) (s : State) : (signalDrive d a b s).number = s.number := by
  unfold signalDrive; split; · simp
  split <;> simp
@[simp] theorem signalDrive_plug (d : Side) (a b : DriveState) (s : State) : (signalDrive d a b s).plug = s.plug := by
  unfold signalDrive; split; · simp
  split <;> simp
@[simp] theorem signalDrive_plugSum (d : Side) (a b : DriveState) (s : State) : (signalDrive d a b s).plugSum = s.plugSum := by
  unfold signalDrive; split; · simp
  split <;> simp
@[simp] theorem signalDrive_ini (d : Side) (a b : DriveState) (s : State) : (signalDrive d a b s).ini = s.ini := by
  unfold signalDrive; split; · simp
  split <;> simp
@[simp] theorem signalDrive_vdu (d : Side) (a b : DriveState) (s : State) : (signalDrive d a b s).vdu = s.vdu := by
  unfold signalDrive; split; · simp
  split <;> simp
@[simp] theorem signalDrive_srk (d : Side) (a b : DriveState) (s : State) : (signalDrive d a b s).srk = s.srk := by
  unfold signalDrive; split; · simp
  split <;> simp
@[simp] theorem signalDrive_mvc (d : Side) (a b : DriveState) (s : State) : (signalDrive d a b s).mvc = s.mvc := by
  unfold signalDrive; split; · simp
  split <;> simp
@[simp] theorem signalDrive_ysu (d : Side) (a b : DriveState) (s : State) : (signalDrive d a b s).ysu = s.ysu := by
  unfold signalDrive; split; · simp
  split <;> simp
@[simp] theorem signalDrive_pgv (d : Side) (a b : DriveState) (s : State) : (signalDrive d a b s).pgv = s.pgv := by
  unfold signalDrive; split; · simp
  split <;> simp
@[simp] theorem signalDrive_rst (d : Side) (a b : DriveState) (s : State) : (signalDrive d a b s).rst = s.rst := by
  unfold signalDrive; split; · simp
  split <;> simp
@[simp] theorem signalDrive_pending (d : Side) (a b : DriveState) (s : State) : (signalDrive d a b s).pending = s.pending := by
  unfold signalDrive; split; · simp
  split <;> simp

/-! ## reckon -/

@[simp] theorem reckon_supply (s : State) : (reckon s).supply = s.supply := by
  unfold reckon; dsimp only; split <;> simp
@[simp] theorem reckon_station (s : State) : (reckon s).station = s.station := by
  unfold reckon; dsimp only; split <;> simp
@[simp] theorem reckon_startKind (s : State) : (reckon s).startKind = s.startKind := by
  unfold reckon; dsimp only; split <;> simp
@[simp] theorem reckon_stepsDone (s : State) : (reckon s).stepsDone = s.stepsDone := by
  unfold reckon; dsimp only; split <;> simp
@[simp] theorem reckon_listenTimer (s : State) : (reckon s).listenTimer = s.listenTimer := by
  unfold reckon; dsimp only; split <;> simp
@[simp] theorem reckon_number (s : State) : (reckon s).number = s.number := by
  unfold reckon; dsimp only; split <;> simp
@[simp] theorem reckon_plug (s : State) : (reckon s).plug = s.plug := by
  unfold reckon; dsimp only; split <;> simp
@[simp] theorem reckon_plugSum (s : State) : (reckon s).plugSum = s.plugSum := by
  unfold reckon; dsimp only; split <;> simp
@[simp] theorem reckon_ini (s : State) : (reckon s).ini = s.ini := by
  unfold reckon; dsimp only; split <;> simp
@[simp] theorem reckon_vdu (s : State) : (reckon s).vdu = s.vdu := by
  unfold reckon; dsimp only; split <;> simp
@[simp] theorem reckon_ysu (s : State) : (reckon s).ysu = s.ysu := by
  unfold reckon; dsimp only; split <;> simp
@[simp] theorem reckon_pgv (s : State) : (reckon s).pgv = s.pgv := by
  unfold reckon; dsimp only; split <;> simp
@[simp] theorem reckon_rst (s : State) : (reckon s).rst = s.rst := by
  unfold reckon; dsimp only; split <;> simp
@[simp] theorem reckon_pending (s : State) : (reckon s).pending = s.pending := by
  unfold reckon; dsimp only; split <;> simp

/-! ## regrade -/

@[simp] theorem regrade_supply (s : State) : (regrade s).supply = s.supply := by
  unfold regrade; split; swap; · rfl
  dsimp only; split; · rfl
  simp
@[simp] theorem regrade_station (s : State) : (regrade s).station = s.station := by
  unfold regrade; split; swap; · rfl
  dsimp only; split; · rfl
  simp
@[simp] theorem regrade_startKind (s : State) : (regrade s).startKind = s.startKind := by
  unfold regrade; split; swap; · rfl
  dsimp only; split; · rfl
  simp
@[simp] theorem regrade_stepsDone (s : State) : (regrade s).stepsDone = s.stepsDone := by
  unfold regrade; split; swap; · rfl
  dsimp only; split; · rfl
  simp
@[simp] theorem regrade_listenTimer (s : State) : (regrade s).listenTimer = s.listenTimer := by
  unfold regrade; split; swap; · rfl
  dsimp only; split; · rfl
  simp
@[simp] theorem regrade_number (s : State) : (regrade s).number = s.number := by
  unfold regrade; split; swap; · rfl
  dsimp only; split; · rfl
  simp
@[simp] theorem regrade_plug (s : State) : (regrade s).plug = s.plug := by
  unfold regrade; split; swap; · rfl
  dsimp only; split; · rfl
  simp
@[simp] theorem regrade_plugSum (s : State) : (regrade s).plugSum = s.plugSum := by
  unfold regrade; split; swap; · rfl
  dsimp only; split; · rfl
  simp
@[simp] theorem regrade_ini (s : State) : (regrade s).ini = s.ini := by
  unfold regrade; split; swap; · rfl
  dsimp only; split; · rfl
  simp
@[simp] theorem regrade_vdu (s : State) : (regrade s).vdu = s.vdu := by
  unfold regrade; split; swap; · rfl
  dsimp only; split; · rfl
  simp
@[simp] theorem regrade_ysu (s : State) : (regrade s).ysu = s.ysu := by
  unfold regrade; split; swap; · rfl
  dsimp only; split; · rfl
  simp
@[simp] theorem regrade_pgv (s : State) : (regrade s).pgv = s.pgv := by
  unfold regrade; split; swap; · rfl
  dsimp only; split; · rfl
  simp
@[simp] theorem regrade_rst (s : State) : (regrade s).rst = s.rst := by
  unfold regrade; split; swap; · rfl
  dsimp only; split; · rfl
  simp
@[simp] theorem regrade_pending (s : State) : (regrade s).pending = s.pending := by
  unfold regrade; split; swap; · rfl
  dsimp only; split; · rfl
  simp

/-! ## endLanding -/

@[simp] theorem endLanding_supply (s : State) : (endLanding s).supply = s.supply := by
  simp [endLanding]
@[simp] theorem endLanding_station (s : State) : (endLanding s).station = s.station := by
  simp [endLanding]
@[simp] theorem endLanding_startKind (s : State) : (endLanding s).startKind = s.startKind := by
  simp [endLanding]
@[simp] theorem endLanding_stepsDone (s : State) : (endLanding s).stepsDone = s.stepsDone := by
  simp [endLanding]
@[simp] theorem endLanding_listenTimer (s : State) : (endLanding s).listenTimer = s.listenTimer := by
  simp [endLanding]
@[simp] theorem endLanding_number (s : State) : (endLanding s).number = s.number := by
  simp [endLanding]
@[simp] theorem endLanding_plug (s : State) : (endLanding s).plug = s.plug := by
  simp [endLanding]
@[simp] theorem endLanding_plugSum (s : State) : (endLanding s).plugSum = s.plugSum := by
  simp [endLanding]
@[simp] theorem endLanding_ini (s : State) : (endLanding s).ini = s.ini := by
  simp [endLanding]
@[simp] theorem endLanding_vdu (s : State) : (endLanding s).vdu = s.vdu := by
  simp [endLanding]
@[simp] theorem endLanding_srk (s : State) : (endLanding s).srk = s.srk := by
  simp [endLanding]
@[simp] theorem endLanding_ysu (s : State) : (endLanding s).ysu = s.ysu := by
  simp [endLanding]
@[simp] theorem endLanding_pgv (s : State) : (endLanding s).pgv = s.pgv := by
  simp [endLanding]
@[simp] theorem endLanding_rst (s : State) : (endLanding s).rst = s.rst := by
  simp [endLanding]
@[simp] theorem endLanding_pending (s : State) : (endLanding s).pending = s.pending := by
  simp [endLanding]

/-! ## putDrive -/

@[simp] theorem putDrive_supply (d : Side) (x : Drive) (s : State) : (putDrive d x s).supply = s.supply := by
  unfold putDrive; dsimp only; split; · rfl
  simp only [judgeSilentWindow_supply, judgeLossWindow_supply]
  split <;> split <;> simp
@[simp] theorem putDrive_station (d : Side) (x : Drive) (s : State) : (putDrive d x s).station = s.station := by
  unfold putDrive; dsimp only; split; · rfl
  simp only [judgeSilentWindow_station, judgeLossWindow_station]
  split <;> split <;> simp
@[simp] theorem putDrive_startKind (d : Side) (x : Drive) (s : State) : (putDrive d x s).startKind = s.startKind := by
  unfold putDrive; dsimp only; split; · rfl
  simp only [judgeSilentWindow_startKind, judgeLossWindow_startKind]
  split <;> split <;> simp
@[simp] theorem putDrive_stepsDone (d : Side) (x : Drive) (s : State) : (putDrive d x s).stepsDone = s.stepsDone := by
  unfold putDrive; dsimp only; split; · rfl
  simp only [judgeSilentWindow_stepsDone, judgeLossWindow_stepsDone]
  split <;> split <;> simp
@[simp] theorem putDrive_listenTimer (d : Side) (x : Drive) (s : State) : (putDrive d x s).listenTimer = s.listenTimer := by
  unfold putDrive; dsimp only; split; · rfl
  simp only [judgeSilentWindow_listenTimer, judgeLossWindow_listenTimer]
  split <;> split <;> simp
@[simp] theorem putDrive_number (d : Side) (x : Drive) (s : State) : (putDrive d x s).number = s.number := by
  unfold putDrive; dsimp only; split; · rfl
  simp only [judgeSilentWindow_number, judgeLossWindow_number]
  split <;> split <;> simp
@[simp] theorem putDrive_plug (d : Side) (x : Drive) (s : State) : (putDrive d x s).plug = s.plug := by
  unfold putDrive; dsimp only; split; · rfl
  simp only [judgeSilentWindow_plug, judgeLossWindow_plug]
  split <;> split <;> simp
@[simp] theorem putDrive_plugSum (d : Side) (x : Drive) (s : State) : (putDrive d x s).plugSum = s.plugSum := by
  unfold putDrive; dsimp only; split; · rfl
  simp only [judgeSilentWindow_plugSum, judgeLossWindow_plugSum]
  split <;> split <;> simp
@[simp] theorem putDrive_ini (d : Side) (x : Drive) (s : State) : (putDrive d x s).ini = s.ini := by
  unfold putDrive; dsimp only; split; · rfl
  simp only [judgeSilentWindow_ini, judgeLossWindow_ini]
  split <;> split <;> simp
@[simp] theorem putDrive_srk (d : Side) (x : Drive) (s : State) : (putDrive d x s).srk = s.srk := by
  unfold putDrive; dsimp only; split; · rfl
  simp only [judgeSilentWindow_srk, judgeLossWindow_srk]
  split <;> split <;> simp
@[simp] theorem putDrive_ysu (d : Side) (x : Drive) (s : State) : (putDrive d x s).ysu = s.ysu := by
  unfold putDrive; dsimp only; split; · rfl
  simp only [judgeSilentWindow_ysu, judgeLossWindow_ysu]
  split <;> split <;> simp
@[simp] theorem putDrive_rst (d : Side) (x : Drive) (s : State) : (putDrive d x s).rst = s.rst := by
  unfold putDrive; dsimp only; split; · rfl
  simp only [judgeSilentWindow_rst, judgeLossWindow_rst]
  split <;> split <;> simp
@[simp] theorem putDrive_pending (d : Side) (x : Drive) (s : State) : (putDrive d x s).pending = s.pending := by
  unfold putDrive; dsimp only; split; · rfl
  simp only [judgeSilentWindow_pending, judgeLossWindow_pending]
  split <;> split <;> simp

/-! ## giveCommand -/

@[simp] theorem giveCommand_supply (d : Side) (c : DriveCommand) (s : State) : (giveCommand d c s).supply = s.supply := by
  unfold giveCommand; split; · rfl
  simp
@[simp] theorem giveCommand_station (d : Side) (c : DriveCommand) (s : State) : (giveCommand d c s).station = s.station := by
  unfold giveCommand; split; · rfl
  simp
@[simp] theorem giveCommand_startKind (d : Side) (c : DriveCommand) (s : State) : (giveCommand d c s).startKind = s.startKind := by
  unfold giveCommand; split; · rfl
  simp
@[simp] theorem giveCommand_stepsDone (d : Side) (c : DriveCommand) (s : State) : (giveCommand d c s).stepsDone = s.stepsDone := by
  unfold giveCommand; split; · rfl
  simp
@[simp] theorem giveCommand_listenTimer (d : Side) (c : DriveCommand) (s : State) : (giveCommand d c s).listenTimer = s.listenTimer := by
  unfold giveCommand; split; · rfl
  simp
@[simp] theorem giveCommand_number (d : Side) (c : DriveCommand) (s : State) : (giveCommand d c s).number = s.number := by
  unfold giveCommand; split; · rfl
  simp
@[simp] theorem giveCommand_plug (d : Side) (c : DriveCommand) (s : State) : (giveCommand d c s).plug = s.plug := by
  unfold giveCommand; split; · rfl
  simp
@[simp] theorem giveCommand_plugSum (d : Side) (c : DriveCommand) (s : State) : (giveCommand d c s).plugSum = s.plugSum := by
  unfold giveCommand; split; · rfl
  simp
@[simp] theorem giveCommand_ini (d : Side) (c : DriveCommand) (s : State) : (giveCommand d c s).ini = s.ini := by
  unfold giveCommand; split; · rfl
  simp
@[simp] theorem giveCommand_srk (d : Side) (c : DriveCommand) (s : State) : (giveCommand d c s).srk = s.srk := by
  unfold giveCommand; split; · rfl
  simp
@[simp] theorem giveCommand_ysu (d : Side) (c : DriveCommand) (s : State) : (giveCommand d c s).ysu = s.ysu := by
  unfold giveCommand; split; · rfl
  simp
@[simp] theorem giveCommand_rst (d : Side) (c : DriveCommand) (s : State) : (giveCommand d c s).rst = s.rst := by
  unfold giveCommand; split; · rfl
  simp
@[simp] theorem giveCommand_pending (d : Side) (c : DriveCommand) (s : State) : (giveCommand d c s).pending = s.pending := by
  unfold giveCommand; split; · rfl
  simp

/-! ## deriveCommands -/

@[simp] theorem deriveCommands_supply (s : State) : (deriveCommands s).supply = s.supply := by
  simp [deriveCommands]
@[simp] theorem deriveCommands_station (s : State) : (deriveCommands s).station = s.station := by
  simp [deriveCommands]
@[simp] theorem deriveCommands_startKind (s : State) : (deriveCommands s).startKind = s.startKind := by
  simp [deriveCommands]
@[simp] theorem deriveCommands_stepsDone (s : State) : (deriveCommands s).stepsDone = s.stepsDone := by
  simp [deriveCommands]
@[simp] theorem deriveCommands_listenTimer (s : State) : (deriveCommands s).listenTimer = s.listenTimer := by
  simp [deriveCommands]
@[simp] theorem deriveCommands_number (s : State) : (deriveCommands s).number = s.number := by
  simp [deriveCommands]
@[simp] theorem deriveCommands_plug (s : State) : (deriveCommands s).plug = s.plug := by
  simp [deriveCommands]
@[simp] theorem deriveCommands_plugSum (s : State) : (deriveCommands s).plugSum = s.plugSum := by
  simp [deriveCommands]
@[simp] theorem deriveCommands_ini (s : State) : (deriveCommands s).ini = s.ini := by
  simp [deriveCommands]
@[simp] theorem deriveCommands_srk (s : State) : (deriveCommands s).srk = s.srk := by
  simp [deriveCommands]
@[simp] theorem deriveCommands_ysu (s : State) : (deriveCommands s).ysu = s.ysu := by
  simp [deriveCommands]
@[simp] theorem deriveCommands_rst (s : State) : (deriveCommands s).rst = s.rst := by
  simp [deriveCommands]
@[simp] theorem deriveCommands_pending (s : State) : (deriveCommands s).pending = s.pending := by
  simp [deriveCommands]

/-! ## judgeTimers -/

@[simp] theorem judgeTimers_supply (r : Role) (s : State) : (judgeTimers r s).supply = s.supply := by
  rfl
@[simp] theorem judgeTimers_station (r : Role) (s : State) : (judgeTimers r s).station = s.station := by
  rfl
@[simp] theorem judgeTimers_startKind (r : Role) (s : State) : (judgeTimers r s).startKind = s.startKind := by
  rfl
@[simp] theorem judgeTimers_stepsDone (r : Role) (s : State) : (judgeTimers r s).stepsDone = s.stepsDone := by
  rfl
@[simp] theorem judgeTimers_listenTimer (r : Role) (s : State) : (judgeTimers r s).listenTimer = s.listenTimer := by
  rfl
@[simp] theorem judgeTimers_number (r : Role) (s : State) : (judgeTimers r s).number = s.number := by
  rfl
@[simp] theorem judgeTimers_plug (r : Role) (s : State) : (judgeTimers r s).plug = s.plug := by
  rfl
@[simp] theorem judgeTimers_plugSum (r : Role) (s : State) : (judgeTimers r s).plugSum = s.plugSum := by
  rfl
@[simp] theorem judgeTimers_ini (r : Role) (s : State) : (judgeTimers r s).ini = s.ini := by
  rfl
@[simp] theorem judgeTimers_vdu (r : Role) (s : State) : (judgeTimers r s).vdu = s.vdu := by
  rfl
@[simp] theorem judgeTimers_srk (r : Role) (s : State) : (judgeTimers r s).srk = s.srk := by
  rfl
@[simp] theorem judgeTimers_mvc (r : Role) (s : State) : (judgeTimers r s).mvc = s.mvc := by
  rfl
@[simp] theorem judgeTimers_yli (r : Role) (s : State) : (judgeTimers r s).yli = s.yli := by
  rfl
@[simp] theorem judgeTimers_pgv (r : Role) (s : State) : (judgeTimers r s).pgv = s.pgv := by
  rfl
@[simp] theorem judgeTimers_acu (r : Role) (s : State) : (judgeTimers r s).acu = s.acu := by
  rfl
@[simp] theorem judgeTimers_oau (r : Role) (s : State) : (judgeTimers r s).oau = s.oau := by
  rfl
@[simp] theorem judgeTimers_rst (r : Role) (s : State) : (judgeTimers r s).rst = s.rst := by
  rfl
@[simp] theorem judgeTimers_pending (r : Role) (s : State) : (judgeTimers r s).pending = s.pending := by
  rfl

/-! ## restartTimers -/

@[simp] theorem restartTimers_supply (r : Role) (s : State) : (restartTimers r s).supply = s.supply := by
  rfl
@[simp] theorem restartTimers_station (r : Role) (s : State) : (restartTimers r s).station = s.station := by
  rfl
@[simp] theorem restartTimers_startKind (r : Role) (s : State) : (restartTimers r s).startKind = s.startKind := by
  rfl
@[simp] theorem restartTimers_stepsDone (r : Role) (s : State) : (restartTimers r s).stepsDone = s.stepsDone := by
  rfl
@[simp] theorem restartTimers_listenTimer (r : Role) (s : State) : (restartTimers r s).listenTimer = s.listenTimer := by
  rfl
@[simp] theorem restartTimers_number (r : Role) (s : State) : (restartTimers r s).number = s.number := by
  rfl
@[simp] theorem restartTimers_plug (r : Role) (s : State) : (restartTimers r s).plug = s.plug := by
  rfl
@[simp] theorem restartTimers_plugSum (r : Role) (s : State) : (restartTimers r s).plugSum = s.plugSum := by
  rfl
@[simp] theorem restartTimers_ini (r : Role) (s : State) : (restartTimers r s).ini = s.ini := by
  rfl
@[simp] theorem restartTimers_vdu (r : Role) (s : State) : (restartTimers r s).vdu = s.vdu := by
  rfl
@[simp] theorem restartTimers_srk (r : Role) (s : State) : (restartTimers r s).srk = s.srk := by
  rfl
@[simp] theorem restartTimers_mvc (r : Role) (s : State) : (restartTimers r s).mvc = s.mvc := by
  rfl
@[simp] theorem restartTimers_yli (r : Role) (s : State) : (restartTimers r s).yli = s.yli := by
  rfl
@[simp] theorem restartTimers_pgv (r : Role) (s : State) : (restartTimers r s).pgv = s.pgv := by
  rfl
@[simp] theorem restartTimers_acu (r : Role) (s : State) : (restartTimers r s).acu = s.acu := by
  rfl
@[simp] theorem restartTimers_oau (r : Role) (s : State) : (restartTimers r s).oau = s.oau := by
  rfl
@[simp] theorem restartTimers_rst (r : Role) (s : State) : (restartTimers r s).rst = s.rst := by
  rfl
@[simp] theorem restartTimers_pending (r : Role) (s : State) : (restartTimers r s).pending = s.pending := by
  rfl

/-! ## restartRelease -/

@[simp] theorem restartRelease_supply (r : Role) (s : State) : (restartRelease r s).supply = s.supply := by
  rfl
@[simp] theorem restartRelease_station (r : Role) (s : State) : (restartRelease r s).station = s.station := by
  rfl
@[simp] theorem restartRelease_startKind (r : Role) (s : State) : (restartRelease r s).startKind = s.startKind := by
  rfl
@[simp] theorem restartRelease_stepsDone (r : Role) (s : State) : (restartRelease r s).stepsDone = s.stepsDone := by
  rfl
@[simp] theorem restartRelease_listenTimer (r : Role) (s : State) : (restartRelease r s).listenTimer = s.listenTimer := by
  rfl
@[simp] theorem restartRelease_number (r : Role) (s : State) : (restartRelease r s).number = s.number := by
  rfl
@[simp] theorem restartRelease_plug (r : Role) (s : State) : (restartRelease r s).plug = s.plug := by
  rfl
@[simp] theorem restartRelease_plugSum (r : Role) (s : State) : (restartRelease r s).plugSum = s.plugSum := by
  rfl
@[simp] theorem restartRelease_ini (r : Role) (s : State) : (restartRelease r s).ini = s.ini := by
  rfl
@[simp] theorem restartRelease_vdu (r : Role) (s : State) : (restartRelease r s).vdu = s.vdu := by
  rfl
@[simp] theorem restartRelease_srk (r : Role) (s : State) : (restartRelease r s).srk = s.srk := by
  rfl
@[simp] theorem restartRelease_mvc (r : Role) (s : State) : (restartRelease r s).mvc = s.mvc := by
  rfl
@[simp] theorem restartRelease_yli (r : Role) (s : State) : (restartRelease r s).yli = s.yli := by
  rfl
@[simp] theorem restartRelease_pgv (r : Role) (s : State) : (restartRelease r s).pgv = s.pgv := by
  rfl
@[simp] theorem restartRelease_acu (r : Role) (s : State) : (restartRelease r s).acu = s.acu := by
  rfl
@[simp] theorem restartRelease_oau (r : Role) (s : State) : (restartRelease r s).oau = s.oau := by
  rfl
@[simp] theorem restartRelease_rst (r : Role) (s : State) : (restartRelease r s).rst = s.rst := by
  rfl
@[simp] theorem restartRelease_pending (r : Role) (s : State) : (restartRelease r s).pending = s.pending := by
  rfl

/-! ## judgeDelay -/

@[simp] theorem judgeDelay_supply (r : Role) (s : State) : (judgeDelay r s).supply = s.supply := by
  unfold judgeDelay; split <;> rfl
@[simp] theorem judgeDelay_station (r : Role) (s : State) : (judgeDelay r s).station = s.station := by
  unfold judgeDelay; split <;> rfl
@[simp] theorem judgeDelay_startKind (r : Role) (s : State) : (judgeDelay r s).startKind = s.startKind := by
  unfold judgeDelay; split <;> rfl
@[simp] theorem judgeDelay_stepsDone (r : Role) (s : State) : (judgeDelay r s).stepsDone = s.stepsDone := by
  unfold judgeDelay; split <;> rfl
@[simp] theorem judgeDelay_listenTimer (r : Role) (s : State) : (judgeDelay r s).listenTimer = s.listenTimer := by
  unfold judgeDelay; split <;> rfl
@[simp] theorem judgeDelay_number (r : Role) (s : State) : (judgeDelay r s).number = s.number := by
  unfold judgeDelay; split <;> rfl
@[simp] theorem judgeDelay_plug (r : Role) (s : State) : (judgeDelay r s).plug = s.plug := by
  unfold judgeDelay; split <;> rfl
@[simp] theorem judgeDelay_plugSum (r : Role) (s : State) : (judgeDelay r s).plugSum = s.plugSum := by
  unfold judgeDelay; split <;> rfl
@[simp] theorem judgeDelay_ini (r : Role) (s : State) : (judgeDelay r s).ini = s.ini := by
  unfold judgeDelay; split <;> rfl
@[simp] theorem judgeDelay_vdu (r : Role) (s : State) : (judgeDelay r s).vdu = s.vdu := by
  unfold judgeDelay; split <;> rfl
@[simp] theorem judgeDelay_srk (r : Role) (s : State) : (judgeDelay r s).srk = s.srk := by
  unfold judgeDelay; split <;> rfl
@[simp] theorem judgeDelay_mvc (r : Role) (s : State) : (judgeDelay r s).mvc = s.mvc := by
  unfold judgeDelay; split <;> rfl
@[simp] theorem judgeDelay_yli (r : Role) (s : State) : (judgeDelay r s).yli = s.yli := by
  unfold judgeDelay; split <;> rfl
@[simp] theorem judgeDelay_pgv (r : Role) (s : State) : (judgeDelay r s).pgv = s.pgv := by
  unfold judgeDelay; split <;> rfl
@[simp] theorem judgeDelay_acu (r : Role) (s : State) : (judgeDelay r s).acu = s.acu := by
  unfold judgeDelay; split <;> rfl
@[simp] theorem judgeDelay_oau (r : Role) (s : State) : (judgeDelay r s).oau = s.oau := by
  unfold judgeDelay; split <;> rfl
@[simp] theorem judgeDelay_rst (r : Role) (s : State) : (judgeDelay r s).rst = s.rst := by
  unfold judgeDelay; split <;> rfl
@[simp] theorem judgeDelay_pending (r : Role) (s : State) : (judgeDelay r s).pending = s.pending := by
  unfold judgeDelay; split <;> rfl

/-! ## judgeCalls -/

@[simp] theorem judgeCalls_supply (s : State) : (judgeCalls s).supply = s.supply := by
  simp [judgeCalls]
@[simp] theorem judgeCalls_station (s : State) : (judgeCalls s).station = s.station := by
  simp [judgeCalls]
@[simp] theorem judgeCalls_startKind (s : State) : (judgeCalls s).startKind = s.startKind := by
  simp [judgeCalls]
@[simp] theorem judgeCalls_stepsDone (s : State) : (judgeCalls s).stepsDone = s.stepsDone := by
  simp [judgeCalls]
@[simp] theorem judgeCalls_listenTimer (s : State) : (judgeCalls s).listenTimer = s.listenTimer := by
  simp [judgeCalls]
@[simp] theorem judgeCalls_number (s : State) : (judgeCalls s).number = s.number := by
  simp [judgeCalls]
@[simp] theorem judgeCalls_plug (s : State) : (judgeCalls s).plug = s.plug := by
  simp [judgeCalls]
@[simp] theorem judgeCalls_plugSum (s : State) : (judgeCalls s).plugSum = s.plugSum := by
  simp [judgeCalls]
@[simp] theorem judgeCalls_ini (s : State) : (judgeCalls s).ini = s.ini := by
  simp [judgeCalls]
@[simp] theorem judgeCalls_vdu (s : State) : (judgeCalls s).vdu = s.vdu := by
  simp [judgeCalls]
@[simp] theorem judgeCalls_srk (s : State) : (judgeCalls s).srk = s.srk := by
  simp [judgeCalls]
@[simp] theorem judgeCalls_mvc (s : State) : (judgeCalls s).mvc = s.mvc := by
  simp [judgeCalls]
@[simp] theorem judgeCalls_yli (s : State) : (judgeCalls s).yli = s.yli := by
  simp [judgeCalls]
@[simp] theorem judgeCalls_pgv (s : State) : (judgeCalls s).pgv = s.pgv := by
  simp [judgeCalls]
@[simp] theorem judgeCalls_acu (s : State) : (judgeCalls s).acu = s.acu := by
  simp [judgeCalls]
@[simp] theorem judgeCalls_oau (s : State) : (judgeCalls s).oau = s.oau := by
  simp [judgeCalls]
@[simp] theorem judgeCalls_rst (s : State) : (judgeCalls s).rst = s.rst := by
  simp [judgeCalls]
@[simp] theorem judgeCalls_pending (s : State) : (judgeCalls s).pending = s.pending := by
  simp [judgeCalls]

/-! ## changeRole -/

@[simp] theorem changeRole_supply (r : Role) (h : Option Cause) (s : State) : (changeRole r h s).supply = s.supply := by
  rfl
@[simp] theorem changeRole_station (r : Role) (h : Option Cause) (s : State) : (changeRole r h s).station = s.station := by
  rfl
@[simp] theorem changeRole_startKind (r : Role) (h : Option Cause) (s : State) : (changeRole r h s).startKind = s.startKind := by
  rfl
@[simp] theorem changeRole_stepsDone (r : Role) (h : Option Cause) (s : State) : (changeRole r h s).stepsDone = s.stepsDone := by
  rfl
@[simp] theorem changeRole_listenTimer (r : Role) (h : Option Cause) (s : State) : (changeRole r h s).listenTimer = s.listenTimer := by
  rfl
@[simp] theorem changeRole_number (r : Role) (h : Option Cause) (s : State) : (changeRole r h s).number = s.number := by
  rfl
@[simp] theorem changeRole_plug (r : Role) (h : Option Cause) (s : State) : (changeRole r h s).plug = s.plug := by
  rfl
@[simp] theorem changeRole_plugSum (r : Role) (h : Option Cause) (s : State) : (changeRole r h s).plugSum = s.plugSum := by
  rfl
@[simp] theorem changeRole_ini (r : Role) (h : Option Cause) (s : State) : (changeRole r h s).ini = s.ini := by
  rfl
@[simp] theorem changeRole_vdu (r : Role) (h : Option Cause) (s : State) : (changeRole r h s).vdu = s.vdu := by
  rfl
@[simp] theorem changeRole_srk (r : Role) (h : Option Cause) (s : State) : (changeRole r h s).srk = s.srk := by
  rfl
@[simp] theorem changeRole_mvc (r : Role) (h : Option Cause) (s : State) : (changeRole r h s).mvc = s.mvc := by
  rfl
@[simp] theorem changeRole_yli (r : Role) (h : Option Cause) (s : State) : (changeRole r h s).yli = s.yli := by
  rfl
@[simp] theorem changeRole_pgv (r : Role) (h : Option Cause) (s : State) : (changeRole r h s).pgv = s.pgv := by
  rfl
@[simp] theorem changeRole_acu (r : Role) (h : Option Cause) (s : State) : (changeRole r h s).acu = s.acu := by
  rfl
@[simp] theorem changeRole_oau (r : Role) (h : Option Cause) (s : State) : (changeRole r h s).oau = s.oau := by
  rfl
@[simp] theorem changeRole_rst (r : Role) (h : Option Cause) (s : State) : (changeRole r h s).rst = s.rst := by
  rfl
@[simp] theorem changeRole_pending (r : Role) (h : Option Cause) (s : State) : (changeRole r h s).pending = s.pending := by
  rfl

/-! ## startDelay -/

@[simp] theorem startDelay_supply (r : Role) (s : State) : (startDelay r s).supply = s.supply := by
  unfold startDelay; split <;> rfl
@[simp] theorem startDelay_station (r : Role) (s : State) : (startDelay r s).station = s.station := by
  unfold startDelay; split <;> rfl
@[simp] theorem startDelay_startKind (r : Role) (s : State) : (startDelay r s).startKind = s.startKind := by
  unfold startDelay; split <;> rfl
@[simp] theorem startDelay_stepsDone (r : Role) (s : State) : (startDelay r s).stepsDone = s.stepsDone := by
  unfold startDelay; split <;> rfl
@[simp] theorem startDelay_listenTimer (r : Role) (s : State) : (startDelay r s).listenTimer = s.listenTimer := by
  unfold startDelay; split <;> rfl
@[simp] theorem startDelay_number (r : Role) (s : State) : (startDelay r s).number = s.number := by
  unfold startDelay; split <;> rfl
@[simp] theorem startDelay_plug (r : Role) (s : State) : (startDelay r s).plug = s.plug := by
  unfold startDelay; split <;> rfl
@[simp] theorem startDelay_plugSum (r : Role) (s : State) : (startDelay r s).plugSum = s.plugSum := by
  unfold startDelay; split <;> rfl
@[simp] theorem startDelay_ini (r : Role) (s : State) : (startDelay r s).ini = s.ini := by
  unfold startDelay; split <;> rfl
@[simp] theorem startDelay_vdu (r : Role) (s : State) : (startDelay r s).vdu = s.vdu := by
  unfold startDelay; split <;> rfl
@[simp] theorem startDelay_srk (r : Role) (s : State) : (startDelay r s).srk = s.srk := by
  unfold startDelay; split <;> rfl
@[simp] theorem startDelay_mvc (r : Role) (s : State) : (startDelay r s).mvc = s.mvc := by
  unfold startDelay; split <;> rfl
@[simp] theorem startDelay_yli (r : Role) (s : State) : (startDelay r s).yli = s.yli := by
  unfold startDelay; split <;> rfl
@[simp] theorem startDelay_pgv (r : Role) (s : State) : (startDelay r s).pgv = s.pgv := by
  unfold startDelay; split <;> rfl
@[simp] theorem startDelay_acu (r : Role) (s : State) : (startDelay r s).acu = s.acu := by
  unfold startDelay; split <;> rfl
@[simp] theorem startDelay_oau (r : Role) (s : State) : (startDelay r s).oau = s.oau := by
  unfold startDelay; split <;> rfl
@[simp] theorem startDelay_rst (r : Role) (s : State) : (startDelay r s).rst = s.rst := by
  unfold startDelay; split <;> rfl
@[simp] theorem startDelay_pending (r : Role) (s : State) : (startDelay r s).pending = s.pending := by
  unfold startDelay; split <;> rfl

/-! ## standingRules -/

@[simp] theorem standingRules_supply (r : Role) (s : State) : (standingRules r s).supply = s.supply := by
  unfold standingRules; split; swap; · rfl
  split; · rfl
  split; · simp
  split <;> rfl
@[simp] theorem standingRules_station (r : Role) (s : State) : (standingRules r s).station = s.station := by
  unfold standingRules; split; swap; · rfl
  split; · rfl
  split; · simp
  split <;> rfl
@[simp] theorem standingRules_startKind (r : Role) (s : State) : (standingRules r s).startKind = s.startKind := by
  unfold standingRules; split; swap; · rfl
  split; · rfl
  split; · simp
  split <;> rfl
@[simp] theorem standingRules_stepsDone (r : Role) (s : State) : (standingRules r s).stepsDone = s.stepsDone := by
  unfold standingRules; split; swap; · rfl
  split; · rfl
  split; · simp
  split <;> rfl
@[simp] theorem standingRules_listenTimer (r : Role) (s : State) : (standingRules r s).listenTimer = s.listenTimer := by
  unfold standingRules; split; swap; · rfl
  split; · rfl
  split; · simp
  split <;> rfl
@[simp] theorem standingRules_number (r : Role) (s : State) : (standingRules r s).number = s.number := by
  unfold standingRules; split; swap; · rfl
  split; · rfl
  split; · simp
  split <;> rfl
@[simp] theorem standingRules_plug (r : Role) (s : State) : (standingRules r s).plug = s.plug := by
  unfold standingRules; split; swap; · rfl
  split; · rfl
  split; · simp
  split <;> rfl
@[simp] theorem standingRules_plugSum (r : Role) (s : State) : (standingRules r s).plugSum = s.plugSum := by
  unfold standingRules; split; swap; · rfl
  split; · rfl
  split; · simp
  split <;> rfl
@[simp] theorem standingRules_ini (r : Role) (s : State) : (standingRules r s).ini = s.ini := by
  unfold standingRules; split; swap; · rfl
  split; · rfl
  split; · simp
  split <;> rfl
@[simp] theorem standingRules_vdu (r : Role) (s : State) : (standingRules r s).vdu = s.vdu := by
  unfold standingRules; split; swap; · rfl
  split; · rfl
  split; · simp
  split <;> rfl
@[simp] theorem standingRules_srk (r : Role) (s : State) : (standingRules r s).srk = s.srk := by
  unfold standingRules; split; swap; · rfl
  split; · rfl
  split; · simp
  split <;> rfl
@[simp] theorem standingRules_mvc (r : Role) (s : State) : (standingRules r s).mvc = s.mvc := by
  unfold standingRules; split; swap; · rfl
  split; · rfl
  split; · simp
  split <;> rfl
@[simp] theorem standingRules_yli (r : Role) (s : State) : (standingRules r s).yli = s.yli := by
  unfold standingRules; split; swap; · rfl
  split; · rfl
  split; · simp
  split <;> rfl
@[simp] theorem standingRules_pgv (r : Role) (s : State) : (standingRules r s).pgv = s.pgv := by
  unfold standingRules; split; swap; · rfl
  split; · rfl
  split; · simp
  split <;> rfl
@[simp] theorem standingRules_acu (r : Role) (s : State) : (standingRules r s).acu = s.acu := by
  unfold standingRules; split; swap; · rfl
  split; · rfl
  split; · simp
  split <;> rfl
@[simp] theorem standingRules_oau (r : Role) (s : State) : (standingRules r s).oau = s.oau := by
  unfold standingRules; split; swap; · rfl
  split; · rfl
  split; · simp
  split <;> rfl
@[simp] theorem standingRules_rst (r : Role) (s : State) : (standingRules r s).rst = s.rst := by
  unfold standingRules; split; swap; · rfl
  split; · rfl
  split; · simp
  split <;> rfl
@[simp] theorem standingRules_pending (r : Role) (s : State) : (standingRules r s).pending = s.pending := by
  unfold standingRules; split; swap; · rfl
  split; · rfl
  split; · simp
  split <;> rfl

/-! ## applyClaim -/

@[simp] theorem applyClaim_supply (r : Role) (s : State) : (applyClaim r s).supply = s.supply := by
  unfold applyClaim; split <;> rfl
@[simp] theorem applyClaim_station (r : Role) (s : State) : (applyClaim r s).station = s.station := by
  unfold applyClaim; split <;> rfl
@[simp] theorem applyClaim_startKind (r : Role) (s : State) : (applyClaim r s).startKind = s.startKind := by
  unfold applyClaim; split <;> rfl
@[simp] theorem applyClaim_stepsDone (r : Role) (s : State) : (applyClaim r s).stepsDone = s.stepsDone := by
  unfold applyClaim; split <;> rfl
@[simp] theorem applyClaim_listenTimer (r : Role) (s : State) : (applyClaim r s).listenTimer = s.listenTimer := by
  unfold applyClaim; split <;> rfl
@[simp] theorem applyClaim_number (r : Role) (s : State) : (applyClaim r s).number = s.number := by
  unfold applyClaim; split <;> rfl
@[simp] theorem applyClaim_plug (r : Role) (s : State) : (applyClaim r s).plug = s.plug := by
  unfold applyClaim; split <;> rfl
@[simp] theorem applyClaim_plugSum (r : Role) (s : State) : (applyClaim r s).plugSum = s.plugSum := by
  unfold applyClaim; split <;> rfl
@[simp] theorem applyClaim_ini (r : Role) (s : State) : (applyClaim r s).ini = s.ini := by
  unfold applyClaim; split <;> rfl
@[simp] theorem applyClaim_vdu (r : Role) (s : State) : (applyClaim r s).vdu = s.vdu := by
  unfold applyClaim; split <;> rfl
@[simp] theorem applyClaim_srk (r : Role) (s : State) : (applyClaim r s).srk = s.srk := by
  unfold applyClaim; split <;> rfl
@[simp] theorem applyClaim_mvc (r : Role) (s : State) : (applyClaim r s).mvc = s.mvc := by
  unfold applyClaim; split <;> rfl
@[simp] theorem applyClaim_yli (r : Role) (s : State) : (applyClaim r s).yli = s.yli := by
  unfold applyClaim; split <;> rfl
@[simp] theorem applyClaim_pgv (r : Role) (s : State) : (applyClaim r s).pgv = s.pgv := by
  unfold applyClaim; split <;> rfl
@[simp] theorem applyClaim_acu (r : Role) (s : State) : (applyClaim r s).acu = s.acu := by
  unfold applyClaim; split <;> rfl
@[simp] theorem applyClaim_oau (r : Role) (s : State) : (applyClaim r s).oau = s.oau := by
  unfold applyClaim; split <;> rfl
@[simp] theorem applyClaim_rst (r : Role) (s : State) : (applyClaim r s).rst = s.rst := by
  unfold applyClaim; split <;> rfl
@[simp] theorem applyClaim_pending (r : Role) (s : State) : (applyClaim r s).pending = s.pending := by
  unfold applyClaim; split <;> rfl

/-! ## applyClaims -/

@[simp] theorem applyClaims_supply (s : State) : (applyClaims s).supply = s.supply := by
  simp [applyClaims]
@[simp] theorem applyClaims_station (s : State) : (applyClaims s).station = s.station := by
  simp [applyClaims]
@[simp] theorem applyClaims_startKind (s : State) : (applyClaims s).startKind = s.startKind := by
  simp [applyClaims]
@[simp] theorem applyClaims_stepsDone (s : State) : (applyClaims s).stepsDone = s.stepsDone := by
  simp [applyClaims]
@[simp] theorem applyClaims_listenTimer (s : State) : (applyClaims s).listenTimer = s.listenTimer := by
  simp [applyClaims]
@[simp] theorem applyClaims_number (s : State) : (applyClaims s).number = s.number := by
  simp [applyClaims]
@[simp] theorem applyClaims_plug (s : State) : (applyClaims s).plug = s.plug := by
  simp [applyClaims]
@[simp] theorem applyClaims_plugSum (s : State) : (applyClaims s).plugSum = s.plugSum := by
  simp [applyClaims]
@[simp] theorem applyClaims_ini (s : State) : (applyClaims s).ini = s.ini := by
  simp [applyClaims]
@[simp] theorem applyClaims_vdu (s : State) : (applyClaims s).vdu = s.vdu := by
  simp [applyClaims]
@[simp] theorem applyClaims_srk (s : State) : (applyClaims s).srk = s.srk := by
  simp [applyClaims]
@[simp] theorem applyClaims_mvc (s : State) : (applyClaims s).mvc = s.mvc := by
  simp [applyClaims]
@[simp] theorem applyClaims_yli (s : State) : (applyClaims s).yli = s.yli := by
  simp [applyClaims]
@[simp] theorem applyClaims_pgv (s : State) : (applyClaims s).pgv = s.pgv := by
  simp [applyClaims]
@[simp] theorem applyClaims_acu (s : State) : (applyClaims s).acu = s.acu := by
  simp [applyClaims]
@[simp] theorem applyClaims_oau (s : State) : (applyClaims s).oau = s.oau := by
  simp [applyClaims]
@[simp] theorem applyClaims_rst (s : State) : (applyClaims s).rst = s.rst := by
  simp [applyClaims]
@[simp] theorem applyClaims_pending (s : State) : (applyClaims s).pending = s.pending := by
  simp [applyClaims]

/-! ## chooseRoles -/

@[simp] theorem chooseRoles_supply (s : State) : (chooseRoles s).supply = s.supply := by
  simp [chooseRoles]
@[simp] theorem chooseRoles_station (s : State) : (chooseRoles s).station = s.station := by
  simp [chooseRoles]
@[simp] theorem chooseRoles_startKind (s : State) : (chooseRoles s).startKind = s.startKind := by
  simp [chooseRoles]
@[simp] theorem chooseRoles_stepsDone (s : State) : (chooseRoles s).stepsDone = s.stepsDone := by
  simp [chooseRoles]
@[simp] theorem chooseRoles_listenTimer (s : State) : (chooseRoles s).listenTimer = s.listenTimer := by
  simp [chooseRoles]
@[simp] theorem chooseRoles_number (s : State) : (chooseRoles s).number = s.number := by
  simp [chooseRoles]
@[simp] theorem chooseRoles_plug (s : State) : (chooseRoles s).plug = s.plug := by
  simp [chooseRoles]
@[simp] theorem chooseRoles_plugSum (s : State) : (chooseRoles s).plugSum = s.plugSum := by
  simp [chooseRoles]
@[simp] theorem chooseRoles_ini (s : State) : (chooseRoles s).ini = s.ini := by
  simp [chooseRoles]
@[simp] theorem chooseRoles_vdu (s : State) : (chooseRoles s).vdu = s.vdu := by
  simp [chooseRoles]
@[simp] theorem chooseRoles_srk (s : State) : (chooseRoles s).srk = s.srk := by
  simp [chooseRoles]
@[simp] theorem chooseRoles_yli (s : State) : (chooseRoles s).yli = s.yli := by
  simp [chooseRoles]
@[simp] theorem chooseRoles_pgv (s : State) : (chooseRoles s).pgv = s.pgv := by
  simp [chooseRoles]
@[simp] theorem chooseRoles_acu (s : State) : (chooseRoles s).acu = s.acu := by
  simp [chooseRoles]
@[simp] theorem chooseRoles_oau (s : State) : (chooseRoles s).oau = s.oau := by
  simp [chooseRoles]
@[simp] theorem chooseRoles_rst (s : State) : (chooseRoles s).rst = s.rst := by
  simp [chooseRoles]
@[simp] theorem chooseRoles_pending (s : State) : (chooseRoles s).pending = s.pending := by
  simp [chooseRoles]

/-! ## handOn -/

@[simp] theorem handOn_supply (old s : State) : (handOn old s).supply = s.supply := by
  unfold handOn; split; · rfl
  simp
@[simp] theorem handOn_station (old s : State) : (handOn old s).station = s.station := by
  unfold handOn; split; · rfl
  simp
@[simp] theorem handOn_startKind (old s : State) : (handOn old s).startKind = s.startKind := by
  unfold handOn; split; · rfl
  simp
@[simp] theorem handOn_stepsDone (old s : State) : (handOn old s).stepsDone = s.stepsDone := by
  unfold handOn; split; · rfl
  simp
@[simp] theorem handOn_listenTimer (old s : State) : (handOn old s).listenTimer = s.listenTimer := by
  unfold handOn; split; · rfl
  simp
@[simp] theorem handOn_number (old s : State) : (handOn old s).number = s.number := by
  unfold handOn; split; · rfl
  simp
@[simp] theorem handOn_plug (old s : State) : (handOn old s).plug = s.plug := by
  unfold handOn; split; · rfl
  simp
@[simp] theorem handOn_plugSum (old s : State) : (handOn old s).plugSum = s.plugSum := by
  unfold handOn; split; · rfl
  simp
@[simp] theorem handOn_ini (old s : State) : (handOn old s).ini = s.ini := by
  unfold handOn; split; · rfl
  simp
@[simp] theorem handOn_vdu (old s : State) : (handOn old s).vdu = s.vdu := by
  unfold handOn; split; · rfl
  simp
@[simp] theorem handOn_srk (old s : State) : (handOn old s).srk = s.srk := by
  unfold handOn; split; · rfl
  simp
@[simp] theorem handOn_ysu (old s : State) : (handOn old s).ysu = s.ysu := by
  unfold handOn; split; · rfl
  simp
@[simp] theorem handOn_pgv (old s : State) : (handOn old s).pgv = s.pgv := by
  unfold handOn; split; · rfl
  simp
@[simp] theorem handOn_acu (old s : State) : (handOn old s).acu = s.acu := by
  unfold handOn; split; · rfl
  simp
@[simp] theorem handOn_oau (old s : State) : (handOn old s).oau = s.oau := by
  unfold handOn; split; · rfl
  simp
@[simp] theorem handOn_rst (old s : State) : (handOn old s).rst = s.rst := by
  unfold handOn; split; · rfl
  simp
@[simp] theorem handOn_pending (old s : State) : (handOn old s).pending = s.pending := by
  unfold handOn; split; · rfl
  simp

/-! ## settleFrom -/

@[simp] theorem settleFrom_supply (old s : State) : (settleFrom old s).supply = s.supply := by
  simp [settleFrom]
@[simp] theorem settleFrom_station (old s : State) : (settleFrom old s).station = s.station := by
  simp [settleFrom]
@[simp] theorem settleFrom_startKind (old s : State) : (settleFrom old s).startKind = s.startKind := by
  simp [settleFrom]
@[simp] theorem settleFrom_stepsDone (old s : State) : (settleFrom old s).stepsDone = s.stepsDone := by
  simp [settleFrom]
@[simp] theorem settleFrom_listenTimer (old s : State) : (settleFrom old s).listenTimer = s.listenTimer := by
  simp [settleFrom]
@[simp] theorem settleFrom_number (old s : State) : (settleFrom old s).number = s.number := by
  simp [settleFrom]
@[simp] theorem settleFrom_plug (old s : State) : (settleFrom old s).plug = s.plug := by
  simp [settleFrom]
@[simp] theorem settleFrom_plugSum (old s : State) : (settleFrom old s).plugSum = s.plugSum := by
  simp [settleFrom]
@[simp] theorem settleFrom_ini (old s : State) : (settleFrom old s).ini = s.ini := by
  simp [settleFrom]
@[simp] theorem settleFrom_srk (old s : State) : (settleFrom old s).srk = s.srk := by
  simp [settleFrom]
@[simp] theorem settleFrom_rst (old s : State) : (settleFrom old s).rst = s.rst := by
  simp [settleFrom]
@[simp] theorem settleFrom_pending (old s : State) : (settleFrom old s).pending = s.pending := by
  simp [settleFrom]

/-! ## settle -/

@[simp] theorem settle_supply (s : State) : (settle s).supply = s.supply := by
  simp [settle]
@[simp] theorem settle_station (s : State) : (settle s).station = s.station := by
  simp [settle]
@[simp] theorem settle_startKind (s : State) : (settle s).startKind = s.startKind := by
  simp [settle]
@[simp] theorem settle_stepsDone (s : State) : (settle s).stepsDone = s.stepsDone := by
  simp [settle]
@[simp] theorem settle_listenTimer (s : State) : (settle s).listenTimer = s.listenTimer := by
  simp [settle]
@[simp] theorem settle_number (s : State) : (settle s).number = s.number := by
  simp [settle]
@[simp] theorem settle_plug (s : State) : (settle s).plug = s.plug := by
  simp [settle]
@[simp] theorem settle_plugSum (s : State) : (settle s).plugSum = s.plugSum := by
  simp [settle]
@[simp] theorem settle_ini (s : State) : (settle s).ini = s.ini := by
  simp [settle]
@[simp] theorem settle_srk (s : State) : (settle s).srk = s.srk := by
  simp [settle]
@[simp] theorem settle_rst (s : State) : (settle s).rst = s.rst := by
  simp [settle]
@[simp] theorem settle_pending (s : State) : (settle s).pending = s.pending := by
  simp [settle]

/-! ## recount -/

@[simp] theorem recount_supply (old : State) (r : Role) (s : State) : (recount old r s).supply = s.supply := by
  unfold recount; split; · rfl
  split <;> rfl
@[simp] theorem recount_station (old : State) (r : Role) (s : State) : (recount old r s).station = s.station := by
  unfold recount; split; · rfl
  split <;> rfl
@[simp] theorem recount_startKind (old : State) (r : Role) (s : State) : (recount old r s).startKind = s.startKind := by
  unfold recount; split; · rfl
  split <;> rfl
@[simp] theorem recount_stepsDone (old : State) (r : Role) (s : State) : (recount old r s).stepsDone = s.stepsDone := by
  unfold recount; split; · rfl
  split <;> rfl
@[simp] theorem recount_listenTimer (old : State) (r : Role) (s : State) : (recount old r s).listenTimer = s.listenTimer := by
  unfold recount; split; · rfl
  split <;> rfl
@[simp] theorem recount_number (old : State) (r : Role) (s : State) : (recount old r s).number = s.number := by
  unfold recount; split; · rfl
  split <;> rfl
@[simp] theorem recount_plug (old : State) (r : Role) (s : State) : (recount old r s).plug = s.plug := by
  unfold recount; split; · rfl
  split <;> rfl
@[simp] theorem recount_plugSum (old : State) (r : Role) (s : State) : (recount old r s).plugSum = s.plugSum := by
  unfold recount; split; · rfl
  split <;> rfl
@[simp] theorem recount_ini (old : State) (r : Role) (s : State) : (recount old r s).ini = s.ini := by
  unfold recount; split; · rfl
  split <;> rfl
@[simp] theorem recount_vdu (old : State) (r : Role) (s : State) : (recount old r s).vdu = s.vdu := by
  unfold recount; split; · rfl
  split <;> rfl
@[simp] theorem recount_srk (old : State) (r : Role) (s : State) : (recount old r s).srk = s.srk := by
  unfold recount; split; · rfl
  split <;> rfl
@[simp] theorem recount_mvc (old : State) (r : Role) (s : State) : (recount old r s).mvc = s.mvc := by
  unfold recount; split; · rfl
  split <;> rfl
@[simp] theorem recount_yli (old : State) (r : Role) (s : State) : (recount old r s).yli = s.yli := by
  unfold recount; split; · rfl
  split <;> rfl
@[simp] theorem recount_pgv (old : State) (r : Role) (s : State) : (recount old r s).pgv = s.pgv := by
  unfold recount; split; · rfl
  split <;> rfl
@[simp] theorem recount_acu (old : State) (r : Role) (s : State) : (recount old r s).acu = s.acu := by
  unfold recount; split; · rfl
  split <;> rfl
@[simp] theorem recount_oau (old : State) (r : Role) (s : State) : (recount old r s).oau = s.oau := by
  unfold recount; split; · rfl
  split <;> rfl
@[simp] theorem recount_rst (old : State) (r : Role) (s : State) : (recount old r s).rst = s.rst := by
  unfold recount; split; · rfl
  split <;> rfl
@[simp] theorem recount_pending (old : State) (r : Role) (s : State) : (recount old r s).pending = s.pending := by
  unfold recount; split; · rfl
  split <;> rfl

/-! ## changeTable -/

@[simp] theorem changeTable_supply (t : List PeerEntry) (s : State) : (changeTable t s).supply = s.supply := by
  simp [changeTable]
@[simp] theorem changeTable_station (t : List PeerEntry) (s : State) : (changeTable t s).station = s.station := by
  simp [changeTable]
@[simp] theorem changeTable_startKind (t : List PeerEntry) (s : State) : (changeTable t s).startKind = s.startKind := by
  simp [changeTable]
@[simp] theorem changeTable_stepsDone (t : List PeerEntry) (s : State) : (changeTable t s).stepsDone = s.stepsDone := by
  simp [changeTable]
@[simp] theorem changeTable_listenTimer (t : List PeerEntry) (s : State) : (changeTable t s).listenTimer = s.listenTimer := by
  simp [changeTable]
@[simp] theorem changeTable_number (t : List PeerEntry) (s : State) : (changeTable t s).number = s.number := by
  simp [changeTable]
@[simp] theorem changeTable_plug (t : List PeerEntry) (s : State) : (changeTable t s).plug = s.plug := by
  simp [changeTable]
@[simp] theorem changeTable_plugSum (t : List PeerEntry) (s : State) : (changeTable t s).plugSum = s.plugSum := by
  simp [changeTable]
@[simp] theorem changeTable_ini (t : List PeerEntry) (s : State) : (changeTable t s).ini = s.ini := by
  simp [changeTable]
@[simp] theorem changeTable_vdu (t : List PeerEntry) (s : State) : (changeTable t s).vdu = s.vdu := by
  simp [changeTable]
@[simp] theorem changeTable_srk (t : List PeerEntry) (s : State) : (changeTable t s).srk = s.srk := by
  simp [changeTable]
@[simp] theorem changeTable_mvc (t : List PeerEntry) (s : State) : (changeTable t s).mvc = s.mvc := by
  simp [changeTable]
@[simp] theorem changeTable_yli (t : List PeerEntry) (s : State) : (changeTable t s).yli = s.yli := by
  simp [changeTable]
@[simp] theorem changeTable_pgv (t : List PeerEntry) (s : State) : (changeTable t s).pgv = s.pgv := by
  simp [changeTable]
@[simp] theorem changeTable_acu (t : List PeerEntry) (s : State) : (changeTable t s).acu = s.acu := by
  simp [changeTable]
@[simp] theorem changeTable_oau (t : List PeerEntry) (s : State) : (changeTable t s).oau = s.oau := by
  simp [changeTable]
@[simp] theorem changeTable_rst (t : List PeerEntry) (s : State) : (changeTable t s).rst = s.rst := by
  simp [changeTable]
@[simp] theorem changeTable_pending (t : List PeerEntry) (s : State) : (changeTable t s).pending = s.pending := by
  simp [changeTable]

/-! ## emptyLine -/

@[simp] theorem emptyLine_supply (s : State) : (emptyLine s).supply = s.supply := by
  rfl
@[simp] theorem emptyLine_station (s : State) : (emptyLine s).station = s.station := by
  rfl
@[simp] theorem emptyLine_startKind (s : State) : (emptyLine s).startKind = s.startKind := by
  rfl
@[simp] theorem emptyLine_stepsDone (s : State) : (emptyLine s).stepsDone = s.stepsDone := by
  rfl
@[simp] theorem emptyLine_listenTimer (s : State) : (emptyLine s).listenTimer = s.listenTimer := by
  rfl
@[simp] theorem emptyLine_number (s : State) : (emptyLine s).number = s.number := by
  rfl
@[simp] theorem emptyLine_plug (s : State) : (emptyLine s).plug = s.plug := by
  rfl
@[simp] theorem emptyLine_plugSum (s : State) : (emptyLine s).plugSum = s.plugSum := by
  rfl
@[simp] theorem emptyLine_ini (s : State) : (emptyLine s).ini = s.ini := by
  rfl
@[simp] theorem emptyLine_vdu (s : State) : (emptyLine s).vdu = s.vdu := by
  rfl
@[simp] theorem emptyLine_srk (s : State) : (emptyLine s).srk = s.srk := by
  rfl
@[simp] theorem emptyLine_mvc (s : State) : (emptyLine s).mvc = s.mvc := by
  rfl
@[simp] theorem emptyLine_ysu (s : State) : (emptyLine s).ysu = s.ysu := by
  rfl
@[simp] theorem emptyLine_pgv (s : State) : (emptyLine s).pgv = s.pgv := by
  rfl
@[simp] theorem emptyLine_acu (s : State) : (emptyLine s).acu = s.acu := by
  rfl
@[simp] theorem emptyLine_rst (s : State) : (emptyLine s).rst = s.rst := by
  rfl
@[simp] theorem emptyLine_pending (s : State) : (emptyLine s).pending = s.pending := by
  rfl

end Sys2Proof.Machine
end

