-- ==== Sys2Proof/Laws/Alarms.lean ====
section
/-! SUPPORT. The alarm sets: which kinds a set holds after a kind is entered or removed, and what raising and ceasing do to
both sets. -/

namespace Sys2Proof

theorem hasAlarm_withAlarm (w : Word) (k j : AlarmKind) : hasAlarm (withAlarm w k) j = (hasAlarm w j || decide (j = k)) := by
  cases k <;> cases j <;> simp [hasAlarm, withAlarm, alarmBit, AlarmKind.bit]

theorem hasAlarm_withoutAlarm (w : Word) (k j : AlarmKind) :
    hasAlarm (withoutAlarm w k) j = (hasAlarm w j && decide (j ≠ k)) := by
  cases k <;> cases j <;> simp [hasAlarm, withoutAlarm, alarmBit, AlarmKind.bit]

namespace Machine

/-- A kind latched, and nothing else of either set changed (R177). -/
theorem latch_current (k : AlarmKind) (s : State) : (latch k s).oau.current = s.oau.current := by
  unfold latch; split <;> simp

theorem isLatched_latch (k j : AlarmKind) (s : State) :
    (latch k s).isLatched j = (s.isLatched j || decide (j = k)) := by
  unfold latch
  split
  · rename_i h
    by_cases e : j = k
    · subst e; simp [h]
    · simp [e]
  · simp [State.isLatched, hasAlarm_withAlarm]

theorem isCurrent_latch (k j : AlarmKind) (s : State) : (latch k s).isCurrent j = s.isCurrent j := by
  simp [State.isCurrent, latch_current]

/-- A kind raised is current, and no other kind changes (R176). -/
theorem isCurrent_raise (k j : AlarmKind) (s : State) :
    (raise k s).isCurrent j = (s.isCurrent j || decide (j = k)) := by
  unfold raise
  split
  · rename_i h
    by_cases e : j = k
    · subst e; simp [h]
    · simp [e]
  · rw [isCurrent_latch]; simp [State.isCurrent, hasAlarm_withAlarm]

/-- A kind ceased is not current, and no other kind changes (R176). -/
theorem isCurrent_cease (k j : AlarmKind) (s : State) :
    (cease k s).isCurrent j = (s.isCurrent j && decide (j ≠ k)) := by
  simp [cease, State.isCurrent, hasAlarm_withoutAlarm]

/-- A kind that ceases stays latched (R177). -/
theorem isLatched_cease (k j : AlarmKind) (s : State) : (cease k s).isLatched j = s.isLatched j := rfl

theorem isCurrent_makeEntry (k : EventKind) (j : AlarmKind) (s : State) :
    (makeEntry k s).isCurrent j = s.isCurrent j := by simp [State.isCurrent]

theorem isCurrent_raiseWithEntry (k j : AlarmKind) (e : EventKind) (s : State) :
    (raiseWithEntry k e s).isCurrent j = (s.isCurrent j || decide (j = k)) := by
  unfold raiseWithEntry
  split
  · rename_i h
    by_cases e : j = k
    · subst e; simp [h]
    · simp [e]
  · rw [isCurrent_makeEntry, isCurrent_raise]

end Machine

end Sys2Proof
end

