-- ==== Sys2Proof/Laws/Drives.lean ====
section
/-! SUPPORT. Drive records: which operation keeps the recorded command, and that no command brings a drive into or out of
FAULT or to an end; so giving a command touches neither the alarm sets nor the accounts' figures. -/

namespace Sys2Proof.Machine

@[simp] theorem act_command (t : Nat) (d : Drive) : (d.act t).command = d.command := by
  unfold Drive.act
  split <;> first | rfl | (split <;> rfl)

@[simp] theorem take_command (t : Nat) (c : DriveCommand) (d : Drive) : (d.take t c).command = c := by
  simp [Drive.take]

theorem follow_command (t : Nat) (w : Switches) (d : Drive) : (d.follow t w).command = d.command := by
  unfold Drive.follow Drive.leaveOpen Drive.leaveClosed
  split
  · rfl
  · split; · rfl
    split <;> rfl
  · split; · rfl
    split <;> rfl
  · split; · rfl
    split <;> rfl
  · split; · rfl
    split <;> rfl

@[simp] theorem switched_command (t : Nat) (w : Switches) (d : Drive) : (d.switched t w).command = d.command := by
  unfold Drive.switched
  split
  · split <;> rfl
  · split
    · split
      · exact act_command t _
      · split
        · exact act_command t _
        · rfl
    · split
      · split <;> rfl
      · exact follow_command t w d

@[simp] theorem expire_command (t : Nat) (d : Drive) : (d.expire t).command = d.command := by
  unfold Drive.expire
  split
  · split <;> rfl
  · rfl

/-- No command brings a drive into FAULT or out of it (R43). -/
theorem take_fault (t : Nat) (c : DriveCommand) (d : Drive) :
    (d.take t c).state = .fault ↔ d.state = .fault := by
  obtain ⟨st, _, _, _, _⟩ := d
  cases st <;> cases c <;> simp [Drive.take, Drive.act, Drive.rest, Drive.driveOpen, Drive.driveClosed] <;>
    (split <;> simp)

/-- No command brings a drive to CLOSED (R43). -/
theorem take_closed (t : Nat) (c : DriveCommand) (d : Drive) (h : (d.take t c).state = .isClosed) :
    d.state = .isClosed := by
  obtain ⟨st, cm, ou, tr, re⟩ := d
  cases st <;> cases c <;>
    simp [Drive.take, Drive.act, Drive.rest, Drive.driveOpen, Drive.driveClosed] at h ⊢ <;>
    (split at h <;> simp at h)

@[simp] theorem judgeSilentWindow_list (s : State) : (judgeSilentWindow s).acu.period = s.acu.period := by
  unfold judgeSilentWindow; split; · split <;> rfl
  rfl

/-- A drive record replaced is the drive record (R42). -/
@[simp] theorem putDrive_drive (d : Side) (x : Drive) (s : State) : (putDrive d x s).vdu.drive d = x := by
  unfold putDrive
  dsimp only
  split
  · simp
  · simp only [judgeSilentWindow_vdu, judgeLossWindow_vdu]
    split <;> split <;> simp only [endLanding_vdu, signalDrive_vdu] <;> cases d <;> rfl

/-- The other drive record is untouched. -/
theorem putDrive_other (d e : Side) (x : Drive) (s : State) (h : e ≠ d) :
    (putDrive d x s).vdu.drive e = s.vdu.drive e := by
  unfold putDrive
  dsimp only
  split
  · exact drive_setDrive_other _ _ _ _ h
  · simp only [judgeSilentWindow_vdu, judgeLossWindow_vdu]
    split <;> split <;> simp only [endLanding_vdu, signalDrive_vdu] <;> cases d <;> cases e <;>
      first | rfl | exact absurd rfl h

/-- A command given is the drive's command (R43, R56). -/
theorem giveCommand_command (d : Side) (c : DriveCommand) (s : State) :
    ((giveCommand d c s).vdu.drive d).command = c := by
  unfold giveCommand
  split
  · assumption
  · simp

/-- A command given: the record stands where the command is the one last given, and takes it where it is another (R43, R56). -/
theorem giveCommand_drive (d : Side) (c : DriveCommand) (s : State) :
    (giveCommand d c s).vdu.drive d =
      if (s.vdu.drive d).command = c then s.vdu.drive d else Drive.take s.travelMs c (s.vdu.drive d) := by
  unfold giveCommand
  split
  · rfl
  · simp

theorem giveCommand_other (d e : Side) (c : DriveCommand) (s : State) (h : e ≠ d) :
    (giveCommand d c s).vdu.drive e = s.vdu.drive e := by
  unfold giveCommand
  split
  · rfl
  · exact putDrive_other d e _ s h

/-- A drive that neither enters nor leaves FAULT, nor arrives at CLOSED, changes neither alarm set (R49, R59). -/
theorem putDrive_oau (d : Side) (x : Drive) (s : State)
    (hf : x.state = .fault ↔ (s.vdu.drive d).state = .fault)
    (hc : x.state = .isClosed → (s.vdu.drive d).state = .isClosed) : (putDrive d x s).oau = s.oau := by
  unfold putDrive
  dsimp only
  split
  · rfl
  · rename_i hne
    have hs : ∀ q : State, signalDrive d (s.vdu.drive d).state x.state q = q := by
      intro q
      unfold signalDrive
      split
      · rename_i h; exact absurd (hf.mp h.1) h.2
      · split
        · rename_i h; exact absurd (hf.mpr h.1) h.2
        · rfl
    have hn : ¬ (d = .outlet ∧ x.state = .isClosed) := fun h => hne (h.2.trans (hc h.2).symm)
    have hw : ∀ q : State, (judgeSilentWindow (judgeLossWindow q)).oau = q.oau := by intro q; simp
    rw [hs, if_neg hn, hw]
    split <;> rfl

/-- Giving a command changes neither alarm set. -/
@[simp] theorem giveCommand_oau (d : Side) (c : DriveCommand) (s : State) : (giveCommand d c s).oau = s.oau := by
  unfold giveCommand
  split
  · rfl
  · exact putDrive_oau d _ s (take_fault _ c _) (take_closed _ c _)

@[simp] theorem deriveCommands_oau (s : State) : (deriveCommands s).oau = s.oau := by simp [deriveCommands]

end Sys2Proof.Machine
end

