-- ==== Sys2Proof/Laws/Duty.lean ====
section
/-! SUPPORT. Duty sharing: what the settling pass leaves of the yard sharing unit and of the alarm sets, and what the claims
leave of a role. -/

namespace Sys2Proof.Machine

theorem updateRole_role (r : Role) (f : RoleState → RoleState) (s : State) :
    (updateRole r f s).ysu.role r = f (s.ysu.role r) := by simp [updateRole]

theorem updateRole_other (r q : Role) (f : RoleState → RoleState) (s : State) (h : q ≠ r) :
    (updateRole r f s).ysu.role q = s.ysu.role q := role_setRole_other _ _ _ _ h

/-- The parts of the yard sharing unit that no role's operation touches. -/
structure SameUnit (a b : Ysu) : Prop where
  order : a.order = b.order
  effective : a.effective = b.effective
  relearn : a.relearn = b.relearn
  table : a.table = b.table
  clash : a.clash = b.clash
  silence : a.silence = b.silence

theorem SameUnit.refl (a : Ysu) : SameUnit a a := ⟨rfl, rfl, rfl, rfl, rfl, rfl⟩

theorem SameUnit.trans {a b c : Ysu} (h : SameUnit a b) (k : SameUnit b c) : SameUnit a c :=
  ⟨h.order.trans k.order, h.effective.trans k.effective, h.relearn.trans k.relearn, h.table.trans k.table,
   h.clash.trans k.clash, h.silence.trans k.silence⟩

theorem updateRole_same (r : Role) (f : RoleState → RoleState) (s : State) : SameUnit (updateRole r f s).ysu s.ysu := by
  constructor <;> simp [updateRole]

theorem changeRole_same (r : Role) (h : Option Cause) (s : State) : SameUnit (changeRole r h s).ysu s.ysu :=
  (updateRole_same r _ _).trans (updateRole_same r _ _)

theorem judgeDelay_same (r : Role) (s : State) : SameUnit (judgeDelay r s).ysu s.ysu := by
  unfold judgeDelay
  split
  · exact SameUnit.refl _
  · exact updateRole_same r _ s

theorem judgeCalls_same (s : State) : SameUnit (judgeCalls s).ysu s.ysu :=
  (judgeDelay_same .give _).trans ((judgeDelay_same .take _).trans
    ((updateRole_same .give _ _).trans (updateRole_same .take _ s)))

theorem standingRules_same (r : Role) (s : State) : SameUnit (standingRules r s).ysu s.ysu := by
  unfold standingRules
  split
  · split
    · exact changeRole_same r _ s
    · split
      · unfold startDelay
        split
        · exact changeRole_same r _ s
        · exact updateRole_same r _ s
      · split
        · exact changeRole_same r _ s
        · exact SameUnit.refl _
  · exact SameUnit.refl _

theorem applyClaim_same (r : Role) (s : State) : SameUnit (applyClaim r s).ysu s.ysu := by
  unfold applyClaim
  split
  · exact updateRole_same r _ s
  · exact changeRole_same r _ s

theorem judgeAbilities_same (s : State) : SameUnit (judgeAbilities s).ysu s.ysu := ⟨rfl, rfl, rfl, rfl, rfl, rfl⟩

theorem chooseRoles_same (s : State) : SameUnit (chooseRoles s).ysu s.ysu :=
  (standingRules_same .give _).trans ((standingRules_same .take _).trans ((judgeCalls_same _).trans
    ((applyClaim_same .give _).trans ((applyClaim_same .take _).trans (judgeAbilities_same _)))))

/-- The settling pass touches no more of the yard sharing unit than its two roles. -/
theorem settleFrom_same (old s : State) : SameUnit (settleFrom old s).ysu s.ysu := by
  unfold settleFrom
  refine (judgeCalls_same _).trans ?_
  simp only [judgeMode_ysu, deriveCommands_ysu, handOn_ysu]
  exact chooseRoles_same s

@[simp] theorem settleFrom_oau (old s : State) : (settleFrom old s).oau = s.oau := by
  simp [settleFrom]

@[simp] theorem settle_oau (s : State) : (settle s).oau = s.oau := settleFrom_oau s s

/-- The settling pass changes no current kind. -/
theorem isCurrent_settle (s : State) (k : AlarmKind) : (settle s).isCurrent k = s.isCurrent k := by
  simp [State.isCurrent]

/-- A role's record after its claim: exactly what the claim leaves of it (R109). -/
theorem applyClaim_held (r : Role) (s : State) : ((applyClaim r s).ysu.role r).held = claimOf s r := by
  unfold applyClaim
  split
  · simp [updateRole]
  · simp [changeRole, restartTimers, updateRole]

/-! ## Abilities (R110, R111) -/

/-- CAN_TAKE is judged by every term of R110. -/
theorem canTake_iff (s : State) : canTake s = true ↔ s.station = .run ∧ s.ini.key = .auto ∧
    (s.srk.record.status = .valid ∨ (s.srk.record.status = .doubtful ∧ s.isCurrent .liftMismatch = false)) ∧
    (s.mvc.zone = .landed ∨ s.mvc.zone = .low ∨ s.mvc.zone = .working) ∧ s.vdu.inlet.state ≠ .fault ∧
    s.isCurrent .numberClash = false := by
  simp [canTake, and_assoc, or_assoc]

/-- CAN_GIVE is judged by every term of R111. -/
theorem canGive_iff (s : State) : canGive s = true ↔ s.station = .run ∧ s.ini.key = .auto ∧
    s.srk.record.status ≠ .invalid ∧ (s.mvc.zone = .working ∨ s.mvc.zone = .high ∨ s.mvc.zone = .top) ∧
    s.vdu.outlet.state ≠ .fault ∧ s.ini.district.value.isSome = true ∧ s.isCurrent .numberClash = false := by
  simp [canGive, and_assoc, or_assoc]

end Sys2Proof.Machine
end

