-- ==== Sys2Proof/Certificates/Slice0/Obligations.lean ====
section
/-! DEFINITION. The statements for the provers. -/

open Sys2Proof Sys2Proof.Machine

/-! ## A step -/

/-- A step takes the front command and answers what `exec` makes of the state with the queue's rest. -/
def Obligations.StepRunsTheFrontCommand : Prop :=
  ∀ (c : Instr) (rest : List Instr) (s : State),
    s.pending = c :: rest → step s = exec c { s with pending := rest }

/-- The model's choice (log 4): on an empty queue one ms passes. Every running timer of every block has one ms less and a
stopped one stays stopped; in LISTEN and RUN every peer's age is one ms more, up to 10 × I (R93, R99); no record, role,
command, minute, pin, account or alarm changes. Without supply nothing changes at all (log 5). -/
def Obligations.EmptyQueueStepPassesTime : Prop :=
  ∀ s : State, s.pending = [] →
    let less : Timer → Timer := fun x => x.map (fun n => n - 1)
    let held : InputRecord → InputRecord := fun r => { r with hold := less r.hold }
    let drive : Drive → Drive := fun d => { d with travel := less d.travel }
    ∃ t, step s = .next t ∧ (s.supply = false → t = s) ∧
      (s.supply = true →
        (∀ r k left, (s.ysu.role r).timer k = .running left → (t.ysu.role r).timer k = .running (left - 1)) ∧
        (∀ r k, (∀ left, (s.ysu.role r).timer k ≠ .running left) →
          (t.ysu.role r).timer k = (s.ysu.role r).timer k) ∧
        (∀ r, t.ysu.role r = { s.ysu.role r with
          call := (t.ysu.role r).call, release := (t.ysu.role r).release, dwell := less (s.ysu.role r).dwell,
          delay := (s.ysu.role r).delay.map (fun d => { d with left := d.left - 1 }) }) ∧
        t = { s with
          listenTimer := less s.listenTimer,
          ini := { s.ini with
            crown := held s.ini.crown, gauge := held s.ini.gauge, inletMain := held s.ini.inletMain,
            district := held s.ini.district, gasTemp := held s.ini.gasTemp, barometer := held s.ini.barometer,
            impulse := less s.ini.impulse, absorb := less s.ini.absorb, buttonHold := less s.ini.buttonHold },
          vdu := { s.vdu with inlet := drive s.vdu.inlet, outlet := drive s.vdu.outlet },
          srk := { s.srk with timer := less s.srk.timer },
          yli := { s.yli with backOff := less s.yli.backOff, blocked := less s.yli.blocked,
                              reportTimer := less s.yli.reportTimer },
          ysu := { s.ysu with
            take := t.ysu.take, give := t.ysu.give, relearn := less s.ysu.relearn, clash := less s.ysu.clash,
            silence := less s.ysu.silence,
            table := if s.working = true then
              s.ysu.table.map (fun e => { e with age := min (e.age + 1) (10 * s.intervalMs) }) else s.ysu.table },
          pgv := { s.pgv with step := less s.pgv.step } })

/-- Every command is answered with a next state, and none touches the queue. The model's choice (log 5): without supply no
command but POWER_ON changes anything but the pins (the button contact with its hold, and the end switches). -/
def Obligations.EveryCommandAnswersNext : Prop :=
  (∀ (c : Instr) (s : State), ∃ t, exec c s = .next t ∧ t.pending = s.pending) ∧
  (∀ (c : Instr) (s : State), s.supply = false → (∀ r, c ≠ .powerOn r) →
    ∃ t, exec c s = .next t ∧
      t = { s with ini := { s.ini with
              button := t.ini.button, buttonHold := t.ini.buttonHold, inletSwitches := t.ini.inletSwitches,
              outletSwitches := t.ini.outletSwitches } })

/-! ## Reset and the kinds of start -/

/-- The values the chapters give after power-on, in the state the model starts in (R3, R4, R34, R51, R74, R80, R82, R90,
R105, R107, R136, R179). -/
def Obligations.ResetHoldsPowerOnValues : Prop :=
  let s := State.reset
  s.station = .start ∧
  s.srk.record = { h := 0, liftsByHeight := 0, liftsByPressure := 0, gaugeUsed := 0, vRaw := 0, perMille := 0,
                   stock := 0, factor := 65536, status := .invalid,
                   substituted := { gauge := false, gasTemp := false, barometer := false } } ∧
  s.srk.heightAccepted = false ∧ s.srk.timer = none ∧
  s.mvc.zone = .landed ∧ s.mvc.lastHeight = none ∧ s.mvc.motion = .still ∧ s.mvc.forcedGive = false ∧
  s.mvc.topLeg = false ∧ s.mvc.landingLeg = false ∧ s.mvc.mismatchRun = 0 ∧ s.mvc.matchRun = 0 ∧
  s.mvc.window = none ∧ s.mvc.lowSeen = false ∧ s.mvc.restSub = 0 ∧
  s.mvc.turnoverDue = false ∧ s.mvc.frostTemp = 150 ∧
  s.vdu.inlet.command = .none ∧ s.vdu.outlet.command = .none ∧ s.vdu.governor = .released ∧
  s.yli.queue = [] ∧ s.yli.inFlight = none ∧ s.yli.tx = .standby ∧ s.yli.attempt = 0 ∧ s.yli.line = .busy ∧
  s.yli.quiet = false ∧ s.yli.counters = .zero ∧ s.yli.freePlaces = 4 ∧ s.yli.backOff = none ∧
  s.yli.blocked = none ∧ s.yli.reportTimer = none ∧
  s.ysu.table = [] ∧ s.ysu.order = .auto ∧ s.ysu.relearn = none ∧ s.ysu.clash = none ∧ s.ysu.silence = none ∧
  (∀ r, s.holds r = false ∧ (s.ysu.role r).able = false ∧ (s.ysu.role r).call = .stopped ∧
    (s.ysu.role r).release = .stopped ∧ (s.ysu.role r).delay = none ∧ (s.ysu.role r).dwell = none) ∧
  s.pgv.mode = .released ∧ s.pgv.opening = 0 ∧ s.pgv.step = none ∧
  s.ini.inletCount = 0 ∧ s.ini.outletCount = 0 ∧ s.ini.synced = false ∧ s.ini.absorb = none ∧
  s.oau.current = 0#16 ∧ s.oau.latched = 0#16 ∧ s.contactClosed = false

/-- Every law that a step keeps holds in the state the model starts in. -/
def Obligations.ResetSatisfiesTheLaws : Prop :=
  pendingLaw State.reset ∧ alarmLaw State.reset ∧ queueLaw State.reset ∧ stationLaw State.reset ∧
  tableLaw State.reset ∧ roleLaw State.reset ∧ commandLaw State.reset ∧ governorLaw State.reset ∧
  openingLaw State.reset ∧ modeLaw State.reset ∧ gradeLaw State.reset ∧ abilityLaw State.reset ∧ limitLaw State.reset ∧
  driveLaw State.reset.vdu.inlet ∧ driveLaw State.reset.vdu.outlet ∧
  storeLaw State.reset ∧ accountLaw State.reset ∧ inputLaw State.reset ∧ lineLaw State.reset ∧ plantLaw State.reset

/-- A power-on that finds a number outside 1..16 enters FAULT off the line, its plug not read and its store not checked
(R181); the plug check word is then 0 (log 7). One whose plug is absent, has a wrong sum or fails a test of R182, or whose
line test fails (R183), enters FAULT with its valid number, the store not checked; the sum is kept, 0 for an absent plug.
One that finds no good half clears the store: to half A with write count 1, RETAINED LOST latched and not current, the
accounts from nothing with ACCOUNTS LOST; a failed read-back enters FAULT (R171, R185). What the cleared copy holds before
the first record is log 21's, and what a half cut short or misread holds is log 14's, and that the list is empty in a start
that never checks its store is log 40's: the model's choices. -/
def Obligations.PowerOnOnBadStrapsOrStore : Prop :=
  (∀ (r : StartReadings) (s : State), r.straps = 0 ∨ 16 < r.straps →
      ∃ t, exec (.powerOn r) s = .next t ∧ t.supply = true ∧ t.station = .fault ∧ t.number = r.straps ∧ t.plug = none ∧
        t.plugSum = 0 ∧ t.isCurrent .configFault = true ∧ t.isLatched .configFault = true ∧ t.contactClosed = true ∧
        t.onLine = false ∧ t.yli.queue = [] ∧ t.yli.tx = .standby ∧
        (∀ h, (∀ w ∈ s.rst.writing, w.half ≠ h) → t.rst.half h = s.rst.half h)) ∧
  (∀ cs : List Byte,
      (cs.length ≠ 165 → plugTaken (some cs) = none ∧ plugCheckWord (some cs) = 0) ∧
      (cs.length = 165 → plugCheckWord (some cs) = ((cs.take 163).map BitVec.toNat).sum % 65536 ∧
        (passesR182 cs → plugTaken (some cs) = some (plugSettings cs)) ∧
        (¬ passesR182 cs → plugTaken (some cs) = none)) ∧
      plugTaken none = none ∧ plugCheckWord none = 0) ∧
  (∀ (n : Nat) (loop : Option (List LineChar)), 1 ≤ n → n ≤ 16 →
      let sent := frameChars n n 3 ((List.range 16).map (BitVec.ofNat 8))
      (lineTestPasses n loop = true ↔ loop.getD sent = sent)) ∧
  (∀ (r : StartReadings) (s : State), 1 ≤ r.straps → r.straps ≤ 16 →
      plugTaken r.plug = none ∨ lineTestPasses r.straps r.loop = false →
      ∃ t, exec (.powerOn r) s = .next t ∧ t.supply = true ∧ t.station = .fault ∧ t.number = r.straps ∧
        t.plug = plugTaken r.plug ∧ t.plugSum = plugCheckWord r.plug ∧ t.isCurrent .configFault = true ∧
        t.isLatched .configFault = true ∧ t.isLatched .retainedLost = false ∧ t.contactClosed = true ∧
        t.onLine = true ∧ t.yli.counters = .zero ∧ t.yli.queue = [] ∧ t.acu.list = [] ∧
        (∀ h, (∀ w ∈ s.rst.writing, w.half ≠ h) → t.rst.half h = s.rst.half h)) ∧
  (∀ (r : StartReadings) (s : State) (p : Settings),
      1 ≤ r.straps → r.straps ≤ 16 → plugTaken r.plug = some p → lineTestPasses r.straps r.loop = true →
      (tearWrite s).rst.newestGood = none →
      ∃ t, exec (.powerOn r) s = .next t ∧
        (r.clearing = .asWritten → clearedStore t) ∧
        (∀ now, r.clearing = .differs now →
          t.station = .fault ∧ t.rst.a = now ∧ t.isCurrent .configFault = true ∧ t.isLatched .retainedLost = false))

/-- A power-on whose steps all pass on a good store restores its contents and starts the clock from them, both halves
standing; CLOCK SYNCED is cleared, and the line, the duty sharing, the stock record, the movement controller and the governor
are at their first values (R185, R186). Each drive's state is the one its end switches give, at rest with no command (R42);
the alarm sets hold the VALVE FAULT kind of a drive found with both switches made, and no other kind (R176, R179). The model's
choices: the values of the inputs not yet sampled and of the receiver's framing (log 7), those of the key not yet taken (log
18), and that the button's 10 s is dropped (log 34). The store's contents are those of the one good half; of two, those of the
half whose write count is ahead, half A when neither is; a half is good when its check word agrees (R185; what the check word
is worked over: log 13; that a half cut short holds no copy: log 14). -/
def Obligations.PowerOnTakesTheGoodStore : Prop :=
  (∀ (r : StartReadings) (s : State) (p : Settings) (h : HalfId) (x : StoreHalf),
    1 ≤ r.straps → r.straps ≤ 16 → plugTaken r.plug = some p → lineTestPasses r.straps r.loop = true →
    (tearWrite s).rst.newestGood = some (h, x) →
    ∃ t, exec (.powerOn r) s = .next t ∧ t.startKind = .powerOn ∧ restoredFrom r p h x t ∧ blocksStarted s t ∧
      t.rst.a = (tearWrite s).rst.a ∧ t.rst.b = (tearWrite s).rst.b) ∧
  (∀ (r : Rst) (x y : StoreHalf),
    let good := fun h : StoreHalf => h.checkWord = halfCheckWord h.contents h.writeCount
    let ahead := (y.writeCount % 65536 + 65536 - x.writeCount % 65536) % 65536
    (r.a = some x → r.b = some y → good x → good y → 1 ≤ ahead → ahead ≤ 32767 → r.newestGood = some (.b, y)) ∧
    (r.a = some x → r.b = some y → good x → good y → ahead = 0 ∨ 32768 ≤ ahead → r.newestGood = some (.a, x)) ∧
    (r.a = some x → good x → r.b = none ∨ (r.b = some y ∧ ¬ good y) → r.newestGood = some (.a, x)) ∧
    (r.a = none ∨ (r.a = some x ∧ ¬ good x) → r.b = some y → good y → r.newestGood = some (.b, y)) ∧
    (r.a = none ∨ (r.a = some x ∧ ¬ good x) → r.b = none ∨ (r.b = some y ∧ ¬ good y) → r.newestGood = none))

/-- The RESTART order and the button held 10 s make a station restart; while a write is in progress the restart only becomes
due, and is made when the write and its read-back are done, whichever way that went (R40, R174, R184, R186). A restart whose
steps pass takes the newest good half, or clears a store with none, as a power-on does, with CLOCK SYNCED kept (R185). That
the station stands as it is while the restart waits, and that a read-back that differs then leads into the restart and not
into FAULT, is the model's reading (log 33). What the cleared copy holds (ACCOUNTS LOST, a stock of 0 and INVALID until the
first record) is the model's choice (log 21). What stands in the written half after a read-back that differs is the command's
to say (log 14). -/
def Obligations.RestartEntersStart : Prop :=
  (∀ (r : StartReadings) (s : State), s.supply = true → s.onLine = true → s.rst.writing = none →
    ∃ t, exec (.restart .own r) s = .next t ∧ restartedOn r s.rst s t) ∧
  (∀ (r : StartReadings) (s : State), s.supply = true → s.ini.button = true → s.ini.buttonHold.isSome = true →
    s.rst.writing = none → ∃ t, exec (.acceptButtonHeld r) s = .next t ∧ restartedOn r s.rst s t) ∧
  (∀ (r : StartReadings) (s : State) (w : StoreWrite), s.supply = true → s.onLine = true → s.rst.writing = some w →
    ∃ t, exec (.restart .own r) s = .next t ∧
      t = { s with rst := { s.rst with restartDue := true }, yli := t.yli }) ∧
  (∀ (r : StartReadings) (s : State) (w : StoreWrite), s.supply = true → s.ini.button = true →
    s.ini.buttonHold.isSome = true → s.rst.writing = some w →
    ∃ t, exec (.acceptButtonHeld r) s = .next t ∧
      t = { s with rst := { s.rst with restartDue := true }, ini := { s.ini with buttonHold := none } }) ∧
  (∀ (r : StartReadings) (s : State) (w : StoreWrite), s.supply = true → s.rst.writing = some w →
    s.rst.restartDue = true →
    ∃ t, exec (.retainedWriteComplete .asWritten r) s = .next t ∧
      restartedOn r (s.rst.setHalf w.half (some w.image)) s t ∧
      ((s.rst.setHalf w.half (some w.image)).newestGood.isSome = true →
        t.rst.half w.half = some w.image ∧ t.rst.half w.half.other = s.rst.half w.half.other)) ∧
  (∀ (r : StartReadings) (s : State) (w : StoreWrite) (now : Option StoreHalf), s.supply = true →
    s.rst.writing = some w → s.rst.restartDue = true →
    ∃ t, exec (.retainedWriteComplete (.differs now) r) s = .next t ∧ restartedOn r (s.rst.setHalf w.half now) s t ∧
      ((s.rst.setHalf w.half now).newestGood.isSome = true →
        t.rst.half w.half = now ∧ t.rst.half w.half.other = s.rst.half w.half.other))

/-- Entry to LISTEN: the timers of R4, R88, R102 and R180, the initial key, the start's event entry with the minute START
set from a good store (R170) or the minute as it stands after a cleared one (R157, R171), the first reckoning with no role
held, and the first write (R180, R170), the opening stock of a cleared store from that reckoning's record (R171); pulses
counted in START reach no figure (R154, R170). The report timer stands at N × 1 s, or at I where the first reckoning newly
latches a kind. The model's choices: a key position taken before the entry stands as the initial one (log 18), the counters
are set to 0 at the entry (log 35), the minute of a good store's entry is the store's and not one counted since (log 36),
and a kind newly latched by the first reckoning restarts the report timer (log 39). -/
def Obligations.EntryToListenMakesTheFirstReckoning : Prop :=
  ∀ (key : Option KeyPosition) (s : State), s.supply = true → s.station = .start → s.stepsDone = true →
    ∃ t, exec (.entryToListen key) s = .next t ∧ t.station = .listen ∧ t.listenTimer = some (2 * s.intervalMs) ∧
      t.srk.timer = some 10000 ∧ t.ysu.silence = some (5 * s.intervalMs) ∧
      (∀ k, t.isLatched k = true → s.isLatched k = false → t.yli.reportTimer = some s.intervalMs) ∧
      (s.holdsTake = false → s.holdsGive = false → (∀ k, t.isLatched k = true → s.isLatched k = true) →
        t.yli.reportTimer = some (s.number * 1000)) ∧
      t.ini.keyTaken = true ∧ (s.ini.keyTaken = false → t.ini.key = key.getD .outOfService) ∧
      (s.ini.keyTaken = true → t.ini.key = s.ini.key) ∧
      t.srk.record = { reckonedRecord s with status := t.srk.record.status } ∧
      t.mvc.zone = zoneOf s.cfg t.srk.record.h ∧ t.holdsTake = false ∧ t.holdsGive = false ∧
      t.ini.inletCount = 0 ∧ t.ini.outletCount = 0 ∧ t.ini.minute = s.ini.minute ∧
      t.acu.inletResidue = s.acu.inletResidue % 65536 ∧ t.acu.outletResidue = s.acu.outletResidue % 65536 ∧
      t.acu.period.makeIn = min (s.acu.period.makeIn + s.acu.inletResidue / 65536) 16777215 ∧
      t.acu.period.sendOut = min (s.acu.period.sendOut + s.acu.outletResidue / 65536) 16777215 ∧
      t.acu.period.number = s.acu.period.number ∧ t.acu.list = s.acu.list ∧ t.acu.openingDue = false ∧
      (s.acu.openingDue = true → t.acu.period.openingStock = (reckonedRecord s).stock ∧
        t.acu.period.openingStatus = (reckonedRecord s).status) ∧
      (s.acu.openingDue = false → t.acu.period.openingStock = s.acu.period.openingStock ∧
        t.acu.period.openingStatus = s.acu.period.openingStatus) ∧
      (s.acu.period.entries.length < 8 → s.acu.openingDue = false → ∀ h ∈ s.rst.half s.rst.newest, ∃ more,
        t.acu.period.entries =
          s.acu.period.entries ++ { kind := startEntry s, minute := h.contents.minute } :: more) ∧
      (s.acu.period.entries.length < 8 → s.acu.openingDue = true → ∃ more, t.acu.period.entries =
        s.acu.period.entries ++ { kind := startEntry s, minute := s.ini.minute } :: more) ∧
      (8 ≤ s.acu.period.entries.length →
        t.acu.period.entries = s.acu.period.entries ∧ t.acu.period.flags.eventsLost = true) ∧
      (t.rst.writing.isSome = true)

/-- Expiry of the listen timer: RUN, with an unset period number now 1, both dwells at 300 s, the roles that the open valves
adopt less what the claims remove, and GIVE with cause LIMIT while the holder stands in TOP (R134, R171, R180), or the duty
of a hand order held with the key at AUTO (R130, R134); the mode by R138's table, with a first step at once and the step
timer at 2 s where it leaves RELEASED (R139); and the abilities by R110's and R111's lists. -/
def Obligations.ListenExpiryEntersRun : Prop :=
  ∀ s : State, s.supply = true → s.station = .listen → s.listenTimer.isSome = true →
    ∃ t, exec .listenTimerExpiry s = .next t ∧ t.station = .run ∧ t.listenTimer = none ∧
      t.srk = s.srk ∧ t.ini = s.ini ∧ t.rst = s.rst ∧ t.oau = s.oau ∧ t.ysu.table = s.ysu.table ∧
      t.acu.period.number = some (s.acu.period.number.getD 1) ∧
      t.ysu.take.dwell = some 300000 ∧ t.ysu.give.dwell = some 300000 ∧
      t.ysu.effective = (s.ysu.order != .auto && s.ini.key == .auto) ∧ abilityLaw t ∧ t.pgv.mode = modeTable t ∧
      (s.pgv.mode = .released → s.ini.key ≠ .outOfService → t.pgv.step = some 2000 ∧
        (t.pgv.mode ≠ .governing → s.pgv.opening = 0 → t.pgv.opening = 0)) ∧
      (s.ini.key ≠ .auto ∨ s.isCurrent .numberClash = true → t.ysu.take.held = none ∧ t.ysu.give.held =
        (if s.ini.key ≠ .outOfService ∧ s.mvc.zone = .top ∧ s.vdu.outlet.state ≠ .fault then some .limit else none)) ∧
      (∀ d, s.ysu.order = .hand d → s.ini.key = .auto → s.isCurrent .numberClash = false →
        t.ysu.take.held = (if suppressed s .take = false ∧ d.includes .take = true then some .hand else none) ∧
        t.ysu.give.held =
          (if suppressed s .give = true then none
           else if s.mvc.zone = .top then some .limit
           else if d.includes .give = true then some .hand else none)) ∧
      (s.ysu.order = .auto →
        t.ysu.take.held =
          (if s.ini.key = .auto ∧ s.isCurrent .numberClash = false ∧ suppressed s .take = false ∧
              s.vdu.inlet.state = .isOpen then some .automatic else none) ∧
        t.ysu.give.held =
          (if s.ini.key ≠ .outOfService ∧ s.mvc.zone = .top ∧ s.vdu.outlet.state ≠ .fault then some .limit
           else if s.ini.key = .auto ∧ s.isCurrent .numberClash = false ∧ suppressed s .give = false ∧
              s.vdu.outlet.state = .isOpen then some .automatic else none))

/-! ## The retained store -/

/-- A write read back as written is the newer copy, and nothing else changes but the line; a write that came due during it
begins after it, to the other half, with a write count one more and every item as it then stands (R184; once: log 12). A
supply lost during a write leaves that half bad and the other as it was, and one lost at another moment leaves both halves
as they were (R184); that a half cut short holds no copy is log 14, and that all else stands while the supply is away is log
5: the model's choices. -/
def Obligations.WriteKeepsOneCopy : Prop :=
  (∀ (r : StartReadings) (s : State) (w : StoreWrite), s.supply = true → s.rst.writing = some w →
    s.rst.restartDue = false → s.rst.again = false →
    ∃ t, exec (.retainedWriteComplete .asWritten r) s = .next t ∧
      t.rst.half w.half = some w.image ∧ t.rst.half w.half.other = s.rst.half w.half.other ∧
      t.rst.newest = w.half ∧ t.rst.writing = none ∧ t = { s with rst := t.rst, yli := t.yli }) ∧
  (∀ (r : StartReadings) (s : State) (w : StoreWrite), s.supply = true → s.working = true → s.rst.writing = some w →
    s.rst.restartDue = false → s.rst.again = true →
    ∃ t, exec (.retainedWriteComplete .asWritten r) s = .next t ∧
      t.rst.half w.half = some w.image ∧ t.rst.half w.half.other = s.rst.half w.half.other ∧
      t.rst.newest = w.half ∧ t.rst.again = false ∧
      t.rst.writing = some { half := w.half.other, image :=
        { contents := { list := s.acu.list, period := s.acu.period, inletResidue := s.acu.inletResidue,
                        outletResidue := s.acu.outletResidue, cycles := s.mvc.cycles, restTime := s.mvc.restTime,
                        minute := s.ini.minute },
          writeCount := (w.image.writeCount + 1) % 65536,
          checkWord := halfCheckWord (retainedContents s) ((w.image.writeCount + 1) % 65536) } } ∧
      t = { s with rst := t.rst, yli := t.yli }) ∧
  (∀ (s : State), s.supply = true →
    ∃ t, exec .lossOfSupply s = .next t ∧ t.supply = false ∧ t.rst.writing = none ∧
      (s.rst.writing = none → t = { s with supply := false }) ∧
      (∀ w ∈ s.rst.writing, t.rst.half w.half = none ∧ t.rst.half w.half.other = s.rst.half w.half.other ∧
        t.rst.newest = s.rst.newest) ∧
      t = { s with supply := false, rst := t.rst })

/-- A read-back that differs enters FAULT: CONFIG FAULT current, both commands NONE, the governor released, no role, no
ability, no peer, the queue empty, QUIET clear, the counters, the hand order and the accounts kept (R135, R180, R184). The
hand order is PENDING there (R129; log 19). The model's choices: that each drive takes NONE at once from the record it had,
with no CLOSE on the emptied role set before it (log 37), and that what the written half then holds is the command's to say
(log 14). A failed write with a restart waiting: RestartEntersStart. -/
def Obligations.FailedWriteEntersFault : Prop :=
  ∀ (r : StartReadings) (s : State) (w : StoreWrite) (now : Option StoreHalf), s.supply = true →
    s.rst.writing = some w → s.rst.restartDue = false → alarmLaw s →
    ∃ t, exec (.retainedWriteComplete (.differs now) r) s = .next t ∧ t.station = .fault ∧
      t.isCurrent .configFault = true ∧ t.isLatched .configFault = true ∧ t.contactClosed = true ∧
      t.isCurrent .alone = false ∧ t.isCurrent .numberClash = false ∧ t.isCurrent .txBlocked = false ∧
      t.vdu.inlet.command = .none ∧ t.vdu.outlet.command = .none ∧ (∀ v, drivenFrom s t v (s.vdu.drive v)) ∧
      t.vdu.governor = .released ∧ t.pgv.mode = .released ∧ t.pgv.opening = 0 ∧ t.pgv.step = none ∧
      t.holdsTake = false ∧ t.holdsGive = false ∧ t.ysu.take.able = false ∧ t.ysu.give.able = false ∧
      t.ysu.take.dwell = none ∧ t.ysu.give.dwell = none ∧ t.ysu.order = s.ysu.order ∧
      t.ysu.effective = false ∧ t.ysu.table = [] ∧
      t.yli.queue = [] ∧ t.yli.quiet = false ∧ t.yli.counters = s.yli.counters ∧ t.yli.reportTimer = none ∧
      t.srk.timer = none ∧ t.srk.record = s.srk.record ∧ t.rst.writing = none ∧ t.rst.half w.half = now ∧
      t.rst.half w.half.other = s.rst.half w.half.other ∧ accountsKept s t ∧ t.ini = s.ini

/-! ## The reckoning -/

/-- A reckoning makes the record of the inputs as they stand, graded with LIFT MISMATCH as the lift check leaves it, and the
movement controller's zone, motion and cycle count from it (R5, R20, R22, R53, R54, R68); the STOCK INVALID kind and the
entries of a new grade (R23, R24); the legs and LIMIT GUARD (R58 to R60); the lift check's runs and LIFT MISMATCH (R61 to
R63); the still-loss window and STILL LOSS (R64 to R67); the rest time and turnover due (R69 to R71); the abilities by
R110's and R111's lists. A record on an INVALID crown height neither completes nor begins a cycle (R68). What a hand-off
that keeps a role does to rest and turnover: log 29. -/
def Obligations.ReckoningWorksTheRecord : Prop :=
  (∀ s : State, s.supply = true → s.working = true → s.srk.timer.isSome = true →
    ∃ t, exec .reckoning s = .next t ∧ t.srk.timer = some 10000 ∧
      t.srk.record = { reckonedRecord s with
        status := gradeOf s.ini.crown.statusTaken (t.isCurrent .liftMismatch) (substitutionsNow s) } ∧
      t.mvc.zone = zoneOf s.cfg (acceptedHeight s) ∧ t.mvc.motion = motionOf s.mvc.lastHeight (acceptedHeight s) ∧
      t.mvc.lastHeight = some (acceptedHeight s) ∧ (t.mvc.topLeg = true ↔ t.mvc.zone = .top) ∧ abilityLaw t ∧
      (s.ini.crown.statusTaken = .invalid → t.mvc.cycles = s.mvc.cycles ∧ t.mvc.lowSeen = s.mvc.lowSeen) ∧
      (s.ini.crown.statusTaken ≠ .invalid →
        t.mvc.cycles = (if 750 ≤ (reckonedRecord s).perMille ∧ s.mvc.lowSeen = true then min (s.mvc.cycles + 1) 65535
          else s.mvc.cycles) ∧
        t.mvc.lowSeen = (if 750 ≤ (reckonedRecord s).perMille ∧ s.mvc.lowSeen = true then false
          else if (reckonedRecord s).perMille ≤ 250 then true else s.mvc.lowSeen)) ∧
      t.station = s.station ∧ t.number = s.number ∧ t.plug = s.plug ∧ t.listenTimer = s.listenTimer ∧
      t.ini = { s.ini with inletCount := 0, outletCount := 0 } ∧ t.ysu.order = s.ysu.order ∧
      t.ysu.table = s.ysu.table ∧ t.acu.list = s.acu.list) ∧
  (∀ s : State, s.supply = true → s.working = true → s.srk.timer.isSome = true →
    ∃ t, exec .reckoning s = .next t ∧
      (s.srk.graded = false ∨ s.srk.record.status ≠ (reckonedRecord s).status →
        (t.isCurrent .stockInvalid = true ↔ (reckonedRecord s).status = .invalid) ∧
        ((reckonedRecord s).status = .invalid → s.acu.period.entries.length ≤ 3 →
          { kind := .stockInvalid, minute := s.ini.minute } ∈ t.acu.period.entries) ∧
        ((reckonedRecord s).status = .held → s.acu.period.entries.length ≤ 3 →
          { kind := .stockHeld, minute := s.ini.minute } ∈ t.acu.period.entries)) ∧
      (s.srk.graded = true → s.srk.record.status = (reckonedRecord s).status →
        t.srk.record.status = (reckonedRecord s).status → t.isCurrent .stockInvalid = s.isCurrent .stockInvalid) ∧
      (t.srk.record.status ≠ (reckonedRecord s).status → t.isCurrent .stockInvalid = false)) ∧
  (∀ s : State, s.supply = true → s.working = true → s.srk.timer.isSome = true →
    ∃ t, exec .reckoning s = .next t ∧
      (t.mvc.landingLeg = true ↔ t.mvc.zone = .landed ∧ (s.mvc.landingLeg = true ∨
        ((s.mvc.lastHeight = none ∨ s.mvc.zone ≠ .landed) ∧ s.vdu.outlet.state = .isOpen))) ∧
      (t.isCurrent .limitGuard = true ↔ t.mvc.topLeg = true ∨ t.mvc.landingLeg = true) ∧
      (t.isCurrent .limitGuard = true → s.isCurrent .limitGuard = false → s.acu.period.entries.length ≤ 3 →
        { kind := .limitGuard, minute := s.ini.minute } ∈ t.acu.period.entries)) ∧
  (∀ s : State, s.supply = true → s.working = true → s.srk.timer.isSome = true →
    let r := reckonedRecord s
    let judged := s.cfg.cls = .waterSealed ∧ r.status.trusted = true
    let matching := r.liftsByHeight = r.liftsByPressure ∨ ∃ k, k < s.cfg.lifts.length - 1 ∧
      totalTravel (s.cfg.lifts.take (k + 1)) ≤ r.h + 150 ∧ r.h ≤ totalTravel (s.cfg.lifts.take (k + 1)) + 150
    ∃ t, exec .reckoning s = .next t ∧
      (¬ judged → t.mvc.matchRun = s.mvc.matchRun ∧ t.mvc.mismatchRun = s.mvc.mismatchRun ∧
        t.isCurrent .liftMismatch = s.isCurrent .liftMismatch) ∧
      (judged → matching → t.mvc.matchRun = min (s.mvc.matchRun + 1) 3 ∧ t.mvc.mismatchRun = 0 ∧
        (t.isCurrent .liftMismatch = true ↔ s.isCurrent .liftMismatch = true ∧ s.mvc.matchRun < 2)) ∧
      (judged → ¬ matching → t.mvc.mismatchRun = min (s.mvc.mismatchRun + 1) 3 ∧ t.mvc.matchRun = 0 ∧
        (t.isCurrent .liftMismatch = true ↔ s.isCurrent .liftMismatch = true ∨ 2 ≤ s.mvc.mismatchRun)) ∧
      (t.isCurrent .liftMismatch = true → s.isCurrent .liftMismatch = false → s.acu.period.entries.length ≤ 3 →
        { kind := .liftMismatch, minute := s.ini.minute } ∈ t.acu.period.entries)) ∧
  (∀ s : State, s.supply = true → s.working = true → s.srk.timer.isSome = true →
    let r := reckonedRecord s
    let closed := fun x : State => x.vdu.inlet.state = .isClosed ∧ x.vdu.outlet.state = .isClosed
    ∃ t, exec .reckoning s = .next t ∧
      (¬ closed t ∨ r.status.trusted = false → t.mvc.window = none) ∧
      (closed t → r.status.trusted = true →
        (s.mvc.window = none → t.mvc.window = some { startStock := r.stock, count := 0 }) ∧
        (∀ w ∈ s.mvc.window, w.count < 359 → t.mvc.window = some { w with count := w.count + 1 }) ∧
        (∀ w ∈ s.mvc.window, 359 ≤ w.count → t.mvc.window = some { startStock := r.stock, count := 0 })) ∧
      (closed s → r.status.trusted = true → ∀ w ∈ s.mvc.window, 359 ≤ w.count →
        (t.isCurrent .stillLoss = true ↔ s.cfg.stillLossLimit + r.stock < w.startStock)) ∧
      (¬ closed s ∨ r.status.trusted = false ∨ s.mvc.window = none ∨ (∀ w ∈ s.mvc.window, w.count < 359) →
        t.isCurrent .stillLoss = s.isCurrent .stillLoss) ∧
      (t.isCurrent .stillLoss = true → s.isCurrent .stillLoss = false → s.acu.period.entries.length ≤ 3 →
        { kind := .stillLoss, minute := s.ini.minute } ∈ t.acu.period.entries)) ∧
  (∀ s : State, s.supply = true → s.working = true → s.srk.timer.isSome = true →
    let counts := s.station = .run ∧ s.holdsTake = false ∧ s.holdsGive = false
    let rest := if counts ∧ 5 ≤ s.mvc.restSub then min (s.mvc.restTime + 1) 65535 else s.mvc.restTime
    let sub := if counts then (if 5 ≤ s.mvc.restSub then 0 else s.mvc.restSub + 1) else s.mvc.restSub
    let limit := if temperatureTaken s ≤ s.cfg.frostLevel then s.cfg.stagnationHours * 60 / 2
      else s.cfg.stagnationHours * 60
    ∃ t, exec .reckoning s = .next t ∧ t.mvc.frostTemp = temperatureTaken s ∧
      (t.holdsTake = s.holdsTake ∧ t.holdsGive = s.holdsGive ∨ t.holdsTake = false ∧ t.holdsGive = false →
        t.mvc.restTime = rest ∧ t.mvc.restSub = sub ∧
        (t.mvc.turnoverDue = true ↔ s.mvc.turnoverDue = true ∨
          (limit ≤ rest ∧ 100 ≤ (reckonedRecord s).perMille))) ∧
      (s.holdsTake = false → s.holdsGive = false → t.holdsTake = true ∨ t.holdsGive = true →
        t.mvc.restTime = 0 ∧ t.mvc.restSub = 0 ∧ t.mvc.turnoverDue = false))

/-- A reckoning takes both meters with the new F: whole scm to the figures, the rest to the residue; the rate window, the
rate and the peak; ten seconds to the duty of the role set (R153 to R156), of the set as it stood before the record: the
model's choice (log 9); the last good stock (R160); and the meter-silent window, its test at the sixtieth reckoning, METER
SILENT with its flag and its entry (R158, R159). -/
def Obligations.ReckoningTakesTheMeters : Prop :=
  (∀ s : State, s.supply = true → s.working = true → s.srk.timer.isSome = true →
    let f := (reckonedRecord s).factor
    let inSum := s.ini.inletCount * s.cfg.pulseIn * f + s.acu.inletResidue
    let outSum := s.ini.outletCount * s.cfg.pulseOut * f + s.acu.outletResidue
    let slots := s.acu.slots ++ [s.acu.slot + outSum / 65536]
    ∃ t, exec .reckoning s = .next t ∧ t.ini.inletCount = 0 ∧ t.ini.outletCount = 0 ∧
      t.acu.inletResidue = inSum % 65536 ∧ t.acu.outletResidue = outSum % 65536 ∧
      t.acu.period.makeIn = min (s.acu.period.makeIn + inSum / 65536) 16777215 ∧
      t.acu.period.sendOut = min (s.acu.period.sendOut + outSum / 65536) 16777215 ∧
      t.acu.slots = slots.drop (slots.length - 36) ∧ t.acu.slot = 0 ∧ t.acu.rate = min (t.acu.slots.sum * 10) 65535 ∧
      t.acu.period.peak = max s.acu.period.peak t.acu.rate ∧
      t.acu.period.secRest = (if s.holdsTake = false ∧ s.holdsGive = false then min (s.acu.period.secRest + 10) 3932100
        else s.acu.period.secRest) ∧
      t.acu.period.secTake = (if s.holdsTake = true ∧ s.holdsGive = false then min (s.acu.period.secTake + 10) 3932100
        else s.acu.period.secTake) ∧
      t.acu.period.secGive = (if s.holdsTake = false ∧ s.holdsGive = true then min (s.acu.period.secGive + 10) 3932100
        else s.acu.period.secGive) ∧
      t.acu.period.secFloat = (if s.holdsTake = true ∧ s.holdsGive = true then min (s.acu.period.secFloat + 10) 3932100
        else s.acu.period.secFloat) ∧
      ((reckonedRecord s).status.trusted = true →
        t.acu.lastGood = some { stock := (reckonedRecord s).stock, status := (reckonedRecord s).status }) ∧
      ((reckonedRecord s).status.trusted = false → t.acu.lastGood = s.acu.lastGood)) ∧
  (∀ s : State, s.supply = true → s.working = true → s.srk.timer.isSome = true →
    let r := reckonedRecord s
    let closed := fun x : State => x.vdu.inlet.state = .isClosed
    let silent := fun w : SilentWindow => r.stock + 5 * s.cfg.pulseOut < w.startStock ∧ w.pulses = 0 ∧
      s.ini.outletCount = 0
    ∃ t, exec .reckoning s = .next t ∧
      (¬ closed t ∨ r.status.trusted = false → t.acu.silentWindow = none) ∧
      (closed t → r.status.trusted = true →
        (s.acu.silentWindow = none → t.acu.silentWindow = some { startStock := r.stock, count := 0, pulses := 0 }) ∧
        (∀ w ∈ s.acu.silentWindow, w.count < 59 → t.acu.silentWindow =
          some { w with count := w.count + 1, pulses := min (w.pulses + s.ini.outletCount) 65535 }) ∧
        (∀ w ∈ s.acu.silentWindow, 59 ≤ w.count →
          t.acu.silentWindow = some { startStock := r.stock, count := 0, pulses := 0 })) ∧
      (closed s → r.status.trusted = true → ∀ w ∈ s.acu.silentWindow, 59 ≤ w.count →
        (t.isCurrent .meterSilent = true ↔ silent w) ∧
        (t.acu.period.flags.meterSilent = true ↔ s.acu.period.flags.meterSilent = true ∨ silent w)) ∧
      (¬ closed s ∨ r.status.trusted = false ∨ s.acu.silentWindow = none ∨
          (∀ w ∈ s.acu.silentWindow, w.count < 59) →
        t.isCurrent .meterSilent = s.isCurrent .meterSilent ∧
        t.acu.period.flags.meterSilent = s.acu.period.flags.meterSilent) ∧
      (t.isCurrent .meterSilent = true → s.isCurrent .meterSilent = false → s.acu.period.entries.length ≤ 3 →
        { kind := .meterSilent, minute := s.ini.minute } ∈ t.acu.period.entries))

/-- R8: a reckoning counts the lifts k for which the accepted height lies strictly above S_{k−1}; with the strict counts at
the joints that the rule draws from it. -/
def Obligations.ReckoningCountsLiftsByHeight : Prop :=
  ∀ s : State, s.supply = true → s.working = true → s.srk.timer.isSome = true →
    ∃ t, exec .reckoning s = .next t ∧ t.srk.record.h = acceptedHeight s ∧
      t.srk.record.liftsByHeight = ((List.range s.cfg.lifts.length).filter
        (fun k => decide (totalTravel (s.cfg.lifts.take k) < t.srk.record.h))).length ∧
      (t.srk.record.h = 0 → t.srk.record.liftsByHeight = 0) ∧
      (∀ l, s.cfg.lifts = [l] → 0 < t.srk.record.h → t.srk.record.liftsByHeight = 1) ∧
      (∀ l m rest, s.cfg.lifts = l :: m :: rest → 1 ≤ l.travel → 1 ≤ m.travel →
        (t.srk.record.h = l.travel → t.srk.record.liftsByHeight = 1) ∧
        (t.srk.record.h = l.travel + 1 → t.srk.record.liftsByHeight = 2))

/-- R12: the per-mille is the floor of V_raw × 1000 / V_full_raw, and what the rule says follows for a plug that passed its
tests. -/
def Obligations.ReckoningWorksThePerMille : Prop :=
  ∀ s : State, s.supply = true → s.working = true → s.srk.timer.isSome = true → s.cfg.valid = true →
    s.srk.record.h ≤ totalTravel s.cfg.lifts →
    ∃ t, exec .reckoning s = .next t ∧ t.srk.record.vRaw ≤ fullVolume s.cfg.lifts ∧
      t.srk.record.perMille = t.srk.record.vRaw * 1000 / fullVolume s.cfg.lifts ∧ t.srk.record.perMille ≤ 1000 ∧
      (t.srk.record.perMille = 1000 → t.srk.record.h = totalTravel s.cfg.lifts) ∧
      (t.srk.record.vRaw * 1000 < fullVolume s.cfg.lifts → t.srk.record.perMille = 0) ∧
      (t.srk.record.h = 0 → t.srk.record.perMille = 0)

/-- A reckoning's V_raw is the sum of each lift's area times the part of its travel below the height (R11); the stock and F
are one division each, rounded half up, of the figures of R17 and R18; and n_p is the smallest count whose band holds Pg, 0
when none does, or n_h for a substituted Pg (R19); that this holds of a WATERLESS holder with no lift floating too is the
model's choice (log 42). The stock and F lie in the ranges of R17 and R18, whenever the input records keep their law and the
plug passed its tests. -/
def Obligations.VolumeStockAndFactorByTheirFormulas : Prop :=
  (∀ s : State, s.supply = true → s.working = true → s.srk.timer.isSome = true →
    let lifts := s.cfg.lifts
    let part := fun i : Nat => ((lifts[i]?.map Lift.area).getD 0) *
      min (acceptedHeight s - ((lifts.take i).map Lift.travel).sum) ((lifts[i]?.map Lift.travel).getD 0)
    let halfUp := fun a b : Nat => a / b + (if b ≤ 2 * (a % b) then 1 else 0)
    let k := (temperatureTaken s + 2732).toNat
    ∃ t, exec .reckoning s = .next t ∧
      let r := t.srk.record
      let peff := barometerTaken s + r.gaugeUsed - vapourPressure s.cfg.cls (temperatureTaken s)
      let bands := lifts.map (fun l => decide (l.bandLow ≤ r.gaugeUsed ∧ r.gaugeUsed ≤ l.bandHigh))
      r.vRaw = ((List.range lifts.length).map part).sum ∧
      (1 ≤ k → r.stock = halfUp (r.vRaw * peff * 2882) (10132 * k * 10000) ∧
        r.factor = halfUp (peff * 2882 * 65536) (10132 * k)) ∧
      (s.ini.gauge.value = none → r.liftsByPressure = r.liftsByHeight) ∧
      (s.ini.gauge.value.isSome = true →
        (r.liftsByPressure = 0 → true ∉ bands) ∧
        (1 ≤ r.liftsByPressure → bands[r.liftsByPressure - 1]? = some true ∧
          true ∉ bands.take (r.liftsByPressure - 1)))) ∧
  (∀ s : State, s.supply = true → s.working = true → s.srk.timer.isSome = true → inputLaw s → s.cfg.valid = true →
    ∃ t, exec .reckoning s = .next t ∧ t.srk.record.stock ≤ 499999 ∧ 47653 ≤ t.srk.record.factor ∧
      t.srk.record.factor ≤ 83931 ∧ (t.srk.record.vRaw = 0 → t.srk.record.stock = 0) ∧
      t.srk.record.gaugeUsed ≤ 600)

/-- R13 to R16: the vapour pressure; and the effective pressure and the absolute temperature of a reckoning, with their
ranges, whenever the input records keep their law and the plug passed its tests. -/
def Obligations.PressureAndTemperatureFollowTheTable : Prop :=
  ((∀ t : Int, vapourPressure .waterless t = 0) ∧
    (∀ t : Int, t < 0 → vapourPressure .waterSealed t = 61) ∧
    (∀ t : Int, 400 ≤ t → vapourPressure .waterSealed t = 738) ∧
    (∀ t : Nat, t < 400 →
      let i := t / 50
      let q := ([61, 87, 123, 170, 234, 317, 424, 562, 738].getD (i + 1) 0 -
        [61, 87, 123, 170, 234, 317, 424, 562, 738].getD i 0) * (t - 50 * i)
      vapourPressure .waterSealed t = [61, 87, 123, 170, 234, 317, 424, 562, 738].getD i 0 + (2 * q + 50) / 100)) ∧
  (∀ s : State, inputLaw s → s.cfg.valid = true →
    let pb := barometerTaken s
    let pg := gaugeTaken s (liftsByHeight (acceptedHeight s) 0 s.cfg.lifts)
    let e := vapourPressure s.cfg.cls (temperatureTaken s)
    ((effectivePressure pb pg e : Nat) : Int) = (pb : Int) + pg - e ∧
    8262 ≤ effectivePressure pb pg e ∧ effectivePressure pb pg e ≤ 11400 ∧
    -200 ≤ temperatureTaken s ∧ temperatureTaken s ≤ 500 ∧
    ((absoluteTemperature (temperatureTaken s) : Nat) : Int) = temperatureTaken s + 2732 ∧
    2532 ≤ absoluteTemperature (temperatureTaken s) ∧ absoluteTemperature (temperatureTaken s) ≤ 3232 ∧
    (reckonedRecord s).gaugeUsed = pg ∧
    (reckonedRecord s).factor = correctionFactor (effectivePressure pb pg e) (absoluteTemperature (temperatureTaken s)) ∧
    (reckonedRecord s).stock = standardStock (reckonedRecord s).vRaw (effectivePressure pb pg e)
      (absoluteTemperature (temperatureTaken s)))

/-- R9, R10: what a reckoning substitutes for an INVALID barometer, gas temperature or gauge pressure, and that it enters
it; a VALID or HELD input is taken and not entered. -/
def Obligations.ReckoningSubstitutesInvalidInputs : Prop :=
  ∀ s : State, s.supply = true → s.working = true → s.srk.timer.isSome = true →
    ∃ t, exec .reckoning s = .next t ∧
      (s.ini.barometer.value = none → barometerTaken s = 10132 ∧ t.srk.record.substituted.barometer = true) ∧
      (∀ v, s.ini.barometer.value = some v → barometerTaken s = v.toNat ∧
        t.srk.record.substituted.barometer = false) ∧
      (s.ini.gasTemp.value = none → temperatureTaken s = 150 ∧ t.srk.record.substituted.gasTemp = true) ∧
      (∀ v, s.ini.gasTemp.value = some v → temperatureTaken s = v ∧ t.srk.record.substituted.gasTemp = false) ∧
      (∀ v, s.ini.gauge.value = some v → t.srk.record.gaugeUsed = v.toNat ∧
        t.srk.record.substituted.gauge = false) ∧
      (s.ini.gauge.value = none → t.srk.record.substituted.gauge = true ∧
        (∀ l, s.cfg.lifts[t.srk.record.liftsByHeight - 1]? = some l →
          t.srk.record.gaugeUsed = (l.bandLow + l.bandHigh) / 2)) ∧
      t.srk.record.factor = correctionFactor (effectivePressure (barometerTaken s) t.srk.record.gaugeUsed
        (vapourPressure s.cfg.cls (temperatureTaken s))) (absoluteTemperature (temperatureTaken s))

/-! ## Instruments and clock -/

/-- R28, R29 and the first sample of R27: what a sample does to its record, and that no other record moves; a sample that no
reader takes as an event changes nothing else but the line. A crown height sample in LISTEN and RUN re-grades the stock, its
figures unchanged, with the STOCK INVALID kind and the entries of a new grade; a VALID district pressure below the lowest of
the period is the new lowest. -/
def Obligations.SampleMovesTheStatus : Prop :=
  ∀ (i : InputId) (x : Int) (s : State), s.supply = true →
    ∃ t, exec (.inputSample i x) s = .next t ∧
      (t.ini.input i).reading = x ∧ (t.ini.input i).sampled = true ∧
      (i.inRange x = true → (t.ini.input i).status = .valid ∧ (t.ini.input i).held = some x ∧
        (t.ini.input i).hold = none) ∧
      (i.inRange x = false → (t.ini.input i).held = (s.ini.input i).held) ∧
      (i.inRange x = false → (s.ini.input i).status = .valid ∨ (s.ini.input i).sampled = false →
        (t.ini.input i).status = .held ∧ (t.ini.input i).hold = some 60000) ∧
      (i.inRange x = false → (s.ini.input i).status ≠ .valid → (s.ini.input i).sampled = true →
        (t.ini.input i).status = (s.ini.input i).status ∧ (t.ini.input i).hold = (s.ini.input i).hold) ∧
      (∀ j, j ≠ i → t.ini.input j = s.ini.input j) ∧ t.ini.minute = s.ini.minute ∧ t.srk.timer = s.srk.timer ∧
      t.station = s.station ∧ t.rst = s.rst ∧ t.acu.list = s.acu.list ∧ (i ≠ .crown → t.srk = s.srk) ∧
      (i = .crown → s.working = true → s.srk.graded = true →
        t.srk = { s.srk with record := { s.srk.record with
          status := gradeOf t.ini.crown.statusTaken (s.isCurrent .liftMismatch) s.srk.record.substituted } } ∧
        (t.srk.record.status = s.srk.record.status → t.isCurrent .stockInvalid = s.isCurrent .stockInvalid) ∧
        (t.srk.record.status ≠ s.srk.record.status →
          (t.isCurrent .stockInvalid = true ↔ t.srk.record.status = .invalid) ∧
          (t.srk.record.status = .invalid → s.acu.period.entries.length < 8 →
            { kind := .stockInvalid, minute := s.ini.minute } ∈ t.acu.period.entries) ∧
          (t.srk.record.status = .held → s.acu.period.entries.length < 8 →
            { kind := .stockHeld, minute := s.ini.minute } ∈ t.acu.period.entries))) ∧
      (i = .district → s.working = true → i.inRange x = true →
        t.pgv.lowest = some (match s.pgv.lowest with | some y => min x.toNat y | none => x.toNat)) ∧
      (i = .gauge ∨ i = .gasTemp ∨ i = .barometer → t = { s with ini := t.ini, yli := t.yli })

/-- The hold timer of a HELD input expires: INVALID, its held value kept; a crown height's INVALID grades the stock INVALID
at once in LISTEN and RUN, its figures unchanged (R21, R30), with the kind and the entry (R23, R24), both windows ended
untested (R66, R158) and TAKE left (R124). -/
def Obligations.HoldExpiryMakesInvalid : Prop :=
  ∀ (i : InputId) (s : State), s.supply = true → (s.ini.input i).status = .held →
    (s.ini.input i).hold.isSome = true →
    ∃ t, exec (.holdTimerExpiry i) s = .next t ∧ (t.ini.input i).status = .invalid ∧
      (t.ini.input i).held = (s.ini.input i).held ∧ (t.ini.input i).hold = none ∧
      (t.ini.input i).reading = (s.ini.input i).reading ∧ (∀ j, j ≠ i → t.ini.input j = s.ini.input j) ∧
      (i = .crown → s.working = true → s.srk.graded = true →
        t.srk = { s.srk with record := { s.srk.record with status := .invalid } } ∧ t.holdsTake = false ∧
        (s.srk.record.status ≠ .invalid → t.isCurrent .stockInvalid = true ∧
          t.mvc.window = none ∧ t.acu.silentWindow = none ∧
          (alarmLaw s → t.isLatched .stockInvalid = true) ∧
          (s.acu.period.entries.length < 8 →
            { kind := .stockInvalid, minute := s.ini.minute } ∈ t.acu.period.entries))) ∧
      (i ≠ .crown → t.srk = s.srk) ∧ t.rst = s.rst ∧ t.station = s.station ∧ t.acu.list = s.acu.list

/-- A meter pulse is one more in its counter, which stops at 65535, once the plug is in use, and changes nothing else
(R32). -/
def Obligations.MeterPulseCounts : Prop :=
  ∀ s : State, s.supply = true →
    (∃ t, exec (.meterPulse .inlet) s = .next t ∧ t = { s with ini := { s.ini with
      inletCount := if s.plug.isSome then min (s.ini.inletCount + 1) 65535 else s.ini.inletCount } }) ∧
    (∃ t, exec (.meterPulse .outlet) s = .next t ∧ t = { s with ini := { s.ini with
      outletCount := if s.plug.isSome then min (s.ini.outletCount + 1) 65535 else s.ini.outletCount } })

/-- R35: a minute impulse, counted while the absorb window is closed and absorbed while it is open. -/
def Obligations.MinuteImpulseAdvancesOrIsAbsorbed : Prop :=
  ∀ s : State, s.supply = true → s.ini.impulse.isSome = true →
    ∃ t, exec .minuteImpulse s = .next t ∧
      (s.ini.absorb = none → t.ini.minute = (s.ini.minute + 1) % 1440) ∧
      (s.ini.absorb.isSome = true → t.ini.minute = s.ini.minute ∧ t.acu = s.acu) ∧
      t.ini.absorb = none ∧ t.ini.selfRun = 0 ∧ t.isCurrent .clockLost = false ∧ t.ini.impulse = some 70000 ∧
      t.ini.synced = s.ini.synced ∧ t.ini.key = s.ini.key ∧ t.station = s.station ∧ t.srk = s.srk ∧
      t.mvc = s.mvc ∧ t.vdu = s.vdu ∧ t.holdsTake = s.holdsTake ∧ t.holdsGive = s.holdsGive

/-- The station counts a minute itself, opens the absorb window, and at the third in a row is CLOCK LOST; the window closes
with the run unchanged (R36). -/
def Obligations.ImpulseTimerExpirySelfCounts : Prop :=
  (∀ s : State, s.supply = true → s.ini.impulse.isSome = true →
    ∃ t, exec .impulseTimerExpiry s = .next t ∧ t.ini.minute = (s.ini.minute + 1) % 1440 ∧
      t.ini.selfRun = min (s.ini.selfRun + 1) 3 ∧ t.ini.absorb = some 50000 ∧ t.ini.impulse = some 70000 ∧
      (t.ini.selfRun = 3 → t.isCurrent .clockLost = true) ∧
      (t.ini.selfRun ≠ 3 → t.isCurrent .clockLost = s.isCurrent .clockLost) ∧ t.ini.synced = s.ini.synced ∧
      t.station = s.station ∧ t.srk = s.srk ∧ t.mvc = s.mvc ∧ t.vdu = s.vdu) ∧
  (∀ s : State, s.supply = true →
    ∃ t, exec .absorbWindowExpiry s = .next t ∧ t = { s with ini := { s.ini with absorb := none } })

/-- A synchronising impulse: minute 360, CLOCK SYNCED, the run ended, the absorb window open; a change that is none or a
backward jump closes no period, and neither does one that passes no boundary (R37, R161). -/
def Obligations.SynchronisingImpulseSetsSixOClock : Prop :=
  ∀ s : State, s.supply = true → s.ini.impulse.isSome = true →
    ∃ t, exec .synchronisingImpulse s = .next t ∧ t.ini.minute = 360 ∧ t.ini.synced = true ∧ t.ini.selfRun = 0 ∧
      t.ini.absorb = some 50000 ∧ t.ini.impulse = some 70000 ∧ t.isCurrent .clockLost = false ∧
      (minutesTo 360 s.ini.minute = 0 ∨ 720 < minutesTo 360 s.ini.minute →
        t.acu.list = s.acu.list ∧ t.acu.period = s.acu.period) ∧
      ((∀ b ∈ s.cfg.boundaries, b ∉ minutesPassed s.ini.minute (minutesTo 360 s.ini.minute)) →
        t.acu.list = s.acu.list ∧ t.acu.period = s.acu.period) ∧
      t.station = s.station ∧ t.srk = s.srk ∧ t.mvc = s.mvc ∧ t.vdu = s.vdu

/-- A minute step onto a boundary, by an impulse or by the station's own count, and a forward jump that passes one, close
the open period once with cause OWN BOUNDARY; the served boundary closes nothing and is absent again (R37, R161, R163). A
peer's period number ahead of the own closes it with cause PEER MARK under the peer's number, and serves the nearest
boundary within 30 minutes; one not ahead does nothing, and an unset number adopts the peer's (R162, R163, R171). What a
close leaves: closedBy (R153, R164 to R168). The model's choices: the CLOCK LOST entry of a minute that closes a period
falls into the new one (log 28), and a write that the close finds in progress is due again after it (log 12). -/
def Obligations.BoundariesAndPeerMarksCloseThePeriod : Prop :=
  (∀ (s : State) (n : Nat), s.supply = true → s.working = true → s.ini.impulse.isSome = true → s.ini.absorb = none →
    s.acu.period.number = some n → (s.ini.minute + 1) % 1440 ∈ s.cfg.boundaries →
    ∃ t, exec .minuteImpulse s = .next t ∧ t.acu.served = none ∧
      (s.acu.served ≠ some ((s.ini.minute + 1) % 1440) →
        closedBy .ownBoundary n (nextPeriod n) ((s.ini.minute + 1) % 1440) s t ∧ t.acu.period.entries = []) ∧
      (s.acu.served = some ((s.ini.minute + 1) % 1440) →
        booksStand s t ∧ t.ini.inletCount = s.ini.inletCount ∧ t.ini.outletCount = s.ini.outletCount)) ∧
  (∀ (s : State) (n : Nat), s.supply = true → s.working = true → s.ini.impulse.isSome = true →
    s.acu.period.number = some n → (s.ini.minute + 1) % 1440 ∈ s.cfg.boundaries →
    ∃ t, exec .impulseTimerExpiry s = .next t ∧ t.acu.served = none ∧
      (s.acu.served ≠ some ((s.ini.minute + 1) % 1440) →
        closedBy .ownBoundary n (nextPeriod n) ((s.ini.minute + 1) % 1440) s t ∧
        t.acu.period.entries = (if 2 ≤ s.ini.selfRun ∧ s.isCurrent .clockLost = false then
          [{ kind := .clockLost, minute := (s.ini.minute + 1) % 1440 }] else [])) ∧
      (s.acu.served = some ((s.ini.minute + 1) % 1440) → t.acu.list = s.acu.list ∧
        t.acu.period.number = s.acu.period.number)) ∧
  (∀ (s : State) (n : Nat), s.supply = true → s.working = true → s.ini.impulse.isSome = true →
    s.acu.period.number = some n →
    let d := (360 + 1440 - s.ini.minute % 1440) % 1440
    let passed := fun b => ∃ i, i < d ∧ b = (s.ini.minute + 1 + i) % 1440
    ∃ t, exec .synchronisingImpulse s = .next t ∧
      (1 ≤ d → d ≤ 720 → (∃ b ∈ s.cfg.boundaries, passed b ∧ s.acu.served ≠ some b) →
        closedBy .ownBoundary n (nextPeriod n) 360 s t ∧ t.acu.period.entries = [] ∧ t.acu.served = none) ∧
      (1 ≤ d → d ≤ 720 → (∀ b ∈ s.cfg.boundaries, passed b → s.acu.served = some b) →
        booksStand s t ∧ (∀ b ∈ s.acu.served, (passed b → t.acu.served = none) ∧ (¬ passed b → t.acu.served = some b))) ∧
      (d = 0 → booksStand s t ∧ t.acu.served = s.acu.served) ∧
      (720 < d → booksStand s t ∧ (∀ b ∈ s.acu.served, t.acu.served =
        if 30 < (b % 1440 + 1440 - 360) % 1440 then none else some b))) ∧
  (∀ (chars : List LineChar) (r : StartReadings) (s : State) (data body : List Byte) (bad : Bool) (p d : Nat),
    s.supply = true → s.working = true → s.yli.tx ≠ .sending → gather chars = (data, bad, some .close) →
    judgeFrame false bad data = .valid p d .report body → 1 ≤ p → p ≤ 16 → p ≠ s.number → d = 0 ∨ d = s.number →
    let q := fieldAt body 0 2
    let away := fun b : Nat => (b % 1440 + 1440 - s.ini.minute % 1440) % 1440
    let ahead := fun n : Nat => (q % 65536 + 65536 - n % 65536) % 65536
    ∃ t, exec (.frameReceived chars r) s = .next t ∧
      (∀ n ∈ s.acu.period.number, q ≠ 0 → 1 ≤ ahead n → ahead n ≤ 32767 →
        closedBy .peerMark n q s.ini.minute s t ∧ t.acu.period.entries = [] ∧
        (∀ b ∈ t.acu.served, b ∈ s.cfg.boundaries ∧ away b ≤ 30 ∧ ∀ c ∈ s.cfg.boundaries, away b ≤ away c) ∧
        (t.acu.served = none → ∀ b ∈ s.cfg.boundaries, 30 < away b)) ∧
      (∀ n ∈ s.acu.period.number, q = 0 ∨ ahead n = 0 ∨ 32768 ≤ ahead n →
        booksStand s t ∧ t.acu.served = s.acu.served) ∧
      (s.acu.period.number = none → t.acu.list = s.acu.list ∧
        t.acu.period = { s.acu.period with number := if q = 0 then none else some q }))

/-! ## Key, button and valves -/

/-- A change of the taken key position: the position and the hand order's standing, the KEY CHANGE entry; at HAND REST no
role but a LIMIT give, at OUT OF SERVICE no role, both commands NONE and the mode RELEASED (R39, R55, R129, R132, R133,
R138); the abilities by R110's and R111's lists. -/
def Obligations.KeyChangeTakesTheDuty : Prop :=
  ∀ (p : KeyPosition) (s : State), s.supply = true → s.ini.keyTaken = true → p ≠ s.ini.key →
    ∃ t, exec (.keyPositionTaken p) s = .next t ∧ t.ini = { s.ini with key := p, keyDefaulted := false } ∧
      (s.working = true → entered s t { kind := .keyChange, minute := s.ini.minute }) ∧
      t.ysu.order = s.ysu.order ∧ (p ≠ .auto → t.ysu.effective = false) ∧
      (p = .auto → s.station = .run → s.ysu.order ≠ .auto → t.ysu.effective = true) ∧
      abilityLaw t ∧ (p ≠ .auto → t.holdsTake = false ∧ t.ysu.take.able = false ∧ t.ysu.give.able = false ∧
        (t.ysu.give.held = none ∨ t.ysu.give.held = some .limit)) ∧
      (p = .outOfService → t.holdsGive = false ∧ t.vdu.inlet.command = .none ∧ t.vdu.outlet.command = .none ∧
        t.pgv.mode = .released) ∧
      t.srk = s.srk ∧ t.rst = s.rst ∧ t.oau = s.oau ∧ t.ysu.table = s.ysu.table ∧ t.station = s.station ∧
      accountsKept s t

/-- R178: ACCEPT, by the order and by a press of the button, removes from the latched set every kind that is not current,
with no event entry and no report trigger; a release of the button stops its 10 s (R40). -/
def Obligations.AcceptKeepsWhatIsCurrent : Prop :=
  (∀ (a : Address) (s : State), s.supply = true → s.working = true →
    ∃ t, exec (.accept a) s = .next t ∧ t.oau.current = s.oau.current ∧
      (∀ k, t.isLatched k = (s.isLatched k && s.isCurrent k)) ∧ t.yli.reportTimer = s.yli.reportTimer ∧
      (s.yli.reportDue = false → t.yli.queue = s.yli.queue ∨ t.yli.queue = s.yli.queue.tail) ∧
      t = { s with oau := t.oau, yli := t.yli }) ∧
  (∀ s : State, s.supply = true → s.ini.button = false →
    ∃ t, exec .acceptButtonPress s = .next t ∧ t.oau.current = s.oau.current ∧
      (∀ k, t.isLatched k = (s.isLatched k && s.isCurrent k)) ∧ t.ini.button = true ∧
      t.ini.buttonHold = some 10000 ∧
      t = { s with oau := t.oau, ini := { s.ini with button := true, buttonHold := some 10000 } }) ∧
  (∀ s : State, ∃ t, exec .acceptButtonRelease s = .next t ∧
    t = { s with ini := { s.ini with button := false, buttonHold := none } })

/-- R46: both end switches of a valve made at once put its drive in FAULT from any other state, whatever its command, with
the kind current; and a drive in FAULT stays there while both are made. The role it serves is not held (R124). -/
def Obligations.BothSwitchesMadeIsAFault : Prop :=
  ∀ (v : Side) (e : SwitchEnd) (s : State), s.supply = true → (s.ini.switches v).made e = false →
    ((s.ini.switches v).change e true).openMade = true → ((s.ini.switches v).change e true).closedMade = true →
    ∃ t, exec (.endSwitchChange v e true) s = .next t ∧ (t.vdu.drive v).state = .fault ∧
      ((s.vdu.drive v).state ≠ .fault → (t.vdu.drive v).output = .notDriven ∧ (t.vdu.drive v).travel = none ∧
        (t.vdu.drive v).retry = 0 ∧ t.isCurrent (valveFaultKind v) = true ∧
        (alarmLaw s → t.isLatched (valveFaultKind v) = true)) ∧
      (v = .inlet → t.holdsTake = false) ∧ (v = .outlet → t.holdsGive = false) ∧
      t.ini = s.ini.setSwitches v ((s.ini.switches v).change e true) ∧ t.srk = s.srk ∧ t.rst = s.rst ∧
      t.station = s.station

/-- R43: the table of commands by state, on a drive record. And at every event that leaves the station in LISTEN or RUN the
drives do it: each record is moved by the event's own work alone (a change of its end switches, its travel timer's expiry),
and then takes the command derived for it, as the table says, where that differs from the one last given, and stands where it
does not (R56). That one event derives one command for a drive is the model's choice (log 37): at a key turned to or from OUT
OF SERVICE R56 leaves a CLOSE before the NONE, or before a role's OPEN, open. -/
def Obligations.DriveTakesACommand : Prop :=
  (∀ (t1 : Nat) (d : Drive) (c : DriveCommand),
    let q := Drive.take t1 c d
    q.command = c ∧
    (d.state = .fault → q = { d with command := c }) ∧
    (d.state = .isOpen → c = .toOpen ∨ c = .none → q.state = .isOpen ∧ q.output = .notDriven) ∧
    (d.state = .isOpen → c = .toClose →
      q = { state := .closing, command := c, output := .towardClosed, travel := some t1, retry := 0 }) ∧
    (d.state = .isClosed → c = .toOpen →
      q = { state := .opening, command := c, output := .towardOpen, travel := some t1, retry := 0 }) ∧
    (d.state = .isClosed → c = .toClose ∨ c = .none → q.state = .isClosed ∧ q.output = .notDriven) ∧
    (d.state = .opening → c = .toOpen → d.inOperation = true → q = { d with command := c }) ∧
    (d.state = .opening → c = .toOpen → d.inOperation = false → d.command = .none →
      q = { state := .opening, command := c, output := .towardOpen, travel := some t1, retry := 0 }) ∧
    (d.state = .opening → c = .toClose →
      q = { state := .closing, command := c, output := .towardClosed, travel := some t1, retry := 0 }) ∧
    (d.state = .closing → c = .toOpen →
      q = { state := .opening, command := c, output := .towardOpen, travel := some t1, retry := 0 }) ∧
    (d.state = .closing → c = .toClose → d.inOperation = true → q = { d with command := c }) ∧
    (d.state = .closing → c = .toClose → d.inOperation = false → d.command = .none →
      q = { state := .closing, command := c, output := .towardClosed, travel := some t1, retry := 0 }) ∧
    (d.state = .opening ∨ d.state = .closing → c = .none →
      q = { state := d.state, command := c, output := .notDriven, travel := none, retry := 0 })) ∧
  (∀ (c : Instr) (s : State) (v : Side), s.supply = true →
    ∃ t, exec c s = .next t ∧ (t.working = true → drivenFrom s t v (ownRecord c s v)))

/-- A change of an end switch is one step of the drive record's own, and the rest of the station follows it; a command it
leads to is then taken on that record (R56). The record at its switches: an operation completes at its target's switch (R44), a held valve that drifts is re-driven and a released
drive follows its switches, to OPEN or CLOSED at the switch it makes (R47), and FAULT is left at exactly one switch (R48).
The outlet leaving OPEN shuts the governor (R142), its CLOSED ends the landing leg (R59), and a drive leaving CLOSED ends the
windows (R66, R158). -/
def Obligations.DriveFollowsItsSwitches : Prop :=
  (∀ (v : Side) (e : SwitchEnd) (m : Bool) (s : State), s.supply = true → (s.ini.switches v).made e ≠ m →
    ∃ t, exec (.endSwitchChange v e m) s = .next t ∧
      t.ini = s.ini.setSwitches v ((s.ini.switches v).change e m) ∧
      drivenFrom s t v (Drive.switched s.travelMs ((s.ini.switches v).change e m) (s.vdu.drive v)) ∧
      (∀ w, w ≠ v → drivenFrom s t w (s.vdu.drive w)) ∧
      (s.station ≠ .run → (s.vdu.drive v).command = .none → (t.vdu.drive v).command = .none) ∧
      (v = .outlet → s.vdu.outlet.state = .isOpen → t.vdu.outlet.state ≠ .isOpen →
        t.pgv.opening = 0 ∧ (t.vdu.governor = .released ∨ t.vdu.governor = .driven 0)) ∧
      (v = .outlet → s.vdu.outlet.state ≠ .isClosed → t.vdu.outlet.state = .isClosed →
        t.mvc.landingLeg = false ∧ (t.isCurrent .limitGuard = true ↔ t.mvc.topLeg = true)) ∧
      ((s.vdu.drive v).state = .isClosed → (t.vdu.drive v).state ≠ .isClosed →
        t.mvc.window = none ∧ (v = .inlet → t.acu.silentWindow = none)) ∧
      t = { s with ini := t.ini, vdu := t.vdu, mvc := t.mvc, yli := t.yli, ysu := t.ysu, pgv := t.pgv, acu := t.acu,
                   oau := t.oau } ∧ accountsKept s t) ∧
  ∀ (t1 : Nat) (w : Switches) (d : Drive),
    let q := Drive.switched t1 w d
    q.command = d.command ∧
    (d.inOperation = true → d.state = .opening → w.openMade = true → w.closedMade = false →
      q = { d with state := .isOpen, output := .notDriven, travel := none, retry := 0 }) ∧
    (d.inOperation = true → d.state = .closing → w.closedMade = true → w.openMade = false →
      q = { d with state := .isClosed, output := .notDriven, travel := none, retry := 0 }) ∧
    (d.inOperation = true → d.state = .opening → w.openMade = false → q = d) ∧
    (d.inOperation = true → d.state = .closing → w.closedMade = false → q = d) ∧
    (d.state = .isOpen → w.openMade = false → d.command = .toOpen →
      q = { d with state := .opening, output := .towardOpen, travel := some t1, retry := 0 }) ∧
    (d.state = .isClosed → w.closedMade = false → d.command = .toClose →
      q = { d with state := .closing, output := .towardClosed, travel := some t1, retry := 0 }) ∧
    (d.state = .isOpen → w.openMade = false → d.command = .none →
      q = { d with state := .closing, output := .notDriven, travel := none, retry := 0 }) ∧
    (d.state = .isClosed → w.closedMade = false → d.command = .none →
      q = { d with state := .opening, output := .notDriven, travel := none, retry := 0 }) ∧
    (d.state = .opening ∨ d.state = .closing → d.output = .notDriven → d.command = .none →
      (w.openMade = true → w.closedMade = false →
        q = { d with state := .isOpen, output := .notDriven, travel := none, retry := 0 }) ∧
      (w.openMade = false → w.closedMade = true →
        q = { d with state := .isClosed, output := .notDriven, travel := none, retry := 0 }) ∧
      (w.openMade = false → w.closedMade = false → q = d)) ∧
    (d.state = .fault → w.openMade = false → w.closedMade = false → q = d) ∧
    (d.state = .fault → w.openMade = true → w.closedMade = false → d.command ≠ .toClose →
      q = { d with state := .isOpen, output := .notDriven, travel := none, retry := 0 }) ∧
    (d.state = .fault → w.openMade = false → w.closedMade = true → d.command ≠ .toOpen →
      q = { d with state := .isClosed, output := .notDriven, travel := none, retry := 0 }) ∧
    (d.state = .fault → w.openMade = true → w.closedMade = false → d.command = .toClose →
      q = { state := .closing, command := .toClose, output := .towardClosed, travel := some t1, retry := 0 }) ∧
    (d.state = .fault → w.openMade = false → w.closedMade = true → d.command = .toOpen →
      q = { state := .opening, command := .toOpen, output := .towardOpen, travel := some t1, retry := 0 })

/-- The travel timer expires in an operation: at retry 0 or 1 the drive is driven again, at 2 it is in FAULT with the kind
current, the VALVE FAULT entry and the role it serves left (R45, R49, R124). -/
def Obligations.TravelExpiryRetriesThenFails : Prop :=
  ∀ (v : Side) (s : State), s.supply = true → (s.vdu.drive v).inOperation = true →
    ∃ t, exec (.travelTimerExpiry v) s = .next t ∧
      ((s.vdu.drive v).retry < 2 → (t.vdu.drive v).state ≠ .fault ∧ t.oau = s.oau) ∧
      (2 ≤ (s.vdu.drive v).retry → (t.vdu.drive v).state = .fault ∧ (t.vdu.drive v).output = .notDriven ∧
        (t.vdu.drive v).travel = none ∧ (t.vdu.drive v).retry = 0 ∧ t.isCurrent (valveFaultKind v) = true ∧
        (v = .inlet → t.holdsTake = false) ∧ (v = .outlet → t.holdsGive = false) ∧
        (s.working = true → entered s t { kind := .valveFault, minute := s.ini.minute })) ∧
      ((s.vdu.drive v).retry < 2 → drivenFrom s t v
        { s.vdu.drive v with retry := (s.vdu.drive v).retry + 1, travel := some s.travelMs }) ∧
      dutyFrame s t ∧ accountsKept s t

/-! ## The yard line -/

/-- Carrier makes the line BUSY; four quiet character times make it IDLE, end a frame in hand as BAD FRAME, and start a
waiting transmitter, whose own sending is carrier again (R74, R76, R82). While the station sends, no idle comes of it: the
model's reading (log 17). -/
def Obligations.CarrierAndIdleMoveTheLine : Prop :=
  (∀ s : State, s.supply = true →
    ∃ t, exec .carrierOnLine s = .next t ∧ t = { s with yli := { s.yli with line := .busy } }) ∧
  (∀ (b : Bool) (s : State), s.supply = true → s.yli.tx ≠ .sending →
    ∃ t, exec (.lineIdle b) s = .next t ∧ lineFrame s t ∧ t.yli.inFrame = false ∧
      (t.yli.tx = .sending → t.yli.line = .busy) ∧ (t.yli.tx ≠ .sending → t.yli.line = .idle) ∧
      (s.yli.tx = .waiting → s.yli.queue ≠ [] → t.yli.tx = .sending ∧ t.yli.blocked = none) ∧
      t.yli.counters = { s.yli.counters with badFrame :=
        if (s.yli.inFrame = true ∨ b = true) ∧ s.onLine = true then min (s.yli.counters.badFrame + 1) 65535
        else s.yli.counters.badFrame } ∧
      t.yli.quiet = s.yli.quiet ∧ t.yli.attempt = s.yli.attempt) ∧
  (∀ (b : Bool) (s : State), s.supply = true → s.yli.tx = .sending → exec (.lineIdle b) s = .next s)

/-- A frame that completes: the message is gone, the attempt count is 0, TX BLOCKED ceases, and the transmitter waits for
the next message or stands by (R83). -/
def Obligations.CompletionFreesTheTransmitter : Prop :=
  ∀ (s : State) (f : InFlight), s.supply = true → s.yli.tx = .sending → s.yli.inFlight = some f →
    s.yli.line = .busy → s.yli.reportDue = false →
    ∃ t, exec .frameCompletion s = .next t ∧ t.yli.inFlight = none ∧ t.yli.attempt = 0 ∧
      t.isCurrent .txBlocked = false ∧ t.oau.latched = s.oau.latched ∧ t.yli.queue = s.yli.queue ∧
      t.yli.counters = s.yli.counters ∧
      (s.yli.queue ≠ [] → s.yli.quiet = false → t.yli.tx = .waiting ∧ t.yli.blocked = some 5000) ∧
      (s.yli.queue = [] ∨ s.yli.quiet = true → t.yli.tx = .standby ∧ t.yli.blocked = none) ∧
      t = { s with yli := t.yli, oau := t.oau }

/-- A collision: COLLISIONS and the attempt count, then the back-off of R84 with the message or a newer REPORT at the head,
or at the eighth attempt the drop of R85; a message that LINE RESET condemned is gone with neither (R91). Under QUIET too the
transmitter goes through BACK-OFF, and stands by when it ends: the model's reading of R84 and R87 (log 16). -/
def Obligations.CollisionBacksOffOrDrops : Prop :=
  ∀ (s : State) (f : InFlight), s.supply = true → s.yli.tx = .sending → s.yli.inFlight = some f →
    s.yli.line = .busy → s.yli.reportDue = false →
    ∃ t, exec .collision s = .next t ∧ lineFrame s t ∧ t.yli.inFlight = none ∧
      t.yli.counters.collisions = min (s.yli.counters.collisions + 1) 65535 ∧
      (f.discard = false → s.yli.attempt + 1 < 8 →
        t.yli.attempt = s.yli.attempt + 1 ∧ t.yli.tx = .backOff ∧
        t.yli.backOff = some ((1 + (s.number + (s.yli.attempt + 1) * 5) % 16) * 60) ∧
        t.yli.counters.dropped = s.yli.counters.dropped ∧
        (f.msg.isReport = false ∨ s.yli.reportQueued = false → t.yli.queue = f.msg :: s.yli.queue) ∧
        (f.msg.isReport = true → s.yli.reportQueued = true → t.yli.queue =
          s.yli.queue.filter Message.isReport ++ s.yli.queue.filter (fun m => !m.isReport))) ∧
      (f.discard = false → 8 ≤ s.yli.attempt + 1 →
        t.yli.attempt = 0 ∧ t.yli.counters.dropped = min (s.yli.counters.dropped + 1) 65535 ∧
        t.yli.queue = s.yli.queue) ∧
      (f.discard = true → t.yli.attempt = s.yli.attempt ∧ t.yli.counters.dropped = s.yli.counters.dropped ∧
        t.yli.queue = s.yli.queue) ∧
      (f.discard = true ∨ 8 ≤ s.yli.attempt + 1 →
        (s.yli.queue ≠ [] → s.yli.quiet = false → t.yli.tx = .waiting) ∧
        (s.yli.queue = [] ∨ s.yli.quiet = true → t.yli.tx = .standby))

/-- The back-off runs out into WAITING, or into STANDBY under QUIET; the blocked timer runs out into TX BLOCKED, and the
transmitter waits on (R84, R86). -/
def Obligations.BackOffAndBlockedExpire : Prop :=
  (∀ s : State, s.supply = true → s.yli.tx = .backOff → s.yli.backOff.isSome = true → s.yli.reportDue = false →
    ∃ t, exec .backOffTimerExpiry s = .next t ∧ lineFrame s t ∧ t.yli.backOff = none ∧
      t.yli.attempt = s.yli.attempt ∧
      (s.yli.queue ≠ [] → s.yli.quiet = false → s.yli.line = .busy → t.yli.tx = .waiting ∧
        t.yli.queue = s.yli.queue ∧
        t.yli.blocked = (if s.isCurrent .txBlocked = true then none else some 5000)) ∧
      (s.yli.queue ≠ [] → s.yli.quiet = false → s.yli.line = .idle → t.yli.tx = .sending ∧
        t.yli.inFlight.map (fun f => f.msg) = s.yli.queue.head? ∧ t.yli.queue = s.yli.queue.tail) ∧
      (s.yli.quiet = true → t.yli.tx = .standby ∧ t.yli.queue = s.yli.queue)) ∧
  (∀ s : State, s.supply = true → s.yli.tx = .waiting → s.yli.blocked.isSome = true → s.yli.line = .busy →
    ∃ t, exec .blockedTimerExpiry s = .next t ∧ t.isCurrent .txBlocked = true ∧ t.yli.tx = .waiting ∧
      t.yli.blocked = none ∧ (∀ k, k ≠ .txBlocked → t.isCurrent k = s.isCurrent k) ∧
      t = { s with yli := t.yli, oau := t.oau })

/-- The report timer expires: a REPORT built from the state as it stands is in the queue, or goes at once into flight on an
idle line, and the timer restarts at the report interval (R82, R88, R89). The 24 characters of a REPORT carry the figures of
the state at the offsets of 11.2, each figure to the size of its field, and the alarm bits are those of its table. A change
of the role set and a newly latched kind, at whatever event in LISTEN or RUN, are triggers too: a REPORT is queued or begun,
and the timer restarts (R88, R108, R177). That such a REPORT is built once, from the state as the event leaves it, and not at
the trigger, is the model's choice (log 8). -/
def Obligations.ReportTimerQueuesAReport : Prop :=
  (∀ s : State, s.supply = true → s.working = true → s.yli.reportTimer.isSome = true →
    ∃ t, exec .reportTimerExpiry s = .next t ∧ lineFrame s t ∧ t.yli.reportTimer = some s.intervalMs ∧
      (nothingBegins s → { kind := .report, body := reportBody s } ∈ t.yli.queue ∧
        (s.yli.reportQueued = true → t.yli.queue.length = s.yli.queue.length) ∧
        (s.yli.reportQueued = false → t.yli.queue = s.yli.queue ++ [{ kind := .report, body := reportBody s }])) ∧
      (s.yli.line = .idle → s.yli.tx = .standby → s.yli.quiet = false → s.yli.queue = [] →
        t.yli.tx = .sending ∧ t.yli.queue = [] ∧
        t.yli.inFlight = some { msg := { kind := .report, body := reportBody s }, discard := false }) ∧
      (reportBody s).length = 24 ∧ t.yli.counters = s.yli.counters) ∧
  (∀ s : State,
    let b := reportBody s
    let r := s.srk.record
    b.length = 24 ∧ fieldAt b 0 2 = s.acu.period.number.getD 0 % 65536 ∧ fieldAt b 2 2 = s.ini.minute % 65536 ∧
    bitAt b 4 0 = s.holdsTake ∧ bitAt b 4 1 = s.holdsGive ∧ bitAt b 4 2 = s.ysu.take.able ∧
    bitAt b 4 3 = s.ysu.give.able ∧ fieldAt b 4 1 < 16 ∧
    bitAt b 5 0 = s.mvc.turnoverDue ∧ (bitAt b 5 1 = true ↔ s.ysu.order ≠ .auto) ∧
    (bitAt b 5 2 = true ↔ s.ini.key = .outOfService) ∧ bitAt b 5 3 = s.isCurrent .alone ∧
    bitAt b 5 4 = s.ini.synced ∧ fieldAt b 5 1 < 32 ∧
    fieldAt b 6 3 = r.stock % 16777216 ∧ fieldAt b 9 2 = r.perMille % 65536 ∧
    fieldAt b 11 1 = (match r.status with | .valid => 0 | .doubtful => 1 | .held => 2 | .invalid => 3) ∧
    fieldAt b 12 1 = (match s.mvc.motion with | .still => 0 | .rising => 1 | .falling => 2) ∧
    fieldAt b 13 1 = r.liftsByHeight % 256 ∧ fieldAt b 14 2 = r.gaugeUsed % 65536 ∧
    fieldAt b 16 2 = s.mvc.cycles % 65536 ∧ fieldAt b 18 2 = s.pgv.opening % 65536 ∧
    fieldAt b 20 2 = s.acu.rate % 65536 ∧ fieldAt b 22 2 = s.oau.latched.toNat ∧
    (∀ k, s.isLatched k = (fieldAt b 22 2).testBit k.bit) ∧
    [AlarmKind.inletValveFault, .outletValveFault, .limitGuard, .liftMismatch, .stockInvalid, .balance, .stillLoss,
      .meterSilent, .alone, .clockLost, .numberClash, .txBlocked, .retainedLost, .configFault].map AlarmKind.bit =
      List.range 14) ∧
  (∀ (c : Instr) (s : State), s.supply = true → s.working = true →
    ∃ t, exec c s = .next t ∧
      (t.working = true → t.holdsTake ≠ s.holdsTake ∨ t.holdsGive ≠ s.holdsGive → reported s t) ∧
      (t.working = true → ∀ k, s.isLatched k = false → t.isLatched k = true → reported s t))

/-- A frame built by R75 and heard whole is judged valid with what was put into it, for every kind, every source and
destination that a character holds, and every body of a length that R187 allows (R75, R76, R77, R190). -/
def Obligations.FrameBuiltIsFrameJudged : Prop :=
  ∀ (source destination : Nat) (k : MessageKind) (body : List Byte), source < 256 → destination < 256 →
    lengthAllowed false k body.length = true →
    ∃ data, gather (frameChars source destination k.code body).tail = (data, false, some .close) ∧
      judgeFrame false false data = .valid source destination k body

/-- A frame ended by ABORT or OPEN, and one ended by CLOSE that is judged BAD FRAME or CHECK FAIL, goes up on one counter
and does nothing else (R76, R77). Characters with no ending mark leave the receiver inside the frame and count nothing: the
model's reading of such an operand (log 17). -/
def Obligations.EndedFramesAreCountedOnce : Prop :=
  ∀ (chars : List LineChar) (r : StartReadings) (s : State), s.supply = true → s.onLine = true →
    s.yli.tx ≠ .sending →
    ∃ t, exec (.frameReceived chars r) s = .next t ∧
      ((gather chars).2.2 = some .abort → lineFrame s t ∧ t.yli.inFrame = false ∧ t.yli.counters =
        { s.yli.counters with aborted := min (s.yli.counters.aborted + 1) 65535 }) ∧
      ((gather chars).2.2 = some .opened → lineFrame s t ∧ (s.yli.line = .busy → t.yli.inFrame = true) ∧ t.yli.counters =
        { s.yli.counters with badFrame := min (s.yli.counters.badFrame + 1) 65535 }) ∧
      ((gather chars).2.2 = none → lineFrame s t ∧ (s.yli.line = .busy → t.yli.inFrame = true) ∧
        t.yli.counters = s.yli.counters) ∧
      ((gather chars).2.2 = some .close → judgeFrame false (gather chars).2.1 (gather chars).1 = .badFrame →
        lineFrame s t ∧ t.yli.inFrame = false ∧ t.yli.counters =
          { s.yli.counters with badFrame := min (s.yli.counters.badFrame + 1) 65535 }) ∧
      ((gather chars).2.2 = some .close → judgeFrame false (gather chars).2.1 (gather chars).1 = .checkFail →
        lineFrame s t ∧ t.yli.inFrame = false ∧ t.yli.counters =
          { s.yli.counters with checkFail := min (s.yli.counters.checkFail + 1) 65535 }) ∧
      ((gather chars).2.2 ≠ some .close ∨ judgeFrame false (gather chars).2.1 (gather chars).1 = .badFrame ∨
          judgeFrame false (gather chars).2.1 (gather chars).1 = .checkFail → lineLaw s → nothingBegins s →
        t = { s with yli := { s.yli with inFrame := t.yli.inFrame, counters := t.yli.counters } })

/-- An ORDER from the office that a frame brings acts as the order's own row does, in the state that line heard leaves; one
whose body carries no order is refused and counted (R78, R79, R102, R173, R188; the rows' operands: log 2). R78's other
rows: a message to another destination, an ACCOUNT or STATUS from a station, and a REPORT, ACCOUNT or STATUS from the office
are left there; an ORDER from 1..16 is refused and counted; a source that is none of these is FOREIGN SOURCE, counted; a
REPORT in FAULT goes no further (R79). Each is line heard in LISTEN and RUN, and nothing else. -/
def Obligations.FramesGoToTheirOwners : Prop :=
  (∀ (chars : List LineChar) (r : StartReadings) (s : State) (data body : List Byte) (bad : Bool) (d : Nat) (a : Address),
      s.supply = true → s.onLine = true → s.yli.tx ≠ .sending → s.isCurrent .alone = false →
      gather chars = (data, bad, some .close) → judgeFrame false bad data = .valid 30 d .order body →
      acceptedAs s d = some a →
      ∃ t, exec (.frameReceived chars r) s = .next t ∧
        (∀ o, orderOfBody body = some o → exec (orderRow a o r) { s with
          yli := { s.yli with inFrame := false },
          ysu := if s.working = true then { s.ysu with silence := some (5 * s.intervalMs) } else s.ysu } = .next t) ∧
        (orderOfBody body = none → t.oau = s.oau ∧ t.ysu.table = s.ysu.table ∧ t.ini = s.ini ∧ t.srk = s.srk ∧
          t.yli.counters = { s.yli.counters with ordersRefused := min (s.yli.counters.ordersRefused + 1) 65535 })) ∧
  (∀ (chars : List LineChar) (r : StartReadings) (s : State) (data body : List Byte) (bad : Bool) (src d : Nat)
      (k : MessageKind), s.supply = true → s.onLine = true → s.yli.tx ≠ .sending → gather chars = (data, bad, some .close) →
      judgeFrame false bad data = .valid src d k body →
      (d ≠ 0 ∧ d ≠ s.number) ∨ (src = 0 ∨ (17 ≤ src ∧ src ≠ 30)) ∨ (src = 30 ∧ k ≠ .order) ∨
        (1 ≤ src ∧ src ≤ 16 ∧ (k ≠ .report ∨ s.station = .fault)) →
    let heard : State := { s with
      yli := { s.yli with inFrame := false },
      ysu := if s.working = true then { s.ysu with silence := some (5 * s.intervalMs) } else s.ysu }
    let count := fun c : LineCounters =>
      if d ≠ 0 ∧ d ≠ s.number then c
      else if src = 0 ∨ (17 ≤ src ∧ src ≠ 30) then { c with foreignSource := min (c.foreignSource + 1) 65535 }
      else if src ≠ 30 ∧ k = .order then { c with ordersRefused := min (c.ordersRefused + 1) 65535 }
      else c
    ∃ t, exec (.frameReceived chars r) s = .next t ∧ t.yli.counters = count s.yli.counters ∧ t.ini = s.ini ∧
      t.srk = s.srk ∧ t.rst = s.rst ∧ t.oau.latched = s.oau.latched ∧ t.ysu.table = s.ysu.table ∧
      (s.working = true → t.isCurrent .alone = false ∧ t.ysu.silence = some (5 * s.intervalMs)) ∧
      accountsKept s t ∧ dutyFrame s t ∧
      (s.isCurrent .alone = false ∨ s.working = false → lineLaw s → nothingBegins s →
        t = { heard with yli := { heard.yli with counters := count s.yli.counters } }))

/-! ## The peer table -/

/-- R94: a REPORT from a peer makes its entry, FRESH at age 0 with the report's contents, read at the offsets of 11.2,
whatever entry stood there; every other entry stands, and line heard restarts the silence timer and ends ALONE (R102,
R103). -/
def Obligations.ReportArrivalEntersThePeer : Prop :=
  ∀ (chars : List LineChar) (r : StartReadings) (s : State) (data body : List Byte) (bad : Bool) (p d : Nat),
    s.supply = true → s.working = true → s.yli.tx ≠ .sending → gather chars = (data, bad, some .close) →
    judgeFrame false bad data = .valid p d .report body → 1 ≤ p → p ≤ 16 → p ≠ s.number →
    d = 0 ∨ d = s.number → ascendingTable s.ysu.table →
    ∃ t, exec (.frameReceived chars r) s = .next t ∧ entryOfReport p body ∈ t.ysu.table ∧
      entryOfReport p body =
        { number := p, fresh := true, age := 0, period := fieldAt body 0 2, take := bitAt body 4 0, give := bitAt body 4 1,
          canTake := bitAt body 4 2, canGive := bitAt body 4 3, turnoverDue := bitAt body 5 0,
          perMille := fieldAt body 9 2, cycles := fieldAt body 16 2, opening := fieldAt body 18 2 } ∧
      body.length = 24 ∧
      (∀ e ∈ t.ysu.table, e.number = p → e = entryOfReport p body) ∧
      (∀ e, e.number ≠ p → (e ∈ t.ysu.table ↔ e ∈ s.ysu.table)) ∧ ascendingTable t.ysu.table ∧
      t.ysu.silence = some (5 * s.intervalMs) ∧ t.isCurrent .alone = false ∧
      t.ysu.order = s.ysu.order ∧ t.srk = s.srk ∧ t.station = s.station ∧ t.yli.counters.foreignSource =
        s.yli.counters.foreignSource

/-- A REPORT under the own number: the clash timer at 10 × I, NUMBER CLASH current, no ability, no role but a LIMIT give; it
enters no table and no period (R100, R126). Where NUMBER CLASH was not current the open period gets its entry, or EVENTS LOST
with the eight kept where it holds eight; a further one makes no entry (R100, R157). -/
def Obligations.ReportUnderTheOwnNumberClashes : Prop :=
  ∀ (chars : List LineChar) (r : StartReadings) (s : State) (data body : List Byte) (bad : Bool) (d : Nat),
    s.supply = true → s.working = true → s.numberValid = true → s.yli.tx ≠ .sending →
    gather chars = (data, bad, some .close) → judgeFrame false bad data = .valid s.number d .report body →
    d = 0 ∨ d = s.number →
    ∃ t, exec (.frameReceived chars r) s = .next t ∧ t.isCurrent .numberClash = true ∧
      t.ysu.clash = some (10 * s.intervalMs) ∧ t.ysu.table = s.ysu.table ∧ accountsKept s t ∧
      t.ysu.take.able = false ∧ t.ysu.give.able = false ∧ t.holdsTake = false ∧
      (t.ysu.give.held = none ∨ t.ysu.give.held = some .limit) ∧
      (s.isCurrent .numberClash = false → entered s t { kind := .numberClash, minute := s.ini.minute } ∧
        (alarmLaw s → t.isLatched .numberClash = true)) ∧
      (s.isCurrent .numberClash = true → t.acu.period = s.acu.period) ∧
      t.ysu.silence = some (5 * s.intervalMs) ∧ t.isCurrent .alone = false ∧ t.srk = s.srk ∧ t.ini = s.ini ∧
      t.rst = s.rst

/-- A FRESH entry at 3 × I or beyond is STALE with its contents and its age kept, and one at 10 × I is removed; no other entry
moves, and the hand order and the roles' other terms stand (R97, R98); a fall of a role's member count restarts its release
timer (R116). An expiry of an entry that has not come to that age, or of one STALE already, changes nothing (R97, R98). A
REPORT of the peer at the moment of either expiry, heard on a BUSY line, leaves its entry FRESH at age 0 with the report's
contents in either order (R98). -/
def Obligations.StaleAndRemovalExpire : Prop :=
  (∀ (n : Nat) (s : State), s.supply = true → s.working = true →
    ((∃ e ∈ s.ysu.table, e.number = n ∧ e.fresh = true ∧ 3 * s.intervalMs ≤ e.age) →
      ∃ t, exec (.staleExpiry n) s = .next t ∧ t.ysu.table = s.ysu.table.map (fun e =>
        if e.number = n ∧ 3 * s.intervalMs ≤ e.age then { e with fresh := false } else e) ∧
      t.ysu.order = s.ysu.order ∧ t.oau = s.oau ∧ recounted s t .take ∧ recounted s t .give ∧ dutyFrame s t ∧
      accountsKept s t) ∧
    ((∃ e ∈ s.ysu.table, e.number = n ∧ 10 * s.intervalMs ≤ e.age) →
      ∃ t, exec (.removalExpiry n) s = .next t ∧
      t.ysu.table = s.ysu.table.filter (fun e => decide (e.number ≠ n ∨ e.age < 10 * s.intervalMs)) ∧
      t.ysu.order = s.ysu.order ∧ t.oau = s.oau ∧ recounted s t .take ∧ recounted s t .give ∧ dutyFrame s t ∧
      accountsKept s t)) ∧
  (∀ (n : Nat) (s : State),
    ((∀ e ∈ s.ysu.table, e.number = n → e.fresh = false ∨ e.age < 3 * s.intervalMs) →
      exec (.staleExpiry n) s = .next s) ∧
    ((∀ e ∈ s.ysu.table, e.number = n → e.age < 10 * s.intervalMs) → exec (.removalExpiry n) s = .next s)) ∧
  (∀ (chars : List LineChar) (r : StartReadings) (s : State) (data body : List Byte) (bad : Bool) (p d : Nat),
    s.supply = true → s.working = true → s.yli.tx ≠ .sending → s.yli.line = .busy → 0 < s.intervalMs →
    gather chars = (data, bad, some .close) → judgeFrame false bad data = .valid p d .report body → 1 ≤ p → p ≤ 16 →
    p ≠ s.number → d = 0 ∨ d = s.number → ascendingTable s.ysu.table →
    ∀ c : Instr, c = .staleExpiry p ∨ c = .removalExpiry p →
      (∃ t u, exec (.frameReceived chars r) s = .next t ∧ exec c t = .next u ∧ u.ysu.table.filter (fun e => e.number == p) =
        [entryOfReport p body]) ∧
      (∃ t u, exec c s = .next t ∧ exec (.frameReceived chars r) t = .next u ∧ u.ysu.table.filter (fun e => e.number == p) =
        [entryOfReport p body]))

/-- The clash timer ends NUMBER CLASH, which stays latched; the silence timer in RUN makes ALONE current with its entry and
is not restarted (R101, R103). As NUMBER CLASH ends the abilities are judged afresh, by R110's and R111's lists (R126). -/
def Obligations.ClashAndSilenceExpire : Prop :=
  (∀ s : State, s.supply = true → s.ysu.clash.isSome = true →
    ∃ t, exec .clashTimerExpiry s = .next t ∧ t.isCurrent .numberClash = false ∧ t.ysu.clash = none ∧
      t.oau.latched = s.oau.latched ∧ (∀ k, k ≠ .numberClash → t.isCurrent k = s.isCurrent k) ∧ abilityLaw t ∧
      t.ysu.table = s.ysu.table ∧ dutyFrame s t ∧ accountsKept s t) ∧
  (∀ s : State, s.supply = true → s.station = .run → s.ysu.silence.isSome = true → s.isCurrent .alone = false →
    ∃ t, exec .silenceTimerExpiry s = .next t ∧ t.isCurrent .alone = true ∧ t.isLatched .alone = true ∧
      t.ysu.silence = none ∧ (∀ k, k ≠ .alone → t.isCurrent k = s.isCurrent k) ∧
      entered s t { kind := .alone, minute := s.ini.minute } ∧
      t.ysu.table = s.ysu.table ∧ dutyFrame s t ∧ accountsKept s t)

/-! ## Duty sharing -/

/-- A call that comes active finds an able non-member: of rank 1 it joins at once, of rank 2 or lower it starts a delay of
(rank − 1) × 20 s and keeps the member count (R119); a join delay that runs out on a call still active ends in a join, and on a
call no longer active or a station no longer able it ends without one, but for the LIMIT give and the no-member join (R118,
R121, R125); a REPORT that raises the member count abandons the delay and restarts the timers (R116, R120); a release that comes active takes
out an AUTOMATIC member of last rank (R122). Each join and leave starts the dwell and restarts the role's timers (R108). At a
reckoning TAKE is left in HIGH or TOP, with the inlet drive in FAULT, with LIFT MISMATCH current or on an INVALID stock, and
GIVE in LANDED or LOW or with the outlet drive in FAULT, whatever the dwell; nothing else takes a role while its dwell runs and
no order, key or clash stands against it (R124). -/
def Obligations.CallsJoinAndReleasesLeave : Prop :=
  (∀ (r : Role) (s : State) (left : Nat), s.supply = true → (s.ysu.role r).call = .running left →
    (s.ysu.role r).delay = none → conditionHolds s r .call = true → permitted s r = true → canHold s r = true →
    suppressed s r = false → s.holds r = false → s.joinRank r = 1 →
    ∃ t, exec (.callReleaseTimerExpiry r .call) s = .next t ∧ t.holds r = true ∧
      (t.ysu.role r).dwell = some 300000 ∧ (t.ysu.role r).call ≠ .active ∧ (t.ysu.role r).release ≠ .active ∧
      (t.ysu.role r).delay = none ∧ t.oau = s.oau ∧ dutyFrame s t ∧ accountsKept s t) ∧
  (∀ (r : Role) (s : State) (left : Nat), s.supply = true → (s.ysu.role r).call = .running left →
    (s.ysu.role r).delay = none → conditionHolds s r .call = true → permitted s r = true → canHold s r = true →
    suppressed s r = false → s.holds r = false → 2 ≤ s.joinRank r → r = .take ∨ s.mvc.zone ≠ .top →
    ∃ t, exec (.callReleaseTimerExpiry r .call) s = .next t ∧ t.holds r = false ∧ (t.ysu.role r).call = .active ∧
      (t.ysu.role r).delay = some { left := (s.joinRank r - 1) * 20000, countKept := s.memberCount r } ∧
      (t.ysu.role r).dwell = none ∧ t.oau = s.oau ∧ dutyFrame s t ∧ accountsKept s t) ∧
  (∀ (r : Role) (s : State) (d : JoinDelay), s.supply = true → (s.ysu.role r).delay = some d →
    (s.ysu.role r).call = .active → s.ableNonMember r = true → permitted s r = true → canHold s r = true →
    suppressed s r = false →
    ∃ t, exec (.joinDelayExpiry r) s = .next t ∧ t.holds r = true ∧ (t.ysu.role r).dwell = some 300000 ∧
      (t.ysu.role r).delay = none ∧ (t.ysu.role r).call ≠ .active ∧ t.oau = s.oau ∧ dutyFrame s t ∧
      accountsKept s t) ∧
  (∀ (r : Role) (s : State) (d : JoinDelay), s.supply = true → (s.ysu.role r).delay = some d →
    (s.ysu.role r).call ≠ .active ∨ s.ableNonMember r = false ∨ permitted s r = false →
    ∃ t, exec (.joinDelayExpiry r) s = .next t ∧ dutyFrame s t ∧ accountsKept s t ∧
      (abilityLaw s → (t.ysu.role r).delay = none) ∧
      (abilityLaw s → permitted s r = true → suppressed s r = false → s.holds r = false →
        (t.holds r = true ↔ (r = .give ∧ s.mvc.zone = .top) ∨
          (canHold s r = true ∧ s.memberCount r = 0 ∧ s.joinRank r = 1))) ∧
      (permitted s r = false → suppressed s r = false → t.holds r = true → s.holds r = true ∨
        (t.ysu.role r).held = some .hand ∨ (t.ysu.role r).held = some .limit)) ∧
  (∀ (chars : List LineChar) (r : StartReadings) (s : State) (data body : List Byte) (bad : Bool) (p d : Nat)
    (role : Role), s.supply = true → s.working = true → s.yli.tx ≠ .sending →
    gather chars = (data, bad, some .close) → judgeFrame false bad data = .valid p d .report body → 1 ≤ p →
    p ≤ 16 → p ≠ s.number → d = 0 ∨ d = s.number →
    ∃ t, exec (.frameReceived chars r) s = .next t ∧ recounted s t role) ∧
  (∀ (r : Role) (s : State) (left : Nat), s.supply = true → (s.ysu.role r).release = .running left →
    conditionHolds s r .release = true → permitted s r = true → suppressed s r = false →
    (s.ysu.role r).held = some .automatic → s.memberRank r = s.memberCount r →
    r = .take ∨ s.mvc.zone ≠ .top →
    ∃ t, exec (.callReleaseTimerExpiry r .release) s = .next t ∧ t.holds r = false ∧
      (t.ysu.role r).dwell = some 300000 ∧ (t.ysu.role r).call ≠ .active ∧ (t.ysu.role r).release ≠ .active ∧
      t.oau = s.oau ∧ dutyFrame s t ∧ accountsKept s t) ∧
  (∀ s : State, s.supply = true → s.working = true → s.srk.timer.isSome = true →
    ∃ t, exec .reckoning s = .next t ∧
      (t.mvc.zone = .high ∨ t.mvc.zone = .top ∨ t.vdu.inlet.state = .fault ∨ t.isCurrent .liftMismatch = true ∨
        t.srk.record.status = .invalid → t.holdsTake = false) ∧
      (t.mvc.zone = .landed ∨ t.mvc.zone = .low ∨ t.vdu.outlet.state = .fault → t.holdsGive = false) ∧
      (∀ r, s.holds r = true → t.holds r = false → (t.ysu.role r).dwell = some 300000 ∧
        (t.ysu.role r).delay = none ∧ (t.ysu.role r).call ≠ .active ∧ (t.ysu.role r).release ≠ .active) ∧
      (∀ r, s.holds r = true → s.station = .run → s.ini.key = .auto → s.ysu.order = .auto →
        s.isCurrent .numberClash = false → (s.ysu.role r).dwell.isSome = true → suppressed t r = false →
        t.holds r = true))

/-- A dwell runs out: it is stopped, or starts again at 300 s where the standing rules or a claim change that role at once;
the relearn hold runs out and is stopped (R108, R123, R128). At either, an able station of rank 1 joins a role with no member,
with cause AUTOMATIC (R117, R118), and one of rank 2 or lower does not. -/
def Obligations.DwellAndRelearnExpire : Prop :=
  (∀ (r : Role) (s : State), s.supply = true → (s.ysu.role r).dwell.isSome = true →
    ∃ t, exec (.dwellTimerExpiry r) s = .next t ∧
      (t.ysu.role r).dwell = (if t.holds r = s.holds r then none else some 300000) ∧
      t.ysu.order = s.ysu.order ∧ t.ysu.table = s.ysu.table ∧ t.oau = s.oau ∧ dutyFrame s t ∧ accountsKept s t) ∧
  (∀ s : State, s.supply = true → s.ysu.relearn.isSome = true →
    ∃ t, exec .relearnHoldTimerExpiry s = .next t ∧ t.ysu.relearn = none ∧ t.ysu.order = s.ysu.order ∧
      t.ysu.table = s.ysu.table ∧ t.oau = s.oau ∧ dutyFrame s t ∧ accountsKept s t) ∧
  (∀ (r : Role) (s : State), s.supply = true → (s.ysu.role r).dwell.isSome = true → s.station = .run →
    s.ini.key = .auto → s.ysu.order = .auto → s.isCurrent .alone = false → s.ysu.relearn = none →
    s.isCurrent .numberClash = false → canHold s r = true → suppressed s r = false → s.holds r = false →
    s.memberCount r = 0 → r = .take ∨ s.mvc.zone ≠ .top →
    ∃ t, exec (.dwellTimerExpiry r) s = .next t ∧
      (s.joinRank r = 1 → (t.ysu.role r).held = some .automatic ∧ (t.ysu.role r).dwell = some 300000) ∧
      (2 ≤ s.joinRank r → t.holds r = false)) ∧
  (∀ (r : Role) (s : State), s.supply = true → s.ysu.relearn.isSome = true → (s.ysu.role r).dwell = none →
    s.station = .run → s.ini.key = .auto → s.ysu.order = .auto → s.isCurrent .alone = false →
    s.isCurrent .numberClash = false → canHold s r = true → suppressed s r = false → s.holds r = false →
    s.memberCount r = 0 → r = .take ∨ s.mvc.zone ≠ .top →
    ∃ t, exec .relearnHoldTimerExpiry s = .next t ∧
      (s.joinRank r = 1 → (t.ysu.role r).held = some .automatic ∧ (t.ysu.role r).dwell = some 300000) ∧
      (2 ≤ s.joinRank r → t.holds r = false))

/-- A HAND order to the own number: the order held, its entry; EFFECTIVE in RUN with the key at AUTO, where the role set
becomes the hand duty less what is suppressed, with the LIMIT give while the holder stands in TOP; PENDING otherwise (R129,
R130). AUTO keeps the roles as AUTOMATIC or LIMIT with both dwells at 300 s (R131), in LISTEN too: the model's reading (log
26). Role by role, a suppressed role is not held; at HAND REST or under NUMBER CLASH only a LIMIT give is. -/
def Obligations.HandAndAutoOrdersSetTheDuty : Prop :=
  (∀ (d : Duty) (s : State), s.supply = true → s.working = true →
    ∃ t, exec (.hand .own d) s = .next t ∧ t.ysu.order = .hand d ∧
      t.ysu.effective = (s.station == .run && s.ini.key == .auto) ∧
      entered s t { kind := .handOrder, minute := s.ini.minute } ∧
      (s.station = .run → s.ini.key = .auto → s.isCurrent .numberClash = false →
        t.ysu.take.held = (if suppressed s .take = false ∧ d.includes .take = true then some .hand else none) ∧
        t.ysu.give.held =
          (if suppressed s .give = true then none
           else if s.mvc.zone = .top then some .limit
           else if d.includes .give = true then some .hand else none)) ∧
      t.oau = s.oau ∧ t.ysu.table = s.ysu.table ∧ dutyFrame s t ∧ accountsKept s t) ∧
  (∀ s : State, s.supply = true → s.working = true →
    ∃ t, exec (.auto .own) s = .next t ∧ t.ysu.order = .auto ∧ t.ysu.effective = false ∧
      t.ysu.take.dwell = some 300000 ∧ t.ysu.give.dwell = some 300000 ∧
      entered s t { kind := .handOrder, minute := s.ini.minute } ∧
      (s.station = .run → s.ini.key = .auto → s.isCurrent .numberClash = false →
        (suppressed s .take = true → t.ysu.take.held = none) ∧
        (suppressed s .take = false → t.ysu.take.held = (if s.holdsTake = true then some .automatic else none)) ∧
        (suppressed s .give = true → t.ysu.give.held = none) ∧
        (suppressed s .give = false → t.ysu.give.held =
          (if s.mvc.zone = .top then some .limit else if s.holdsGive = true then some .automatic else none))) ∧
      (s.station = .run → s.ini.key = .handRest ∨ (s.ini.key = .auto ∧ s.isCurrent .numberClash = true) →
        t.ysu.take.held = none ∧ t.ysu.give.held =
          (if s.mvc.zone = .top ∧ s.vdu.outlet.state ≠ .fault then some .limit else none)) ∧
      (s.station = .listen ∨ s.ini.key = .outOfService → t.holdsTake = false ∧ t.holdsGive = false) ∧
      t.oau = s.oau ∧ t.ysu.table = s.ysu.table ∧ dutyFrame s t ∧ accountsKept s t)

/-! ## The governor -/

/-- A timed step: GOVERNING works SP_eff, the error, the truncated change, the slew limit and the clamp; SHUT sets 0,
RAMPING takes 40 off while the outlet is OPEN, HOLDING keeps; the opening is commanded, and the timer restarts at 2 s (R139
to R144, R50). The key leaving OUT OF SERVICE in RUN takes the mode out of RELEASED to the one R138's table gives, with a
step at once from 0 and the timer at 2 s (R138, R139, R145); that this step is the governing one where the key lets the
station join GIVE with the outlet OPEN, the role set being settled before the mode is judged, is the model's choice (log
11). That the mode is the table's after every step: EveryStepKeepsTheDriveLaws; that the outlet's leaving OPEN sets the
opening to 0: there and DriveFollowsItsSwitches. -/
def Obligations.GovernorSteps : Prop :=
  (∀ s : State, s.supply = true → s.pgv.step.isSome = true →
    ∃ t, exec .stepTimerExpiry s = .next t ∧ t.pgv.step = some 2000 ∧ t.pgv.mode = s.pgv.mode ∧
      (∀ pd, s.pgv.mode = .governing → s.ini.district.value = some pd →
        (t.pgv.opening : Int) = clamp 0 1000 (s.pgv.opening + clamp (-40) 40
          ((((s.cfg.profile.getD (s.ini.minute / 30) 0 : Int) -
            ((s.memberRank .give : Int) - 1) * s.cfg.lagStep - pd) * s.cfg.gain).tdiv 16))) ∧
      (s.pgv.mode = .shut → t.pgv.opening = 0) ∧
      (s.pgv.mode = .ramping → t.pgv.opening = if s.vdu.outlet.state = .isOpen then s.pgv.opening - 40 else 0) ∧
      (s.pgv.mode = .holding → t.pgv.opening = s.pgv.opening) ∧
      t.vdu.governor = .driven (if s.vdu.outlet.state = .isOpen then min t.pgv.opening 1000 else 0) ∧
      t.holdsTake = s.holdsTake ∧ t.holdsGive = s.holdsGive ∧
      t = { s with pgv := { s.pgv with opening := t.pgv.opening, step := some 2000 },
                   vdu := { s.vdu with governor := t.vdu.governor }, ysu := t.ysu, yli := t.yli }) ∧
  (∀ (p : KeyPosition) (s : State), s.supply = true → s.station = .run → s.ini.keyTaken = true →
    s.ini.key = .outOfService → p ≠ .outOfService → s.pgv.mode = .released → s.pgv.opening = 0 →
    ∃ t, exec (.keyPositionTaken p) s = .next t ∧ t.pgv.mode = modeTable t ∧ t.pgv.step = some 2000 ∧
      t.vdu.governor = .driven t.pgv.opening ∧ (t.pgv.mode ≠ .governing → t.pgv.opening = 0) ∧
      (∀ pd, t.pgv.mode = .governing → s.ini.district.value = some pd →
        (t.pgv.opening : Int) = clamp 0 1000 (clamp (-40) 40
          ((((s.cfg.profile.getD (s.ini.minute / 30) 0 : Int) -
            ((t.memberRank .give : Int) - 1) * s.cfg.lagStep - pd) * s.cfg.gain).tdiv 16))))

/-! ## The office's orders -/

/-- LINE RESET, to the own number or to all: the queue discarded and a message in flight condemned, the counters at 0, the
attempt count 0, TX BLOCKED ceased, the peer table empty, the relearn hold at 2 × I and no join delay; QUIET, the hand order,
the silence and clash timers and the accounts kept; the release timers restart where the emptied table lowers a member count
(R91, R104, R116, R128). -/
def Obligations.LineResetEmptiesTheLine : Prop :=
  ∀ (a : Address) (s : State), s.supply = true → s.working = true → s.yli.reportDue = false →
    ∃ t, exec (.lineReset a) s = .next t ∧ t.yli.counters = .zero ∧ t.yli.attempt = 0 ∧ t.yli.backOff = none ∧
      t.ysu.table = [] ∧ t.ysu.relearn = some (2 * s.intervalMs) ∧ t.ysu.take.delay = none ∧
      t.ysu.give.delay = none ∧ t.isCurrent .txBlocked = false ∧ t.oau.latched = s.oau.latched ∧
      (∀ k, k ≠ .txBlocked → t.isCurrent k = s.isCurrent k) ∧ t.yli.quiet = s.yli.quiet ∧
      t.ysu.order = s.ysu.order ∧ t.ysu.silence = s.ysu.silence ∧ t.ysu.clash = s.ysu.clash ∧
      recounted s t .take ∧ recounted s t .give ∧
      (t.holdsTake = s.holdsTake → t.holdsGive = s.holdsGive →
        t.yli.queue = [] ∧ (s.yli.tx ≠ .sending → t.yli.tx = .standby) ∧
        (∀ f ∈ t.yli.inFlight, f.discard = true)) ∧
      dutyFrame s t ∧ accountsKept s t

/-- QUIET stops the transmitter before its next frame, with the queued messages kept; TALK lets it wait for the line again,
and begin with the head of the queue where the line is IDLE (R82, R87). -/
def Obligations.QuietAndTalkGateTheTransmitter : Prop :=
  (∀ s : State, s.supply = true → s.working = true →
    ∃ t, exec (.quiet .own) s = .next t ∧ t.yli.quiet = true ∧
      (s.yli.tx = .standby ∨ s.yli.tx = .waiting → t.yli.tx = .standby ∧ t.yli.blocked = none) ∧
      (s.yli.tx = .sending ∨ s.yli.tx = .backOff → t.yli.tx = s.yli.tx ∧ t.yli.backOff = s.yli.backOff) ∧
      (s.yli.reportDue = false → t.yli.queue = s.yli.queue) ∧
      t.yli.counters = s.yli.counters ∧ t.yli.inFlight = s.yli.inFlight ∧ lineFrame s t) ∧
  (∀ s : State, s.supply = true → s.working = true → s.yli.reportDue = false →
    ∃ t, exec (.talk .own) s = .next t ∧ t.yli.quiet = false ∧
      (s.yli.tx = .standby → s.yli.queue ≠ [] → s.yli.line = .busy → t.yli.tx = .waiting ∧
        t.yli.blocked = (if s.isCurrent .txBlocked = true then none else some 5000) ∧ t.yli.queue = s.yli.queue) ∧
      (s.yli.tx = .standby → s.yli.line = .idle → ∀ m rest, s.yli.queue = m :: rest → t.yli.tx = .sending ∧
        t.yli.inFlight = some { msg := m, discard := false } ∧ t.yli.queue = rest) ∧
      (s.yli.line = .busy ∨ s.yli.tx = .sending ∨ s.yli.tx = .backOff → t.yli.queue = s.yli.queue ∧
        t.yli.inFlight = s.yli.inFlight) ∧
      (s.yli.tx = .standby → s.yli.queue = [] → t.yli.tx = .standby) ∧
      t.yli.counters = s.yli.counters ∧ lineFrame s t)

/-- ACCOUNT REQUEST and STATUS REQUEST queue their reply while fewer than three others are held (on an idle line it goes at
once into flight), and else count DROPPED; the reply is the record asked for, the open period or ABSENT, and the station's own
state (R81, R169, R175); of a number that stands twice in the list the oldest record answers, the model's choice (log 38). The
characters of the replies carry the record's and the station's figures at the offsets of 11.3 and 11.4, each to the size of its
field. -/
def Obligations.RequestsQueueTheirReplies : Prop :=
  (∀ (p : Nat) (s : State), s.supply = true → s.working = true → s.yli.reportDue = false →
    ∃ t, exec (.accountRequest .own p) s = .next t ∧ lineFrame s t ∧
      (s.yli.othersHeld < 3 → t.yli.counters = s.yli.counters ∧
        (nothingBegins s → t.yli.queue = s.yli.queue ++ [{ kind := .account, body := accountReplyBody p s }]) ∧
        (s.yli.line = .idle → s.yli.tx = .standby → s.yli.quiet = false → s.yli.queue = [] → t.yli.tx = .sending ∧
          t.yli.inFlight = some { msg := { kind := .account, body := accountReplyBody p s }, discard := false })) ∧
      (3 ≤ s.yli.othersHeld → (nothingBegins s → t.yli.queue = s.yli.queue) ∧ t.yli.counters =
        { s.yli.counters with dropped := min (s.yli.counters.dropped + 1) 65535 }) ∧
      (∀ q ∈ s.acu.list, q.number = p → (∀ q' ∈ s.acu.list, q'.number = p → q' = q) →
        accountReplyBody p s = accountClosedBody q) ∧
      (∀ q ∈ (s.acu.list.filter (fun x : AccountRecord => x.number == p)).head?, accountReplyBody p s = accountClosedBody q) ∧
      ((∀ q ∈ s.acu.list, q.number ≠ p) → p = 0 ∨ s.acu.period.number = some p →
        accountReplyBody p s = accountOpenBody p s) ∧
      ((∀ q ∈ s.acu.list, q.number ≠ p) → p ≠ 0 → s.acu.period.number ≠ some p →
        accountReplyBody p s = accountAbsentBody p)) ∧
  (∀ s : State, s.supply = true → s.onLine = true → s.yli.reportDue = false →
    ∃ t, exec (.statusRequest .own) s = .next t ∧ lineFrame s t ∧ (statusBody s).length = 33 ∧
      (s.yli.othersHeld < 3 → t.yli.counters = s.yli.counters ∧
        (nothingBegins s → t.yli.queue = s.yli.queue ++ [{ kind := .status, body := statusBody s }]) ∧
        (s.yli.line = .idle → s.yli.tx = .standby → s.yli.quiet = false → s.yli.queue = [] → t.yli.tx = .sending ∧
          t.yli.inFlight = some { msg := { kind := .status, body := statusBody s }, discard := false })) ∧
      (3 ≤ s.yli.othersHeld → (nothingBegins s → t.yli.queue = s.yli.queue) ∧ t.yli.counters =
        { s.yli.counters with dropped := min (s.yli.counters.dropped + 1) 65535 })) ∧
  (∀ r : AccountRecord,
    let b := accountClosedBody r
    let f := r.flags
    b.length = 39 + 3 * r.entries.length ∧ fieldAt b 0 1 = 1 ∧ fieldAt b 1 2 = r.number % 65536 ∧
    fieldAt b 3 2 = r.number % 65536 ∧
    fieldAt b 5 1 = (match r.cause with | .ownBoundary => 1 | .peerMark => 2) ∧ fieldAt b 6 2 = r.minute % 65536 ∧
    fieldAt b 8 3 = r.openingStock % 16777216 ∧
    fieldAt b 11 1 = (match r.openingStatus with | .valid => 0 | .doubtful => 1 | .held => 2 | .invalid => 3) ∧
    fieldAt b 12 3 = r.closingStock % 16777216 ∧
    fieldAt b 15 1 = (match r.closingStatus with | .valid => 0 | .doubtful => 1 | .held => 2 | .invalid => 3) ∧
    fieldAt b 16 3 = r.makeIn % 16777216 ∧ fieldAt b 19 3 = r.sendOut % 16777216 ∧
    (fieldAt b 22 4 : Int) = r.unaccounted % 4294967296 ∧ fieldAt b 26 2 = r.minRest % 65536 ∧
    fieldAt b 28 2 = r.minTake % 65536 ∧ fieldAt b 30 2 = r.minGive % 65536 ∧ fieldAt b 32 2 = r.minFloat % 65536 ∧
    fieldAt b 34 2 = r.peak % 65536 ∧ fieldAt b 36 2 = r.lowest.getD 65535 % 65536 ∧
    bitAt b 38 0 = f.stockDoubtful ∧ bitAt b 38 1 = f.balance ∧ bitAt b 38 2 = f.meterSilent ∧
    bitAt b 38 3 = f.eventsLost ∧ bitAt b 38 4 = f.accountsLost ∧ fieldAt b 38 1 < 32 ∧
    (∀ i < r.entries.length, ∀ e ∈ r.entries[i]?,
      fieldAt b (39 + 3 * i) 1 = e.kind.code ∧ fieldAt b (40 + 3 * i) 2 = e.minute % 65536) ∧
    [EventKind.handOrder, .keyChange, .valveFault, .limitGuard, .liftMismatch, .stockHeld, .stockInvalid, .stillLoss,
      .meterSilent, .alone, .clockLost, .numberClash, .restart, .powerReturn].map EventKind.code =
      (List.range 14).map (fun i => i + 1)) ∧
  (∀ (p : Nat) (s : State),
    let b := accountOpenBody p s
    let o := s.acu.period
    accountAbsentBody p = [3#8, BitVec.ofNat 8 (p / 256), BitVec.ofNat 8 p] ∧
    b = [2#8, BitVec.ofNat 8 (p / 256), BitVec.ofNat 8 p] ++ b.drop 3 ∧
    b.length = 39 + 3 * o.entries.length ∧ fieldAt b 3 2 = o.number.getD 0 % 65536 ∧ fieldAt b 5 1 = 0 ∧
    fieldAt b 6 2 = s.ini.minute % 65536 ∧ fieldAt b 8 3 = o.openingStock % 16777216 ∧
    fieldAt b 12 3 = s.srk.record.stock % 16777216 ∧
    fieldAt b 15 1 = (match s.srk.record.status with | .valid => 0 | .doubtful => 1 | .held => 2 | .invalid => 3) ∧
    fieldAt b 16 3 = o.makeIn % 16777216 ∧ fieldAt b 19 3 = o.sendOut % 16777216 ∧
    (fieldAt b 22 4 : Int) =
      ((o.openingStock : Int) + o.makeIn - o.sendOut - s.srk.record.stock) % 4294967296 ∧
    fieldAt b 26 2 = o.secRest / 60 % 65536 ∧ fieldAt b 28 2 = o.secTake / 60 % 65536 ∧
    fieldAt b 30 2 = o.secGive / 60 % 65536 ∧ fieldAt b 32 2 = o.secFloat / 60 % 65536 ∧
    fieldAt b 34 2 = o.peak % 65536 ∧ fieldAt b 36 2 = o.lowest.getD 65535 % 65536 ∧
    bitAt b 38 0 = o.flags.stockDoubtful ∧ bitAt b 38 1 = o.flags.balance ∧ bitAt b 38 2 = o.flags.meterSilent ∧
    bitAt b 38 3 = o.flags.eventsLost ∧ bitAt b 38 4 = o.flags.accountsLost) ∧
  (∀ s : State,
    let b := statusBody s
    let c := s.yli.counters
    let driveCode : DriveState → Nat := fun d =>
      match d with | .isOpen => 0 | .isClosed => 1 | .opening => 2 | .closing => 3 | .fault => 4
    let inputCode : InputStatus → Nat := fun x => match x with | .valid => 0 | .held => 1 | .invalid => 2
    b.length = 33 ∧ fieldAt b 0 1 = (match s.station with | .start => 0 | .listen => 1 | .run => 2 | .fault => 3) ∧
    fieldAt b 1 1 = (match s.ini.key with | .auto => 0 | .handRest => 1 | .outOfService => 2) ∧
    fieldAt b 2 1 % 8 = (match s.ysu.order with
      | .auto => 0 | .hand .rest => 1 | .hand .take => 2 | .hand .give => 3 | .hand .float => 4) ∧
    (bitAt b 2 7 = true ↔ s.ysu.order ≠ .auto ∧ s.ysu.effective = false) ∧ fieldAt b 2 1 % 128 < 8 ∧
    fieldAt b 3 2 = s.oau.current.toNat ∧ fieldAt b 5 2 = s.oau.latched.toNat ∧
    fieldAt b 7 2 = c.checkFail % 65536 ∧ fieldAt b 9 2 = c.badFrame % 65536 ∧ fieldAt b 11 2 = c.aborted % 65536 ∧
    fieldAt b 13 2 = c.collisions % 65536 ∧ fieldAt b 15 2 = c.dropped % 65536 ∧
    fieldAt b 17 2 = c.foreignSource % 65536 ∧ fieldAt b 19 2 = c.ordersRefused % 65536 ∧
    fieldAt b 21 1 = s.yli.freePlaces ∧
    fieldAt b 22 1 = inputCode s.ini.crown.status ∧ fieldAt b 23 1 = inputCode s.ini.gauge.status ∧
    fieldAt b 24 1 = inputCode s.ini.inletMain.status ∧ fieldAt b 25 1 = inputCode s.ini.district.status ∧
    fieldAt b 26 1 = inputCode s.ini.gasTemp.status ∧ fieldAt b 27 1 = inputCode s.ini.barometer.status ∧
    fieldAt b 28 1 = driveCode s.vdu.inlet.state ∧ fieldAt b 29 1 = driveCode s.vdu.outlet.state ∧
    bitAt b 30 0 = s.yli.quiet ∧ bitAt b 30 1 = s.isCurrent .alone ∧ fieldAt b 30 1 < 4 ∧
    fieldAt b 31 2 = s.plugSum % 65536)

/-- Orders that R173 refuses: to all, every one but ACCEPT and LINE RESET; in FAULT, to the own number every one but STATUS
REQUEST and RESTART, and to all every one. ORDERS REFUSED goes up by one and nothing else changes, but for a frame that the
line's standing idle lets begin. -/
def Obligations.RefusedOrdersAreCounted : Prop :=
  ∀ (s : State) (c : Instr) (r : StartReadings) (d : Duty) (p : Nat), s.supply = true → s.onLine = true →
    (c ∈ [Instr.hand .all d, .auto .all, .restart .all r, .quiet .all, .talk .all, .accountRequest .all p,
          .statusRequest .all]) ∨
    (s.station = .fault ∧ c ∈ [Instr.hand .own d, .auto .own, .accept .own, .accept .all, .lineReset .own,
          .lineReset .all, .quiet .own, .talk .own, .accountRequest .own p]) →
    ∃ t, exec c s = .next t ∧ lineFrame s t ∧ t.yli.quiet = s.yli.quiet ∧ t.yli.counters =
      { s.yli.counters with ordersRefused := min (s.yli.counters.ordersRefused + 1) 65535 } ∧
      (s.yli.reportDue = false → nothingBegins s → t.yli.queue = s.yli.queue ∧ t.yli.inFlight = s.yli.inFlight) ∧
      (lineLaw s → nothingBegins s → t = { s with yli := { s.yli with counters := t.yli.counters } })

/-! ## The laws of the device -/

/-- R177, R179: every kind currently present is in the latched set, and the contact is closed whenever that set is not
empty, after every step. -/
def Obligations.EveryStepKeepsTheAlarmLaw : Prop :=
  ∀ s t : State, step s = .next t → alarmLaw s →
    alarmLaw t ∧ (t.contactClosed = true ↔ t.oau.latched ≠ 0#16) ∧
      (∀ k, t.isCurrent k = true → t.isLatched k = true ∧ t.contactClosed = true)

/-- R80, R82: after every step the transmit queue holds at most one REPORT and at most three other messages; a sending
transmitter has its message in flight, a waiting one a queue, and both the line BUSY; one that stands by has no queue or is
held by QUIET (R87); no REPORT is left due (log 8). -/
def Obligations.EveryStepKeepsTheQueueLaw : Prop :=
  ∀ s t : State, step s = .next t → (queueLaw s → queueLaw t) ∧ (lineLaw s → lineLaw t)

/-- R92: after every step the peer table holds at most 15 entries, in ascending station number, none with the own number. -/
def Obligations.EveryStepKeepsThePeerTable : Prop :=
  ∀ s t : State, step s = .next t → stationLaw s → tableLaw s → stationLaw t ∧ tableLaw t

/-- R109, R124: after every step a role is held only in RUN with the key not at OUT OF SERVICE, no TAKE in HIGH or TOP, with
the inlet drive in FAULT, with LIFT MISMATCH current or on an INVALID stock, and no GIVE in LANDED or LOW or with the outlet
drive in FAULT; and while LIFT MISMATCH is current the record is not graded VALID (R22). R110, R111: the station holds each
ability exactly while every term of its list holds. R57, R125: in RUN with the holder in TOP, the key not at OUT OF SERVICE
and the outlet not in FAULT, and only then, GIVE is held with cause LIMIT. -/
def Obligations.EveryStepKeepsTheRoleLaw : Prop :=
  ∀ s t : State, step s = .next t → stationLaw s → gradeLaw s → roleLaw s → abilityLaw s → limitLaw s →
    gradeLaw t ∧ roleLaw t ∧ abilityLaw t ∧ limitLaw t

/-- R55: after every step the inlet command is OPEN exactly in RUN with the key not at OUT OF SERVICE, TAKE held, the zone
LANDED, LOW or WORKING and the stock not INVALID, and the outlet command exactly there with GIVE held and the zone WORKING,
HIGH or TOP; CLOSE otherwise in RUN with that key; and NONE in START, LISTEN, FAULT or at OUT OF SERVICE. So the inlet command
is never OPEN in HIGH or TOP or on an INVALID stock, and the outlet command never in LANDED or LOW. -/
def Obligations.EveryStepKeepsTheCommandLaw : Prop :=
  ∀ s t : State, step s = .next t → stationLaw s → commandLaw s → commandLaw t ∧
    (t.vdu.inlet.command = .toOpen → t.mvc.zone ≠ .high ∧ t.mvc.zone ≠ .top ∧ t.srk.record.status ≠ .invalid) ∧
    (t.vdu.outlet.command = .toOpen → t.mvc.zone ≠ .landed ∧ t.mvc.zone ≠ .low)

/-- R42, R47, R50: after every step the governor output is in 0..1000 and 0 unless the outlet is OPEN, a released drive is not
driven, and a driven one runs its timer toward its state's end. R138, R139, R142, R145: the mode is the one the table gives,
the step timer runs in the driven modes alone, and the opening is 0 while RELEASED and while the outlet is not OPEN. -/
def Obligations.EveryStepKeepsTheDriveLaws : Prop :=
  ∀ s t : State, step s = .next t → stationLaw s →
    governorLaw s ∧ openingLaw s ∧ modeLaw s ∧ driveLaw s.vdu.inlet ∧ driveLaw s.vdu.outlet →
    governorLaw t ∧ openingLaw t ∧ modeLaw t ∧ driveLaw t.vdu.inlet ∧ driveLaw t.vdu.outlet

/-- R152, R153, R165, R168: after every step the residues are in 0..65535, the list holds at most 12 records, each balancing
exactly, in a chain of numbers and stocks that the open period continues; for waiting commands and halves that are well
formed. -/
def Obligations.EveryStepKeepsTheAccounts : Prop :=
  ∀ s t : State, step s = .next t → pendingLaw s → storeLaw s → accountLaw s →
    pendingLaw t ∧ storeLaw t ∧ accountLaw t

/-- R27 to R30: after every step a VALID input holds its in-range reading, a held value is in range, and the hold timer runs
exactly while HELD. R1, R7, R182: the settings in use are valid, and the record's height is within the total travel. -/
def Obligations.EveryStepKeepsTheInputsAndThePlant : Prop :=
  ∀ s t : State, step s = .next t → (inputLaw s → inputLaw t) ∧ (plantLaw s → plantLaw t)
end

