-- ==== Sys2Proof/Laws/Chars.lean ====
section
/-! SUPPORT. What a field written into characters reads as (R187): the lemmas that the layouts of 11.2 to 11.4 are read
with. -/

namespace Sys2Proof

@[simp] theorem length_toChars (k n : Nat) : (toChars k n).length = k := by
  induction k with
  | zero => rfl
  | succ k ih => simp [toChars, ih]

@[simp] theorem length_toCharsSigned (k : Nat) (x : Int) : (toCharsSigned k x).length = k := length_toChars _ _

/-- Reading on from a number already read. -/
theorem foldl_toChars (k n a : Nat) :
    (toChars k n).foldl (fun m c => m * 256 + c.toNat) a = a * 256 ^ k + n % 256 ^ k := by
  induction k generalizing a with
  | zero => simp [toChars, Nat.mod_one]
  | succ k ih =>
    rw [toChars, List.foldl_cons, ih, Nat.pow_succ, Nat.mod_mul, BitVec.toNat_ofNat]
    ring

/-- A number written and read keeps what its characters hold. -/
theorem ofChars_toChars (k n : Nat) : ofChars (toChars k n) = n % 256 ^ k := by
  simp [ofChars, foldl_toChars]

/-- The field at the head of some characters. -/
theorem fieldAt_toChars (k n : Nat) (rest : List Byte) : fieldAt (toChars k n ++ rest) 0 k = n % 256 ^ k := by
  simp [fieldAt, ofChars_toChars]

/-- A field behind other characters. -/
theorem fieldAt_append (before rest : List Byte) (i k : Nat) :
    fieldAt (before ++ rest) (before.length + i) k = fieldAt rest i k := by
  rw [fieldAt, fieldAt, ← List.drop_drop, List.drop_left]

end Sys2Proof
end

