-- ==== Sys2Proof/Laws/PerInstr.lean ====
section
/-! SUPPORT. The per-command family `Words`: the opcode table gives no row any bits, so no word spells the command. One
lemma per constructor. -/

namespace Sys2Proof

/-- No word of any length spells the command. -/
def Laws.Words.Statement (i : Instr) : Prop := ∀ nbits w : Nat, decodeTableWord nbits w ≠ some i

/-- No word spells any command. -/
theorem Laws.noWord (i : Instr) : Laws.Words.Statement i := by
  intro nbits w h
  cases h

theorem Laws.Words.powerOn (reads : StartReadings) : Laws.Words.Statement (.powerOn reads) := Laws.noWord _
theorem Laws.Words.entryToListen (key : Option KeyPosition) : Laws.Words.Statement (.entryToListen key) := Laws.noWord _
theorem Laws.Words.listenTimerExpiry : Laws.Words.Statement (.listenTimerExpiry) := Laws.noWord _
theorem Laws.Words.retainedWriteComplete (back : ReadBack) (reads : StartReadings) : Laws.Words.Statement (.retainedWriteComplete back reads) := Laws.noWord _
theorem Laws.Words.inputSample (input : InputId) (reading : Int) : Laws.Words.Statement (.inputSample input reading) := Laws.noWord _
theorem Laws.Words.holdTimerExpiry (input : InputId) : Laws.Words.Statement (.holdTimerExpiry input) := Laws.noWord _
theorem Laws.Words.meterPulse (meter : Side) : Laws.Words.Statement (.meterPulse meter) := Laws.noWord _
theorem Laws.Words.minuteImpulse : Laws.Words.Statement (.minuteImpulse) := Laws.noWord _
theorem Laws.Words.impulseTimerExpiry : Laws.Words.Statement (.impulseTimerExpiry) := Laws.noWord _
theorem Laws.Words.absorbWindowExpiry : Laws.Words.Statement (.absorbWindowExpiry) := Laws.noWord _
theorem Laws.Words.synchronisingImpulse : Laws.Words.Statement (.synchronisingImpulse) := Laws.noWord _
theorem Laws.Words.keyPositionTaken (position : KeyPosition) : Laws.Words.Statement (.keyPositionTaken position) := Laws.noWord _
theorem Laws.Words.acceptButtonPress : Laws.Words.Statement (.acceptButtonPress) := Laws.noWord _
theorem Laws.Words.acceptButtonHeld (reads : StartReadings) : Laws.Words.Statement (.acceptButtonHeld reads) := Laws.noWord _
theorem Laws.Words.endSwitchChange (valve : Side) (which : SwitchEnd) (made : Bool) : Laws.Words.Statement (.endSwitchChange valve which made) := Laws.noWord _
theorem Laws.Words.travelTimerExpiry (valve : Side) : Laws.Words.Statement (.travelTimerExpiry valve) := Laws.noWord _
theorem Laws.Words.reckoning : Laws.Words.Statement (.reckoning) := Laws.noWord _
theorem Laws.Words.carrierOnLine : Laws.Words.Statement (.carrierOnLine) := Laws.noWord _
theorem Laws.Words.lineIdle (openTaken : Bool) : Laws.Words.Statement (.lineIdle openTaken) := Laws.noWord _
theorem Laws.Words.frameReceived (chars : List LineChar) (reads : StartReadings) : Laws.Words.Statement (.frameReceived chars reads) := Laws.noWord _
theorem Laws.Words.frameCompletion : Laws.Words.Statement (.frameCompletion) := Laws.noWord _
theorem Laws.Words.collision : Laws.Words.Statement (.collision) := Laws.noWord _
theorem Laws.Words.backOffTimerExpiry : Laws.Words.Statement (.backOffTimerExpiry) := Laws.noWord _
theorem Laws.Words.blockedTimerExpiry : Laws.Words.Statement (.blockedTimerExpiry) := Laws.noWord _
theorem Laws.Words.reportTimerExpiry : Laws.Words.Statement (.reportTimerExpiry) := Laws.noWord _
theorem Laws.Words.staleExpiry (peer : Nat) : Laws.Words.Statement (.staleExpiry peer) := Laws.noWord _
theorem Laws.Words.removalExpiry (peer : Nat) : Laws.Words.Statement (.removalExpiry peer) := Laws.noWord _
theorem Laws.Words.clashTimerExpiry : Laws.Words.Statement (.clashTimerExpiry) := Laws.noWord _
theorem Laws.Words.silenceTimerExpiry : Laws.Words.Statement (.silenceTimerExpiry) := Laws.noWord _
theorem Laws.Words.callReleaseTimerExpiry (role : Role) (kind : CallKind) : Laws.Words.Statement (.callReleaseTimerExpiry role kind) := Laws.noWord _
theorem Laws.Words.joinDelayExpiry (role : Role) : Laws.Words.Statement (.joinDelayExpiry role) := Laws.noWord _
theorem Laws.Words.dwellTimerExpiry (role : Role) : Laws.Words.Statement (.dwellTimerExpiry role) := Laws.noWord _
theorem Laws.Words.relearnHoldTimerExpiry : Laws.Words.Statement (.relearnHoldTimerExpiry) := Laws.noWord _
theorem Laws.Words.stepTimerExpiry : Laws.Words.Statement (.stepTimerExpiry) := Laws.noWord _
theorem Laws.Words.hand (address : Address) (duty : Duty) : Laws.Words.Statement (.hand address duty) := Laws.noWord _
theorem Laws.Words.auto (address : Address) : Laws.Words.Statement (.auto address) := Laws.noWord _
theorem Laws.Words.accept (address : Address) : Laws.Words.Statement (.accept address) := Laws.noWord _
theorem Laws.Words.restart (address : Address) (reads : StartReadings) : Laws.Words.Statement (.restart address reads) := Laws.noWord _
theorem Laws.Words.lineReset (address : Address) : Laws.Words.Statement (.lineReset address) := Laws.noWord _
theorem Laws.Words.quiet (address : Address) : Laws.Words.Statement (.quiet address) := Laws.noWord _
theorem Laws.Words.talk (address : Address) : Laws.Words.Statement (.talk address) := Laws.noWord _
theorem Laws.Words.accountRequest (address : Address) (period : Nat) : Laws.Words.Statement (.accountRequest address period) := Laws.noWord _
theorem Laws.Words.statusRequest (address : Address) : Laws.Words.Statement (.statusRequest address) := Laws.noWord _
theorem Laws.Words.lossOfSupply : Laws.Words.Statement (.lossOfSupply) := Laws.noWord _
theorem Laws.Words.acceptButtonRelease : Laws.Words.Statement (.acceptButtonRelease) := Laws.noWord _

end Sys2Proof
end

