-- ==== Sys2Proof/Laws/Queue.lean ====
section
/-! SUPPORT. The transmit queue and the transmitter: what an offer and the end of an event leave of them (R80 to R82,
R89). -/

namespace Sys2Proof.Machine

/-! ## The end of an event: what the building of a REPORT and the transmitter's moves do not touch -/

@[simp] theorem offerReport_counters (b : List Byte) (y : Yli) : (y.offerReport b).counters = y.counters := by
  unfold Yli.offerReport; dsimp only; split <;> rfl
@[simp] theorem beginFrame_counters (y : Yli) : y.beginFrame.counters = y.counters := by
  unfold Yli.beginFrame; split <;> [split <;> rfl; rfl]
@[simp] theorem standbyToWaiting_yli_counters (s : State) : (standbyToWaiting s).yli.counters = s.yli.counters := by
  unfold standbyToWaiting; split <;> rfl
@[simp] theorem flushReport_yli_counters (s : State) : (flushReport s).yli.counters = s.yli.counters := by
  unfold flushReport; split <;> simp
@[simp] theorem finish_yli_counters (s : State) : (finish s).yli.counters = s.yli.counters := by simp [finish, txSettle]

@[simp] theorem offerReport_quiet (b : List Byte) (y : Yli) : (y.offerReport b).quiet = y.quiet := by
  unfold Yli.offerReport; dsimp only; split <;> rfl
@[simp] theorem beginFrame_quiet (y : Yli) : y.beginFrame.quiet = y.quiet := by
  unfold Yli.beginFrame; split <;> [split <;> rfl; rfl]
@[simp] theorem standbyToWaiting_yli_quiet (s : State) : (standbyToWaiting s).yli.quiet = s.yli.quiet := by
  unfold standbyToWaiting; split <;> rfl
@[simp] theorem flushReport_yli_quiet (s : State) : (flushReport s).yli.quiet = s.yli.quiet := by
  unfold flushReport; split <;> simp
@[simp] theorem finish_yli_quiet (s : State) : (finish s).yli.quiet = s.yli.quiet := by simp [finish, txSettle]

@[simp] theorem offerReport_attempt (b : List Byte) (y : Yli) : (y.offerReport b).attempt = y.attempt := by
  unfold Yli.offerReport; dsimp only; split <;> rfl
@[simp] theorem beginFrame_attempt (y : Yli) : y.beginFrame.attempt = y.attempt := by
  unfold Yli.beginFrame; split <;> [split <;> rfl; rfl]
@[simp] theorem standbyToWaiting_yli_attempt (s : State) : (standbyToWaiting s).yli.attempt = s.yli.attempt := by
  unfold standbyToWaiting; split <;> rfl
@[simp] theorem flushReport_yli_attempt (s : State) : (flushReport s).yli.attempt = s.yli.attempt := by
  unfold flushReport; split <;> simp
@[simp] theorem finish_yli_attempt (s : State) : (finish s).yli.attempt = s.yli.attempt := by simp [finish, txSettle]

@[simp] theorem offerReport_backOff (b : List Byte) (y : Yli) : (y.offerReport b).backOff = y.backOff := by
  unfold Yli.offerReport; dsimp only; split <;> rfl
@[simp] theorem beginFrame_backOff (y : Yli) : y.beginFrame.backOff = y.backOff := by
  unfold Yli.beginFrame; split <;> [split <;> rfl; rfl]
@[simp] theorem standbyToWaiting_yli_backOff (s : State) : (standbyToWaiting s).yli.backOff = s.yli.backOff := by
  unfold standbyToWaiting; split <;> rfl
@[simp] theorem flushReport_yli_backOff (s : State) : (flushReport s).yli.backOff = s.yli.backOff := by
  unfold flushReport; split <;> simp
@[simp] theorem finish_yli_backOff (s : State) : (finish s).yli.backOff = s.yli.backOff := by simp [finish, txSettle]

@[simp] theorem offerReport_reportTimer (b : List Byte) (y : Yli) : (y.offerReport b).reportTimer = y.reportTimer := by
  unfold Yli.offerReport; dsimp only; split <;> rfl
@[simp] theorem beginFrame_reportTimer (y : Yli) : y.beginFrame.reportTimer = y.reportTimer := by
  unfold Yli.beginFrame; split <;> [split <;> rfl; rfl]
@[simp] theorem standbyToWaiting_yli_reportTimer (s : State) : (standbyToWaiting s).yli.reportTimer = s.yli.reportTimer := by
  unfold standbyToWaiting; split <;> rfl
@[simp] theorem flushReport_yli_reportTimer (s : State) : (flushReport s).yli.reportTimer = s.yli.reportTimer := by
  unfold flushReport; split <;> simp
@[simp] theorem finish_yli_reportTimer (s : State) : (finish s).yli.reportTimer = s.yli.reportTimer := by simp [finish, txSettle]

@[simp] theorem offerReport_reportDue (b : List Byte) (y : Yli) : (y.offerReport b).reportDue = y.reportDue := by
  unfold Yli.offerReport; dsimp only; split <;> rfl
@[simp] theorem beginFrame_reportDue (y : Yli) : y.beginFrame.reportDue = y.reportDue := by
  unfold Yli.beginFrame; split <;> [split <;> rfl; rfl]
@[simp] theorem standbyToWaiting_yli_reportDue (s : State) : (standbyToWaiting s).yli.reportDue = s.yli.reportDue := by
  unfold standbyToWaiting; split <;> rfl
@[simp] theorem flushReport_yli_reportDue (s : State) : (flushReport s).yli.reportDue = s.yli.reportDue := by
  unfold flushReport; split <;> simp
@[simp] theorem finish_yli_reportDue (s : State) : (finish s).yli.reportDue = false := by simp [finish, txSettle]

/-! ## Offers (R80, R81) -/

/-- At most one REPORT and at most three others (R80), of the interface alone. -/
abbrev queueBounded (y : Yli) : Prop := (y.queue.filter Message.isReport).length ≤ 1 ∧ y.othersHeld ≤ 3

/-- A queue with no REPORT has none to replace. -/
theorem reportQueued_eq_false (y : Yli) : y.reportQueued = false ↔ y.queue.filter Message.isReport = [] := by
  simp [Yli.reportQueued, List.filter_eq_nil_iff]

/-- Replacing the REPORTs of a queue keeps what is and is not a REPORT, place by place. -/
theorem filter_replaceReport (m : Message) (hm : m.isReport = true) (q : List Message) :
    ((q.map (fun x => if x.isReport then m else x)).filter Message.isReport).length =
        (q.filter Message.isReport).length ∧
      (q.map (fun x => if x.isReport then m else x)).filter (fun x => !x.isReport) =
        q.filter (fun x => !x.isReport) := by
  induction q with
  | nil => simp
  | cons x xs ih => by_cases h : x.isReport = true <;> simp_all

/-- A REPORT offered keeps the bounds of the queue (R80, R81). -/
theorem offerReport_bounded (b : List Byte) (y : Yli) (h : queueBounded y) : queueBounded (y.offerReport b) := by
  have hm : Message.isReport { kind := .report, body := b } = true := rfl
  unfold Yli.offerReport
  by_cases q : y.reportQueued = true
  · have f := filter_replaceReport { kind := .report, body := b } hm y.queue
    simp only [q, if_true, queueBounded, Yli.othersHeld]
    exact ⟨f.1 ▸ h.1, by rw [f.2]; exact h.2⟩
  · have e := (reportQueued_eq_false y).1 (by simpa using q)
    simp only [q, queueBounded, Yli.othersHeld, Bool.false_eq_true, if_false, List.filter_append, e]
    refine ⟨by simp [hm], ?_⟩
    have k : [({ kind := .report, body := b } : Message)].filter (fun m => !m.isReport) = [] := by simp [hm]
    rw [k, List.append_nil]
    exact h.2

/-- An ACCOUNT or STATUS offered keeps the bounds of the queue (R80, R81). -/
theorem offerOther_bounded (m : Message) (hm : m.isReport = false) (y : Yli) (h : queueBounded y) :
    queueBounded (y.offerOther m) := by
  unfold Yli.offerOther
  split
  · rename_i lt
    refine ⟨by simpa [List.filter_append, hm] using h.1, ?_⟩
    unfold Yli.othersHeld at lt ⊢
    simp only [List.filter_append, List.length_append]
    have : (List.filter (fun m => !m.isReport) [m]).length = 1 := by simp [hm]
    omega
  · exact h

/-- A frame that begins keeps the bounds of the queue (R80, R82). -/
theorem beginFrame_bounded (y : Yli) (i : y.inFlight = none) (h : queueBounded y) : queueBounded y.beginFrame := by
  unfold Yli.beginFrame
  split
  · split
    · exact h
    · rename_i m rest q
      obtain ⟨h1, h2⟩ := h
      unfold Yli.othersHeld at h2
      rw [q] at h1 h2
      rw [i] at h2
      by_cases r : m.isReport = true
      · simp only [List.filter_cons, r, if_true, List.length_cons, Bool.not_true, Bool.false_eq_true, if_false] at h1 h2
        exact ⟨by dsimp only; omega, by simp only [Yli.othersHeld, r, if_true]; omega⟩
      · simp only [List.filter_cons, r, if_false, List.length_cons, Bool.not_false, if_true, Bool.false_eq_true] at h1 h2
        exact ⟨h1, by simp only [Yli.othersHeld, r, Bool.false_eq_true, if_false]; omega⟩
  · exact h

end Sys2Proof.Machine
end

