-- ==== Sys2Proof/Laws/Start.lean ====
section
/-! SUPPORT. What the operations of the entry to LISTEN can do (R154, R157, R170, R171, R180). -/

namespace Sys2Proof.Machine

/-- The start's entry goes to the open period and nowhere else. -/
theorem enterStart_frame (s : State) : enterStart s = { s with acu := (enterStart s).acu } := rfl

/-- With room in the open period the entry is its last. -/
theorem enterStart_entries (s : State) (h : s.acu.period.entries.length < 8) :
    (enterStart s).acu.period.entries =
      s.acu.period.entries ++ [{ kind := startEntry s, minute := startMinute s }] := by
  simp [enterStart, OpenPeriod.addEntry, h]

/-- After a good store the entry's minute is that of the copy START took (R170). -/
theorem startMinute_of_good (s : State) (h : StoreHalf) (kept : s.acu.openingDue = false)
    (e : s.rst.half s.rst.newest = some h) : startMinute s = h.contents.minute := by
  simp [startMinute, kept, e]

/-- After a cleared store the entry's minute is the minute as it stands (R157, R171). -/
theorem startMinute_of_cleared (s : State) (cleared : s.acu.openingDue = true) : startMinute s = s.ini.minute := by
  simp [startMinute, cleared]

@[simp] theorem dropStartPulses_acu (s : State) : (dropStartPulses s).acu = s.acu := rfl
@[simp] theorem dropStartPulses_rst (s : State) : (dropStartPulses s).rst = s.rst := rfl
@[simp] theorem dropStartPulses_inletCount (s : State) : (dropStartPulses s).ini.inletCount = 0 := rfl
@[simp] theorem dropStartPulses_outletCount (s : State) : (dropStartPulses s).ini.outletCount = 0 := rfl

end Sys2Proof.Machine
end

