-- ==== Sys2Proof/Laws/Table.lean ====
section
/-! SUPPORT. The peer table: what a report's entry, a staleness and a removal leave of it (R92, R94, R97, R98). -/

namespace Sys2Proof.Machine

/-- The entry stands in the table it goes into (R94). -/
theorem mem_enterPeer_self (e : PeerEntry) (t : List PeerEntry) : e ∈ enterPeer e t := by
  induction t with
  | nil => simp [enterPeer]
  | cons x xs ih => unfold enterPeer; split <;> [simp; (split <;> simp [ih])]

/-- Nothing enters a table with a report but the report's entry. -/
theorem mem_of_mem_enterPeer {e x : PeerEntry} {t : List PeerEntry} (h : x ∈ enterPeer e t) : x = e ∨ x ∈ t := by
  induction t with
  | nil => simp [enterPeer] at h; exact .inl h
  | cons y ys ih =>
    unfold enterPeer at h
    split at h
    · rcases List.mem_cons.1 h with h | h
      · exact .inl h
      · exact .inr h
    · split at h
      · rcases List.mem_cons.1 h with h | h
        · exact .inl h
        · exact .inr (List.mem_cons_of_mem _ h)
      · rcases List.mem_cons.1 h with h | h
        · exact .inr (h ▸ List.mem_cons_self)
        · rcases ih h with h | h
          · exact .inl h
          · exact .inr (List.mem_cons_of_mem _ h)

/-- Every entry of another number stands. -/
theorem mem_enterPeer_other {e x : PeerEntry} {t : List PeerEntry} (h : x ∈ t) (n : x.number ≠ e.number) :
    x ∈ enterPeer e t := by
  induction t with
  | nil => cases h
  | cons y ys ih =>
    unfold enterPeer
    split
    · exact List.mem_cons_of_mem _ h
    · split
      · rename_i q
        rcases List.mem_cons.1 h with h | h
        · exact absurd (h ▸ q.symm) n
        · exact List.mem_cons_of_mem _ h
      · rcases List.mem_cons.1 h with h | h
        · exact h ▸ List.mem_cons_self
        · exact List.mem_cons_of_mem _ (ih h)

/-- A report's entry keeps the order of the table (R92). -/
theorem ascending_enterPeer (e : PeerEntry) {t : List PeerEntry} (h : ascendingTable t) :
    ascendingTable (enterPeer e t) := by
  induction t with
  | nil => simp [enterPeer, ascendingTable]
  | cons y ys ih =>
    have hy := List.pairwise_cons.1 h
    unfold enterPeer
    split
    · rename_i lt
      refine List.pairwise_cons.2 ⟨fun x hx => ?_, h⟩
      rcases List.mem_cons.1 hx with hx | hx
      · exact hx ▸ lt
      · exact lt.trans (hy.1 x hx)
    · split
      · rename_i eq
        exact List.pairwise_cons.2 ⟨fun x hx => eq ▸ hy.1 x hx, hy.2⟩
      · rename_i nlt neq
        refine List.pairwise_cons.2 ⟨fun x hx => ?_, ih hy.2⟩
        rcases mem_of_mem_enterPeer hx with hx | hx
        · rw [hx]; omega
        · exact hy.1 x hx

/-- An entry has reached an age exactly when it is that number's and stands at that age or beyond (R97, R98). -/
theorem PeerEntry.reached_iff (n age : Nat) (e : PeerEntry) :
    e.reached n age = true ↔ e.number = n ∧ age ≤ e.age := by
  simp [PeerEntry.reached]

/-- What stands after a staleness: the reached entry of the number, STALE, and every other as it was (R97). -/
theorem mem_stalePeer {n age : Nat} {x : PeerEntry} {t : List PeerEntry} :
    x ∈ stalePeer n age t ↔ ∃ e ∈ t, (e.number = n ∧ age ≤ e.age ∧ x = { e with fresh := false }) ∨
      ((e.number = n → e.age < age) ∧ x = e) := by
  simp only [stalePeer, List.mem_map]
  refine exists_congr fun e => and_congr_right fun _ => ?_
  by_cases h : e.reached n age = true
  · have := (PeerEntry.reached_iff n age e).1 h
    grind
  · have := mt (PeerEntry.reached_iff n age e).2 h
    grind

/-- What stands after a removal: every entry but the number's where it has reached the age (R98). -/
theorem mem_removePeer {n age : Nat} {x : PeerEntry} {t : List PeerEntry} :
    x ∈ removePeer n age t ↔ x ∈ t ∧ (x.number = n → x.age < age) := by
  have := PeerEntry.reached_iff n age x
  simp only [removePeer, List.mem_filter, Bool.not_eq_true']
  grind

/-- A stale expiry that does not fall due does nothing (R97, R98). -/
theorem staleExpired_of_not_due {n : Nat} {s : State} (h : s.staleDue n = false) : staleExpired n s = s := by
  simp [staleExpired, h]

/-- A removal expiry that does not fall due does nothing (R98). -/
theorem removalExpired_of_not_due {n : Nat} {s : State} (h : s.removalDue n = false) : removalExpired n s = s := by
  simp [removalExpired, h]

/-- Staleness moves no number. -/
theorem map_number_stalePeer (n age : Nat) (t : List PeerEntry) :
    (stalePeer n age t).map PeerEntry.number = t.map PeerEntry.number := by
  simp only [stalePeer, List.map_map]
  apply List.map_congr_left
  intro x _
  simp only [Function.comp_apply]
  split <;> rfl

/-- An ascending table of numbers in 1..16 that lacks one of them has at most 15 entries. -/
theorem length_le_of_numbers {t : List PeerEntry} {n : Nat} (a : ascendingTable t)
    (h : ∀ e ∈ t, 1 ≤ e.number ∧ e.number ≤ 16 ∧ e.number ≠ n) (hn : 1 ≤ n ∧ n ≤ 16) : t.length ≤ 15 := by
  have nd : (t.map PeerEntry.number).Nodup := by
    refine List.Pairwise.map _ (fun x y hxy => ?_) a
    exact Nat.ne_of_lt hxy
  have sub : (t.map PeerEntry.number).toFinset ⊆ (Finset.Icc 1 16).erase n := by
    intro x hx
    simp only [List.mem_toFinset, List.mem_map] at hx
    obtain ⟨e, he, rfl⟩ := hx
    have := h e he
    simp only [Finset.mem_erase, Finset.mem_Icc]
    omega
  have c := Finset.card_le_card sub
  rw [List.toFinset_card_of_nodup nd, List.length_map, Finset.card_erase_of_mem (by simp; omega)] at c
  simpa using c

end Sys2Proof.Machine
end

