-- ==== Sys2Proof/Tests/Slice0.lean ====
section
/-! SUPPORT. Tests: the well-formedness smoke, the manual's worked figures, and for each statement with hypotheses a state
and operands that meet them, at the edges of their ranges. -/

namespace Sys2Proof.Tests

open Sys2Proof.Machine

set_option maxRecDepth 100000
set_option Elab.async false

/-! ## Small states -/

/-- The three-lift holder of 1.11 with settings inside every range of R182. -/
def holder : Settings :=
  { cls := .waterSealed,
    lifts := [{ area := 10179, travel := 9000, bandLow := 120, bandHigh := 160 },
              { area := 11341, travel := 9000, bandLow := 170, bandHigh := 210 },
              { area := 12566, travel := 9000, bandLow := 215, bandHigh := 255 }],
    l0 := 300, lwl := 2500, uwl := 24500, tg := 26200, pulseIn := 10, pulseOut := 10, travelLimit := 90,
    interval := 30, takeCall := 250, takeRelease := 150, stillLossLimit := 200, stagnationHours := 24,
    frostLevel := 10, profile := List.replicate 48 160, gain := 8, lagStep := 5, boundaries := [360, 840, 1320],
    balanceLimit := 20 }

/-- A VALID input at a reading. -/
def valid (x : Int) : InputRecord := { reading := x, held := some x, status := .valid, hold := none, sampled := true }

/-- A HELD input. -/
def held (x : Int) : InputRecord :=
  { reading := 99999, held := some x, status := .held, hold := some 5, sampled := true }

/-- The interface in LISTEN or RUN, the key at AUTO, the inputs of the first worked case of 1.11 at a height. -/
def instruments (h : Int) : Ini :=
  { State.reset.ini with
    crown := valid h, gauge := valid 220, inletMain := valid 200, district := valid 150, gasTemp := valid 85,
    barometer := valid 10050, minute := 600, impulse := some 70000, key := .auto, keyTaken := true }

/-- A drive held at CLOSED. -/
def closedDrive : Drive := { state := .isClosed, command := .toClose, output := .notDriven, travel := none, retry := 0 }

/-- Station 5 in RUN with no role and both dwells running, at a height of the three-lift holder. -/
def running (h : Int) : State :=
  { State.reset with
    station := .run, number := 5, plug := some holder, ini := instruments h,
    vdu := { inlet := closedDrive, outlet := closedDrive, governor := .driven 0 },
    srk := { record := { StockRecord.initial with h := h.toNat, perMille := 500, status := .valid }, heightAccepted := true,
             graded := true, timer := some 10000 },
    mvc := { State.reset.mvc with zone := .working, lastHeight := some h.toNat },
    yli := { State.reset.yli with reportTimer := some 30000 },
    ysu := { State.reset.ysu with silence := some 150000, take := { RoleState.initial with dwell := some 9 },
                                  give := { RoleState.initial with dwell := some 9 } },
    pgv := { State.reset.pgv with mode := .ramping, step := some 2000 },
    acu := { State.reset.acu with period := { OpenPeriod.unset with number := some 41, openingStock := 24000,
                                                                    openingStatus := .valid } } }

/-- The state a command leaves. -/
def after (c : Instr) (s : State) : State :=
  match exec c s with
  | .next t => t
  | .fault _ => State.reset
  | .refused _ => State.reset

/-- The plug of some settings, before its check word (11.6). -/
def plugBody (p : Settings) : List Byte :=
  let slots (f : Lift → Nat) := p.lifts.map f ++ List.replicate (4 - p.lifts.length) 0
  toChars 1 1 ++ toChars 1 p.lifts.length ++ (slots Lift.area).flatMap (toChars 2) ++
  (slots Lift.travel).flatMap (toChars 2) ++
  (p.lifts.flatMap (fun (l : Lift) => [l.bandLow, l.bandHigh]) ++ List.replicate (8 - 2 * p.lifts.length) 0).flatMap
    (toChars 2) ++
  [p.l0, p.lwl, p.uwl, p.tg].flatMap (toChars 2) ++
  [p.pulseIn, p.pulseOut, p.travelLimit, p.interval].flatMap (toChars 1) ++
  [p.takeCall, p.takeRelease, p.stillLossLimit].flatMap (toChars 2) ++ toChars 1 p.stagnationHours ++
  toCharsSigned 1 p.frostLevel ++ p.profile.flatMap (toChars 2) ++
  [p.gain, p.lagStep, p.boundaries.length].flatMap (toChars 1) ++
  (p.boundaries ++ List.replicate (4 - p.boundaries.length) 0).flatMap (toChars 2) ++ toChars 2 p.balanceLimit

/-- The plug with its check word. -/
def plugChars (p : Settings) : List Byte := plugBody p ++ toChars 2 (plugSumOf (plugBody p))

/-- What START reads of station n, everything good. -/
def goodReads (n : Nat) : StartReadings :=
  { straps := n, plug := some (plugChars holder), loop := none, clearing := .asWritten }

/-- Contents of the retained store. -/
def contents : RetainedContents :=
  { clearedContents with period := { OpenPeriod.unset with number := some 41 }, cycles := 7, minute := 900 }

/-! ## Well-formedness: a term that each check refuses -/

theorem test_wf_peerZero : (Instr.staleExpiry 0).wellFormed = false := by decide
theorem test_wf_peerSeventeen : (Instr.removalExpiry 17).wellFormed = false := by decide
theorem test_wf_peerEdges : (Instr.staleExpiry 1).wellFormed = true ∧ (Instr.removalExpiry 16).wellFormed = true := by
  decide
theorem test_wf_period : (Instr.accountRequest .own 65536).wellFormed = false ∧
    (Instr.accountRequest .own 65535).wellFormed = true := by decide
/-- A frame goes on after its CLOSE (R76). -/
theorem test_wf_frameSpan :
    (Instr.frameReceived [LineChar.markOf 2, LineChar.data 5#8] (goodReads 5)).wellFormed = false := by decide
theorem test_wf_frame :
    (Instr.frameReceived [LineChar.data 5#8, LineChar.markOf 2] (goodReads 5)).wellFormed = true := by decide

/-- A half whose check word is right and whose contents are not of the station's writing. -/
def illHalf (c : RetainedContents) : StoreHalf := StoreHalf.make c 1

theorem test_wf_readBack :
    (Instr.retainedWriteComplete (.differs (some (illHalf { contents with minute := 1440 }))) (goodReads 5)).wellFormed
      = false := by decide +kernel
theorem test_wf_clearing :
    (Instr.powerOn { goodReads 5 with clearing := .differs (some (illHalf { contents with cycles := 65536 })) }).wellFormed
      = false := by decide +kernel
theorem test_wf_restart :
    (Instr.restart .own { goodReads 5 with clearing := .differs (some (illHalf { contents with restTime := 65536 })) }).wellFormed
      = false := by decide +kernel
theorem test_wf_button :
    (Instr.acceptButtonHeld { goodReads 5 with clearing := .differs (some (illHalf { contents with inletResidue := 65536 })) }).wellFormed
      = false := by decide +kernel
/-- A half that fails its check word may hold anything (log 14). -/
theorem test_wf_badHalf : StoreHalf.wf { contents := { contents with minute := 1440 }, writeCount := 1, checkWord := 0#16 }
    = true := by decide +kernel

/-- A closed record that balances. -/
def record (n opening closing : Nat) : AccountRecord :=
  { OpenPeriod.recordWith { OpenPeriod.unset with openingStock := opening } n .ownBoundary 360 closing .valid with
    peak := 0 }

/-- Contents with a list, the open period opening on a stock. -/
def listed (list : List AccountRecord) (opening : Nat) (number : Option Nat) : RetainedContents :=
  { contents with list := list, period := { contents.period with openingStock := opening, number := number } }

theorem test_wf_contents : contents.wf = true ∧ (listed [record 40 5 9] 9 (some 41)).wf = true := by decide
theorem test_wf_list13 : (listed ((List.range 12).map (fun i => record (29 + i) 0 0)) 0 (some 41)).wf = true ∧
    (listed ((List.range 13).map (fun i => record (28 + i) 0 0)) 0 (some 41)).wf = false := by decide
theorem test_wf_balance : (listed [{ record 40 5 9 with unaccounted := 0 }] 9 (some 41)).wf = false := by decide
theorem test_wf_number : (listed [record 0 5 9] 9 (some 41)).wf = false := by decide
theorem test_wf_chain : (listed [record 39 5 8, record 40 7 9] 9 (some 41)).wf = false := by decide
theorem test_wf_continues : (listed [record 40 5 9] 8 (some 41)).wf = false := by decide
theorem test_wf_unsetPeriod : (listed [record 40 5 9] 9 none).wf = false := by decide
theorem test_wf_entries :
    ({ contents with
        period := { contents.period with entries := List.replicate 9 { kind := .alone, minute := 3 } } } :
      RetainedContents).wf = false := by decide
theorem test_wf_residue : ({ contents with outletResidue := 65536 } : RetainedContents).wf = false := by decide

/-! ## The manual's worked figures -/

/-- R190: the nine characters 0x31 to 0x39. -/
theorem test_checkWord : checkWord ((List.range 9).map (fun i => BitVec.ofNat 8 (0x31 + i))) = 0x29B1#16 := by
  decide +kernel

/-- 11.7: ACCEPT to all, character by character, is judged valid and is the order ACCEPT. -/
theorem test_acceptFrame :
    frameChars 0x1E 0 8 [3#8] = [LineChar.markOf 1, .data 0x1E#8, .data 0#8, .data 8#8, .data 1#8, .data 3#8,
      .data 0x70#8, .data 0x0D#8, .markOf 2] ∧
    judgeFrame false false [0x1E#8, 0#8, 8#8, 1#8, 3#8, 0x70#8, 0x0D#8] = .valid 30 0 .order [3#8] ∧
    orderOfBody [3#8] = some .accept := by decide +kernel

/-- 1.11: the first worked reckoning. -/
theorem test_reckoning : (after .reckoning (running 21350)).srk.record =
    { h := 21350, liftsByHeight := 3, liftsByPressure := 3, gaugeUsed := 220, vRaw := 235776100, perMille := 768,
      stock := 24184, factor := 67220, status := .valid,
      substituted := { gauge := false, gasTemp := false, barometer := false } } := by decide +kernel

/-- The second worked reckoning of 1.11: the gauge INVALID, frost. -/
def frost : State :=
  let s := running 9000
  { s with ini := { s.ini with gauge := { valid 0 with status := .invalid }, gasTemp := valid (-35),
                               barometer := valid 10210 } }

theorem test_reckoningSubstituted : (after .reckoning frost).srk.record =
    { h := 9000, liftsByHeight := 1, liftsByPressure := 1, gaugeUsed := 140, vRaw := 91611000, perMille := 298,
      stock := 9941, factor := 71117, status := .doubtful,
      substituted := { gauge := true, gasTemp := false, barometer := false } } := by decide +kernel

/-- R14's table. -/
theorem test_vapour : [-35, 0, 85, 125, 399, 400, 450].map (vapourPressure .waterSealed) =
    [61, 61, 112, 147, 734, 738, 738] := by decide

/-- 4.5: the back-off delays of stations 3 and 7. -/
theorem test_backOff : backOffDelay 3 1 = 540 ∧ backOffDelay 7 1 = 780 := by decide

/-- 7.3: the governing step as rank 1 and as rank 2, and the truncation toward zero. -/
theorem test_governing : governedOpening 8 600 15 = 607 ∧ governedOpening 8 600 10 = 605 ∧
    governedOpening 8 600 (-15) = 593 ∧ governedOpening 8 600 1 = 600 ∧ governedOpening 8 20 (-300) = 0 := by decide

/-- 8.10: the own boundary close. -/
def closing : State :=
  let s := running 21350
  { s with
    ini := { s.ini with minute := 1319, inletCount := 3, outletCount := 37 },
    srk := { s.srk with record := { s.srk.record with stock := 21520, factor := 67220 } },
    acu := { s.acu with inletResidue := 12000, outletResidue := 40000,
                        period := { s.acu.period with number := some 52, openingStock := 24184, makeIn := 6280,
                                                      sendOut := 8572 } } }

/-- The station after that close. -/
def closed : State := after .minuteImpulse closing

theorem test_closeRecord :
    closed.acu.list.map AccountRecord.number = [52] ∧ closed.acu.list.map AccountRecord.unaccounted = [22] ∧
    closed.acu.list.map AccountRecord.makeIn = [6310] ∧ closed.acu.list.map AccountRecord.sendOut = [8952] ∧
    closed.acu.list.map AccountRecord.closingStock = [21520] ∧
    closed.acu.list.map (fun r => r.flags.balance) = [false] := by decide +kernel

theorem test_closeAfter : closed.acu.inletResidue = 62520 ∧ closed.acu.outletResidue = 7720 ∧
    closed.acu.period.number = some 53 ∧ closed.acu.period.openingStock = 21520 ∧ closed.rst.writing.isSome = true ∧
    closed.yli.queue.map Message.kind = [.account, .report] := by decide +kernel

/-- 11.6: a plug laid out by the table is taken, and one with a wrong check word is not. -/
theorem test_plug : plugTaken (some (plugChars holder)) = some holder ∧
    plugTaken (some (plugBody holder ++ [0#8, 0#8])) = none ∧ plugTaken (some (plugBody holder)) = none := by
  decide +kernel

/-- R183: the line test, at the first and the last station number. -/
theorem test_lineTest : lineTestPasses 1 none = true ∧ lineTestPasses 16 none = true ∧
    lineTestPasses 5 (some (testFrame 6)) = false := by decide +kernel

/-! ## The hypotheses of the statements are met: steps, starts and the store -/

theorem test_wit_StepRunsTheFrontCommand :
    ({ State.reset with pending := [.minuteImpulse] } : State).pending = .minuteImpulse :: [] := rfl

theorem test_wit_EmptyQueueStepPassesTime : State.reset.pending = [] ∧ State.reset.supply = true ∧
    (after .lossOfSupply State.reset).pending = [] ∧ (after .lossOfSupply State.reset).supply = false := by decide

/-- Without supply, for a command that is not POWER_ON. -/
theorem test_wit_EveryCommandAnswersNext :
    (after .lossOfSupply (running 21350)).supply = false ∧ ∀ r, Instr.reckoning ≠ .powerOn r :=
  ⟨by decide +kernel, fun _ => nofun⟩

theorem test_wit_PowerOnOnBadStraps : ({ goodReads 0 with plug := none } : StartReadings).straps = 0 ∧
    16 < (goodReads 17).straps := by decide

/-- Stations 1 and 16, the store as after manufacture; read back as written, and not. -/
theorem test_wit_PowerOnOnBadStore : 1 ≤ (goodReads 1).straps ∧ (goodReads 16).straps ≤ 16 ∧
    plugTaken (goodReads 1).plug = some holder ∧ lineTestPasses 1 (goodReads 1).loop = true ∧
    lineTestPasses 16 (goodReads 16).loop = true ∧ (tearWrite State.reset).rst.newestGood = none ∧
    (goodReads 1).clearing = .asWritten ∧
    ({ goodReads 16 with clearing := .differs none } : StartReadings).clearing = .differs none := by decide +kernel

/-- A store whose half B holds the newer copy. -/
def stored : State :=
  { State.reset with rst := { State.reset.rst with a := some (StoreHalf.make contents 65535),
                                                   b := some (StoreHalf.make contents 0), newest := .b } }

/-- The same with half A good alone. -/
def storedA : State := { stored with rst := { stored.rst with b := none } }

theorem test_wit_PowerOnTakesTheGoodStore :
    (tearWrite stored).rst.newestGood = some (.b, StoreHalf.make contents 0) ∧
    (tearWrite storedA).rst.newestGood = some (.a, StoreHalf.make contents 65535) ∧
    plugTaken (goodReads 16).plug = some holder ∧ lineTestPasses 16 (goodReads 16).loop = true := by decide +kernel

/-- That store, the end switches standing as given. -/
def storedWith (inlet outlet : Switches) : State :=
  { stored with ini := { stored.ini with inletSwitches := inlet, outletSwitches := outlet } }

/-- The drives by their switches: both of the inlet made and the outlet's open one, then the outlet's closed one and none. -/
theorem test_powerOnSwitches :
    let t := after (.powerOn (goodReads 5)) (storedWith ⟨true, true⟩ ⟨true, false⟩)
    let u := after (.powerOn (goodReads 5)) (storedWith ⟨false, false⟩ ⟨false, true⟩)
    (t.vdu.inlet.state, t.vdu.outlet.state, u.vdu.inlet.state, u.vdu.outlet.state) =
      (.fault, .isOpen, .closing, .isClosed) ∧
    t.oau = { current := 1#16, latched := 1#16 } ∧ u.oau = { current := 0#16, latched := 0#16 } ∧
    (tearWrite (storedWith ⟨true, true⟩ ⟨true, true⟩)).rst.newestGood = some (.b, StoreHalf.make contents 0) := by
  decide +kernel

/-- The plug with a wrong check word. -/
def badPlug : List Byte := plugBody holder ++ [0#8, 0#8]

/-- What START reads where the plug is bad, and where the line test fails. -/
def badReads (n : Nat) (plug : Option (List Byte)) (loop : Option (List LineChar)) : StartReadings :=
  { goodReads n with plug := plug, loop := loop }

theorem test_wit_BadPlugAndLine : badPlug.length = 165 ∧ (plugBody holder).length ≠ 165 ∧
    plugTaken (badReads 1 (some badPlug) none).plug = none ∧
    plugTaken (badReads 16 none none).plug = none ∧ (badReads 16 none none).straps ≤ 16 ∧
    lineTestPasses 1 (some (testFrame 2)) = false ∧ lineTestPasses 16 (some (testFrame 15)) = false := by
  decide +kernel

theorem test_wit_PassesR182 : passesR182 (plugChars holder) := by decide +kernel

theorem test_wit_FailsR182 : ¬ passesR182 badPlug := fun h => absurd h.1 (by decide +kernel)

theorem test_badPlugAndLine :
    (after (.powerOn (badReads 16 (some badPlug) none)) stored).plugSum = plugCheckWord (some badPlug) ∧
    (after (.powerOn (badReads 1 none none)) stored).plugSum = 0 ∧
    (after (.powerOn (goodReads 5)) stored).station = .start ∧
    (after (.powerOn (badReads 5 (goodReads 5).plug (some (testFrame 6)))) stored).station = .fault := by decide +kernel

/-- A half of the contents under a write count. -/
def halfAt (n : Nat) : StoreHalf := StoreHalf.make contents n

/-- A half whose check word is wrong. -/
def badHalf : StoreHalf := { halfAt 5 with checkWord := (halfAt 5).checkWord + 1#16 }

/-- A store of two halves. -/
def twoHalves (a b : Option StoreHalf) : Rst := { State.reset.rst with a := a, b := b }

/-- B ahead by 1 and by 32767, level, and by 32768; and one half good, or none. -/
theorem test_wit_NewestHalf :
    [1, 32767, 0, 32768].map (fun n => ((twoHalves (some (halfAt 65535)) (some (halfAt ((65535 + n) % 65536)))).newestGood.map
      Prod.fst)) = [some .b, some .b, some .a, some .a] ∧
    (halfAt 65535).checkWord = halfCheckWord (halfAt 65535).contents (halfAt 65535).writeCount ∧
    badHalf.checkWord ≠ halfCheckWord badHalf.contents badHalf.writeCount ∧
    (twoHalves (some (halfAt 3)) (some badHalf)).newestGood = some (.a, halfAt 3) ∧
    (twoHalves (some badHalf) (some (halfAt 3))).newestGood = some (.b, halfAt 3) ∧
    (twoHalves (some badHalf) none).newestGood = none := by decide +kernel

/-- A write in progress to half A. -/
def writeA : StoreWrite := { half := .a, image := StoreHalf.make contents 1 }

/-- A running station with that write in progress. -/
def writing : State := { running 21350 with rst := { State.reset.rst with writing := some writeA } }

/-- A running station, the button held. -/
def pressed : State :=
  let s := running 21350
  { s with ini := { s.ini with button := true, buttonHold := some 1 } }

theorem test_wit_RestartEntersStart :
    (running 21350).supply = true ∧ (running 21350).onLine = true ∧ (running 21350).rst.writing = none ∧
    pressed.supply = true ∧ pressed.ini.button = true ∧ pressed.ini.buttonHold.isSome = true ∧
    pressed.rst.writing = none ∧ writing.supply = true ∧ writing.onLine = true ∧
    writing.rst.writing = some writeA := by decide

/-- The button held during that write; the restart due, and the write due again, during it. -/
def pressedWriting : State := { pressed with rst := writing.rst }

/-- The restart is due. -/
def restarting : State := { writing with rst := { writing.rst with restartDue := true } }

/-- The write is due again. -/
def writingAgain : State := { writing with rst := { writing.rst with again := true } }

theorem test_wit_WriteInProgress : pressedWriting.supply = true ∧ pressedWriting.ini.button = true ∧
    pressedWriting.ini.buttonHold.isSome = true ∧ pressedWriting.rst.writing = some writeA ∧
    restarting.supply = true ∧ restarting.rst.writing = some writeA ∧ restarting.rst.restartDue = true ∧
    (restarting.rst.setHalf .a (some writeA.image)).newestGood.isSome = true ∧ writingAgain.working = true ∧
    writingAgain.rst.writing = some writeA ∧ writingAgain.rst.restartDue = false ∧ writingAgain.rst.again = true := by
  decide +kernel

theorem test_writeInProgress :
    (after (.acceptButtonHeld (goodReads 5)) pressedWriting).rst.restartDue = true ∧
    (after (.retainedWriteComplete .asWritten (goodReads 5)) restarting).startKind = .restart ∧
    (after (.retainedWriteComplete .asWritten (goodReads 5)) writingAgain).rst.writing.map StoreWrite.half = some .b := by
  decide +kernel

/-- A restart on a good store, and on one with no good half. -/
def restartable : State := { running 21350 with rst := stored.rst }

theorem test_restartTakesTheStore : restartable.rst.newestGood = some (.b, halfAt 0) ∧
    (after (.restart .own (goodReads 5)) restartable).ini.minute = 900 ∧
    (after (.restart .own (goodReads 5)) restartable).acu.period.number = some 41 ∧
    (after (.restart .own (goodReads 5)) (running 21350)).rst.a = some (StoreHalf.make clearedContents 1) ∧
    (running 21350).rst.newestGood = none ∧ (goodReads 5).clearing = .asWritten ∧
    (after (.restart .own (goodReads 5)) (running 21350)).isLatched .retainedLost = true := by decide +kernel

/-- START's steps done, the key not yet taken. -/
def awaiting : State := after (.powerOn (goodReads 5)) stored

/-- The same with seven entries in the continuing period, and the key taken in START. -/
def awaitingKeyed : State :=
  { awaiting with ini := { awaiting.ini with keyTaken := true, key := .handRest },
                  acu := { awaiting.acu with period := { awaiting.acu.period with
                    entries := List.replicate 7 { kind := .alone, minute := 3 } } } }

theorem test_wit_EntryToListen : awaiting.supply = true ∧ awaiting.station = .start ∧ awaiting.stepsDone = true ∧
    awaiting.ini.keyTaken = false ∧ awaiting.acu.period.entries.length < 8 ∧ awaitingKeyed.station = .start ∧
    awaitingKeyed.stepsDone = true ∧ awaitingKeyed.ini.keyTaken = true ∧
    awaitingKeyed.acu.period.entries.length = 7 ∧ awaiting.acu.openingDue = false ∧
    awaiting.rst.half awaiting.rst.newest = some (halfAt 0) := by decide +kernel

/-- The station in LISTEN. -/
def listening : State := after (.entryToListen (some .auto)) awaiting

theorem test_entryToListen : listening.station = .listen ∧ listening.listenTimer = some 60000 ∧
    listening.acu.period.entries.map EventEntry.kind = [.powerReturn, .stockInvalid] ∧
    listening.isCurrent .stockInvalid = true ∧ listening.ini.key = .auto := by decide +kernel

/-- R88: the report timer at I where the first reckoning newly latches a kind, and at N × 1 s where it does not. -/
theorem test_firstReport : listening.yli.reportTimer = some 30000 ∧ listening.isLatched .stockInvalid = true ∧
    awaiting.isLatched .stockInvalid = false ∧
    (after (.entryToListen none) (after (.inputSample .crown 21350) awaiting)).yli.reportTimer = some 5000 ∧
    (after (.entryToListen none) (after (.inputSample .crown 21350) awaiting)).oau.latched = awaiting.oau.latched := by
  decide +kernel

/-- Before LISTEN, the counters as full as they get and an impulse after START. -/
def pulsed : State :=
  { awaiting with ini := { awaiting.ini with inletCount := 65535, outletCount := 65535, minute := 901 } }

/-- Gas moved in START reaches no figure, and the start's entry has the store's minute. -/
theorem test_startPulses : (after (.entryToListen (some .auto)) pulsed).acu.period.makeIn = 0 ∧
    (after (.entryToListen (some .auto)) pulsed).acu.outletResidue = 0 ∧
    ((after (.entryToListen (some .auto)) pulsed).acu.period.entries.map EventEntry.minute) = [900, 901] := by
  decide +kernel

/-- A first record on an INVALID height begins no cycle. -/
theorem test_firstRecordInvalid : listening.srk.record.status = .invalid ∧ listening.srk.record.perMille = 0 ∧
    listening.mvc.lowSeen = false ∧ (after .reckoning (running 0)).mvc.lowSeen = true := by decide +kernel

/-- A cleared store: the opening stock is the first record's. -/
def clearedStart : State := after (.powerOn (goodReads 5)) State.reset

theorem test_clearedStart : clearedStart.acu.openingDue = true ∧ clearedStart.station = .start ∧
    clearedStart.stepsDone = true ∧ clearedStart.supply = true ∧ clearedStart.acu.period.entries.length < 8 ∧
    (after (.entryToListen none) (after (.inputSample .crown 21350) clearedStart)).acu.period.openingStatus =
      .doubtful := by decide +kernel

/-- Impulses come after the store check: the start's entry carries the minute as it stands when START cleared the store
(R157), and the minute from the store when it found it good (R170). -/
theorem test_startEntryMinute :
    (after (.entryToListen none) (after .minuteImpulse clearedStart)).acu.period.entries.head? =
      some { kind := .powerReturn, minute := 1 } ∧
    (after (.entryToListen none) (after .synchronisingImpulse clearedStart)).acu.period.entries.head? =
      some { kind := .powerReturn, minute := 360 } ∧
    (after (.entryToListen none) (after .minuteImpulse awaiting)).acu.period.entries.head? =
      some { kind := .powerReturn, minute := 900 } := by decide +kernel

/-- A hand order held in LISTEN with the key at AUTO, and at HAND REST. -/
theorem test_handOrderInListen :
    (after .listenTimerExpiry (after (.hand .own .take) listening)).ysu.effective = true ∧
    (after .listenTimerExpiry
      (after (.hand .own .take) (after (.inputSample .crown 9000) listening))).ysu.take.held = some .hand ∧
    (after .listenTimerExpiry (after (.hand .own .take)
      (after (.keyPositionTaken .handRest) listening))).ysu.take.held = none ∧
    (after (.auto .own) listening).ysu.take.dwell = some 300000 := by decide +kernel

theorem test_wit_ListenExpiry : listening.supply = true ∧ listening.station = .listen ∧
    listening.listenTimer.isSome = true ∧ listening.ysu.order = .auto := by decide +kernel

theorem test_listenExpiry : (after .listenTimerExpiry listening).station = .run ∧
    (after .listenTimerExpiry listening).ysu.take.dwell = some 300000 ∧
    (after .listenTimerExpiry listening).pgv.mode = .ramping := by decide +kernel

theorem test_wit_WriteKeepsOneCopy : writing.supply = true ∧ writing.rst.writing = some writeA ∧
    writing.rst.restartDue = false ∧ writing.rst.again = false ∧ writeA ∈ writing.rst.writing := by decide

/-- A loss of supply with no write in progress. -/
theorem test_lossWithoutWrite : stored.rst.writing = none ∧ (after .lossOfSupply stored).rst = stored.rst ∧
    (after .lossOfSupply stored).supply = false := by decide +kernel

theorem test_wit_FailedWriteEntersFault : writing.supply = true ∧ writing.rst.writing = some writeA ∧
    writing.rst.restartDue = false ∧ alarmLaw writing := by decide

theorem test_failedWrite :
    (after (.retainedWriteComplete (.differs none) (goodReads 5)) writing).station = .fault ∧
    (after (.retainedWriteComplete (.differs none) (goodReads 5)) writing).rst.a = none := by decide +kernel

/-! ## The reckoning -/

/-- A giver in RUN and in TAKE too. -/
def floating : State :=
  let s := running 21350
  { s with ysu := { s.ysu with take := { s.ysu.take with held := some .automatic },
                               give := { s.ysu.give with held := some .automatic } } }

theorem test_wit_Reckoning : (running 21350).supply = true ∧ (running 21350).working = true ∧
    (running 21350).srk.timer.isSome = true ∧ floating.srk.timer.isSome = true ∧ floating.working = true := by decide

/-- Ten seconds of FLOAT. -/
theorem test_dutySeconds : (after .reckoning floating).acu.period.secFloat = 10 ∧
    (after .reckoning (running 21350)).acu.period.secRest = 10 := by decide +kernel

/-- A cycle: the per-mille at 750 or above with the low seen. -/
def cycling : State := { running 21350 with mvc := { (running 21350).mvc with lowSeen := true } }

theorem test_cycle : 750 ≤ (reckonedRecord cycling).perMille ∧ cycling.mvc.lowSeen = true ∧
    (after .reckoning cycling).mvc.cycles = 1 := by decide +kernel

/-- The crown height INVALID: the stock is not trusted. -/
def lostCrown : State := { running 21350 with ini := { (running 21350).ini with crown := .cleared } }

/-- Lifts that disagree, after a run of such reckonings; and lifts that agree, LIFT MISMATCH current, after a run. -/
def disagreeing (run : Nat) : State := { running 5000 with mvc := { (running 5000).mvc with mismatchRun := run } }

/-- LIFT MISMATCH current (bit 3). -/
def agreeing (run : Nat) : State :=
  { running 21350 with mvc := { (running 21350).mvc with matchRun := run },
                       oau := { current := 0x0008#16, latched := 0x0008#16 } }

theorem test_wit_LiftCheck : (reckonedRecord (disagreeing 2)).status.trusted = true ∧
    (disagreeing 2).cfg.cls = .waterSealed ∧
    (reckonedRecord (disagreeing 2)).liftsByHeight ≠ (reckonedRecord (disagreeing 2)).liftsByPressure ∧
    inCupBand holder.lifts (reckonedRecord (disagreeing 2)).h = false ∧ (agreeing 2).isCurrent .liftMismatch = true ∧
    (reckonedRecord (agreeing 2)).liftsByHeight = (reckonedRecord (agreeing 2)).liftsByPressure ∧
    ¬ (reckonedRecord lostCrown).status.trusted = true ∧ [8849, 8850, 9150, 9151].map (inCupBand holder.lifts) =
      [false, true, true, false] := by decide +kernel

theorem test_liftCheck : [1, 2].map (fun n => (after .reckoning (disagreeing n)).isCurrent .liftMismatch) = [false, true] ∧
    [1, 2].map (fun n => (after .reckoning (agreeing n)).isCurrent .liftMismatch) = [true, false] ∧
    (after .reckoning (agreeing 2)).srk.record.status = .valid ∧
    (after .reckoning (disagreeing 2)).acu.period.entries.map EventEntry.kind = [.liftMismatch] := by decide +kernel

/-- Both valves closed, a still-loss and a meter-silent window at their counts, the stock lower than at their start. -/
def windowed (loss silent : Nat) : State :=
  { running 21350 with
    mvc := { (running 21350).mvc with window := some { startStock := 25000, count := loss } },
    acu := { (running 21350).acu with silentWindow := some { startStock := 25000, count := silent, pulses := 0 } } }

theorem test_wit_Windows : (windowed 359 59).vdu.inlet.state = .isClosed ∧ (windowed 359 59).vdu.outlet.state = .isClosed ∧
    (reckonedRecord (windowed 359 59)).status.trusted = true ∧ (windowed 358 58).mvc.window.isSome = true ∧
    (windowed 358 58).acu.silentWindow.isSome = true ∧ (running 21350).mvc.window = none ∧
    (running 21350).acu.silentWindow = none ∧ (after .reckoning (windowed 0 0)).vdu.inlet.state = .isClosed := by
  decide +kernel

theorem test_windows : (after .reckoning (windowed 358 58)).isCurrent .stillLoss = false ∧
    (after .reckoning (windowed 358 58)).isCurrent .meterSilent = false ∧
    (after .reckoning (windowed 359 59)).isCurrent .stillLoss = true ∧
    (after .reckoning (windowed 359 59)).isCurrent .meterSilent = true ∧
    (after .reckoning (windowed 359 59)).acu.period.entries.map EventEntry.kind = [.meterSilent, .stillLoss] := by
  decide +kernel

/-- The outlet open on arrival in LANDED. -/
def landing : State := { running 300 with vdu := { (running 300).vdu with outlet := { closedDrive with
  state := .isOpen, command := .toOpen } } }

theorem test_wit_Landing : landing.mvc.zone ≠ .landed ∧ landing.vdu.outlet.state = .isOpen ∧
    (after .reckoning landing).mvc.zone = .landed ∧ (after .reckoning landing).isCurrent .limitGuard = true ∧
    landing.acu.period.entries.length ≤ 3 := by decide +kernel

/-- At rest with the sub-count at 4 and at 5, a minute short of the stagnation limit. -/
def resting (sub : Nat) : State :=
  { running 21350 with mvc := { (running 21350).mvc with restSub := sub, restTime := 1439 } }

theorem test_rest : [4, 5].map (fun n => (after .reckoning (resting n)).mvc.restTime) = [1439, 1440] ∧
    [4, 5].map (fun n => (after .reckoning (resting n)).mvc.turnoverDue) = [false, true] ∧
    (resting 5).holdsTake = false ∧ (resting 5).holdsGive = false ∧ (resting 5).station = .run ∧
    (after .reckoning (running 26200)).holdsGive = true ∧ (after .reckoning (running 26200)).mvc.restSub = 0 := by
  decide +kernel

/-- A waterless holder of one lift. -/
def oneLift : Settings :=
  { holder with cls := .waterless, lifts := [{ area := 10179, travel := 27000, bandLow := 120, bandHigh := 160 }] }

theorem test_wit_LiftsByHeight :
    (after .reckoning (running 0)).srk.record.h = 0 ∧ (after .reckoning (running 9000)).srk.record.h = 9000 ∧
    (after .reckoning (running 9001)).srk.record.h = 9001 ∧
    (after .reckoning (running 9001)).srk.record.liftsByHeight = 2 ∧
    (after .reckoning { running 1 with plug := some oneLift }).srk.record.h = 1 := by decide +kernel

theorem test_wit_PerMille : (running 27000).cfg.valid = true ∧ (running 27000).srk.record.h ≤ totalTravel holder.lifts ∧
    (after .reckoning (running 27000)).srk.record.perMille = 1000 ∧
    (after .reckoning (running 1)).srk.record.vRaw * 1000 < fullVolume holder.lifts ∧
    (after .reckoning (running 0)).srk.record.h = 0 := by decide +kernel

/-- n_p at the edges of the bands of the three lifts. -/
theorem test_liftsByPressure :
    [119, 120, 160, 161, 170, 210, 214, 215, 255, 256].map (fun (g : Int) =>
      let s := running 21350
      (after .reckoning { s with ini := { s.ini with gauge := valid g } }).srk.record.liftsByPressure) =
      [0, 1, 1, 0, 2, 2, 0, 3, 3, 0] := by decide +kernel

/-- The three-lift holder's inner lift as a WATERLESS holder, at a height. -/
def waterless (h : Int) : State :=
  { running h with plug := some { holder with cls := .waterless, lifts := holder.lifts.take 1 } }

/-- n_p of a WATERLESS holder, at h = 0 and above: by band 1 on a Pg read (R19), n_h on a substituted one (at 0: log 42). -/
theorem test_liftsByPressureWaterless :
    [0, 1].map (fun (h : Int) => [some 119, some 120, some 160, some 161, none].map (fun (g : Option Int) =>
      let s := waterless h
      let gauge := match g with
        | some x => valid x
        | none => InputRecord.cleared
      (after .reckoning { s with ini := { s.ini with gauge := gauge } }).srk.record.liftsByPressure)) =
      [[0, 1, 1, 0, 0], [0, 1, 1, 0, 1]] := by decide +kernel

theorem test_wit_PressureAndTemperature : inputLaw (running 21350) ∧ (running 21350).cfg.valid = true ∧
    (after .reckoning (running 0)).srk.record.vRaw = 0 := by decide +kernel

/-- The three substituted inputs INVALID, and then HELD. -/
def blind : State :=
  let s := running 9001
  { s with ini := { s.ini with gauge := .cleared, gasTemp := .cleared, barometer := .cleared } }

/-- The three inputs HELD. -/
def heldInputs : State :=
  let s := running 9001
  { s with ini := { s.ini with gauge := held 200, gasTemp := held (-200), barometer := held 10800 } }

theorem test_wit_Substitutes : blind.ini.gauge.value = none ∧ blind.ini.gasTemp.value = none ∧
    blind.ini.barometer.value = none ∧ heldInputs.ini.gauge.value = some 200 ∧
    heldInputs.ini.gasTemp.value = some (-200) ∧ heldInputs.ini.barometer.value = some 10800 ∧
    blind.srk.timer.isSome = true ∧ heldInputs.working = true := by decide

theorem test_substitutes : (after .reckoning blind).srk.record.gaugeUsed = 190 ∧
    (after .reckoning heldInputs).srk.record.gaugeUsed = 200 ∧
    (after .reckoning heldInputs).srk.record.status = .valid := by decide +kernel

/-! ## Instruments and clock -/

theorem test_wit_Sample : InputId.crown.inRange 65000 = true ∧ InputId.crown.inRange 65001 = false ∧
    InputId.gasTemp.inRange (-200) = true ∧ InputId.gasTemp.inRange (-201) = false ∧
    (State.reset.ini.input .crown).sampled = false ∧ ((running 5).ini.input .crown).status = .valid ∧
    (heldInputs.ini.input .gauge).status ≠ .valid ∧ (heldInputs.ini.input .gauge).sampled = true := by decide

/-- 1.12: at 4 s the crown height leaves its range and the stock is HELD, at 64 s INVALID, at 127 s back. -/
def lost4 : State := after (.inputSample .crown 65001) (running 21350)

/-- The hold timer has expired. -/
def lost64 : State := after (.holdTimerExpiry .crown) lost4

theorem test_transducerLost : lost4.srk.record.status = .held ∧ lost64.srk.record.status = .invalid ∧
    lost64.isCurrent .stockInvalid = true ∧ (after (.inputSample .crown 21338) lost64).srk.record.status = .valid ∧
    lost64.acu.period.entries.map EventEntry.kind = [.stockHeld, .stockInvalid] := by decide +kernel

theorem test_wit_HoldExpiry : (lost4.ini.input .crown).status = .held ∧ (lost4.ini.input .crown).hold.isSome = true ∧
    lost4.supply = true ∧ lost4.working = true ∧ lost4.srk.graded = true ∧
    (heldInputs.ini.input .gauge).status = .held ∧ (heldInputs.ini.input .gauge).hold.isSome = true := by decide +kernel

/-- A pulse at the top of the counter, before and after the plug is in use. -/
theorem test_meterPulse : (after (.meterPulse .inlet) State.reset).ini.inletCount = 0 ∧
    (after (.meterPulse .outlet) (running 5)).ini.outletCount = 1 := by decide +kernel

/-- The absorb window is open, at the last minute of the day. -/
def absorbing : State := { running 5 with ini := { (running 5).ini with absorb := some 1, minute := 1439, selfRun := 2 } }

theorem test_wit_MinuteImpulse : (running 5).ini.impulse.isSome = true ∧ (running 5).ini.absorb = none ∧
    absorbing.ini.impulse.isSome = true ∧ absorbing.ini.absorb.isSome = true := by decide

theorem test_minuteImpulse : (after .minuteImpulse (running 5)).ini.minute = 601 ∧
    (after .minuteImpulse absorbing).ini.minute = 1439 := by decide +kernel

theorem test_selfCount : (after .impulseTimerExpiry absorbing).ini.minute = 0 ∧
    (after .impulseTimerExpiry absorbing).ini.selfRun = 3 ∧
    (after .impulseTimerExpiry absorbing).isCurrent .clockLost = true ∧
    (after .impulseTimerExpiry (running 5)).ini.selfRun = 1 ∧
    (after .absorbWindowExpiry absorbing).ini.absorb = none := by decide +kernel

/-- The station at a minute of day. -/
def atMinute (m : Nat) : State := { running 21350 with ini := { (running 21350).ini with minute := m } }

/-- At minute 350, with no boundary at 360. -/
def lateBoundaries : State := { atMinute 350 with plug := some { holder with boundaries := [840, 1320] } }

theorem test_wit_Synchronising : (atMinute 360).ini.impulse.isSome = true ∧ minutesTo 360 360 = 0 ∧
    720 < minutesTo 360 1079 ∧ minutesTo 360 1080 = 720 ∧
    (∀ b ∈ lateBoundaries.cfg.boundaries,
      b ∉ minutesPassed lateBoundaries.ini.minute (minutesTo 360 lateBoundaries.ini.minute)) := by decide +kernel

/-- The boundary at 360 is reached from 350, and not from 361. -/
theorem test_synchronising : (after .synchronisingImpulse (atMinute 350)).acu.list.length = 1 ∧
    (after .synchronisingImpulse (atMinute 361)).acu.list.length = 0 ∧
    (after .synchronisingImpulse (atMinute 361)).ini.minute = 360 := by decide +kernel

theorem test_wit_BoundaryStep : closing.supply = true ∧ closing.working = true ∧ closing.ini.impulse.isSome = true ∧
    closing.ini.absorb = none ∧ closing.acu.period.number = some 52 ∧ closing.acu.served = none ∧
    (closing.ini.minute + 1) % 1440 ∈ closing.cfg.boundaries ∧ closing.srk.record.status.trusted = true := by decide

/-- The close of 8.10 with the boundary served, on a stock that is not trusted, and counted by the station itself. -/
def servedClose : State := { closing with acu := { closing.acu with served := some 1320 } }

/-- HELD stock, with and without a last good stock. -/
def heldClose (good : Option GoodStock) : State :=
  { closing with srk := { closing.srk with record := { closing.srk.record with status := .held } },
                 acu := { closing.acu with lastGood := good } }

/-- The third minute in a row of the station's own count. -/
def selfClose : State := { closing with ini := { closing.ini with selfRun := 2 } }

theorem test_wit_Closes : servedClose.acu.served = some ((servedClose.ini.minute + 1) % 1440) ∧
    (heldClose none).srk.record.status.trusted = false ∧ selfClose.ini.impulse.isSome = true ∧
    2 ≤ selfClose.ini.selfRun ∧ selfClose.isCurrent .clockLost = false ∧ (atMinute 350).acu.period.number = some 41 ∧
    (360 + 1440 - (atMinute 350).ini.minute % 1440) % 1440 = 10 ∧
    (360 + 1440 - (atMinute 1080).ini.minute % 1440) % 1440 = 720 ∧
    720 < (360 + 1440 - (atMinute 361).ini.minute % 1440) % 1440 ∧ 1320 ∈ (atMinute 1080).cfg.boundaries ∧
    360 = ((atMinute 350).ini.minute + 1 + 9) % 1440 := by decide

theorem test_closes : (after .minuteImpulse servedClose).acu.list = [] ∧
    (after .minuteImpulse servedClose).acu.served = none ∧
    (after .minuteImpulse (heldClose none)).acu.list.map (fun r => (r.closingStock, r.flags.stockDoubtful)) =
      [(24184, true)] ∧
    (after .minuteImpulse (heldClose (some { stock := 77, status := .doubtful }))).acu.list.map
      AccountRecord.closingStock = [77] ∧
    (after .impulseTimerExpiry selfClose).acu.list.map AccountRecord.number = [52] ∧
    (after .impulseTimerExpiry selfClose).acu.period.entries = [{ kind := .clockLost, minute := 1320 }] ∧
    (after .synchronisingImpulse (atMinute 1080)).acu.list.length = 1 := by decide +kernel

/-- A jump over a served boundary alone, and a jump back that leaves one far off. -/
def servedJump : State := { atMinute 350 with acu := { (atMinute 350).acu with served := some 360 } }

theorem test_servedJump : (after .synchronisingImpulse servedJump).acu.list = [] ∧
    (after .synchronisingImpulse servedJump).acu.served = none ∧
    (after .synchronisingImpulse { servedJump with ini := (atMinute 375).ini }).acu.served = some 360 := by decide +kernel

/-! ## Key, button and valves -/

theorem test_wit_KeyChange : (running 5).ini.keyTaken = true ∧ KeyPosition.handRest ≠ (running 5).ini.key ∧
    KeyPosition.outOfService ≠ (running 5).ini.key ∧ (after (.keyPositionTaken .handRest) (running 5)).ini.key ≠ .auto ∧
    (after (.hand .own .take) (running 5)).ysu.order ≠ .auto ∧ (running 5).working = true := by decide +kernel

theorem test_keyChange : (after (.keyPositionTaken .outOfService) floating).holdsGive = false ∧
    (after (.keyPositionTaken .outOfService) floating).vdu.outlet.command = .none ∧
    (after (.keyPositionTaken .outOfService) floating).pgv.mode = .released := by decide +kernel

/-- Two kinds latched, one of them current. -/
def alarmed : State := { running 21350 with oau := { current := 0x0100#16, latched := 0x0101#16 } }

theorem test_wit_Accept : alarmed.supply = true ∧ alarmed.working = true ∧ alarmed.ini.button = false := by decide

theorem test_accept : (after (.accept .all) alarmed).oau.latched = 0x0100#16 ∧
    (after .acceptButtonPress alarmed).oau.latched = 0x0100#16 ∧
    (after .acceptButtonPress alarmed).ini.buttonHold = some 10000 := by decide +kernel

/-- The outlet open by one of its switches, and driven closed. -/
def openOutlet (c : DriveCommand) : State :=
  let s := running 21350
  { s with ini := { s.ini with outletSwitches := { openMade := true, closedMade := false } },
           vdu := { s.vdu with outlet := { state := .isOpen, command := c, output := .notDriven, travel := none,
                                           retry := 0 } } }

/-- A closing outlet at some retry count, its open switch still made. -/
def closingOutlet (retry : Nat) : State :=
  let s := openOutlet .toClose
  { s with vdu := { s.vdu with outlet := { state := .closing, command := .toClose, output := .towardClosed,
                                           travel := some 1, retry := retry } } }

theorem test_wit_BothSwitches :
    ((openOutlet .none).ini.switches .outlet).made .closedEnd = false ∧
    (((openOutlet .none).ini.switches .outlet).change .closedEnd true).openMade = true ∧
    (((openOutlet .none).ini.switches .outlet).change .closedEnd true).closedMade = true ∧
    ((openOutlet .none).vdu.drive .outlet).state ≠ .fault ∧ alarmLaw (openOutlet .none) := by decide

theorem test_bothSwitches :
    ((after (.endSwitchChange .outlet .closedEnd true) (openOutlet .none)).vdu.drive .outlet).state = .fault := by
  decide +kernel

/-- In operation and not, from each state of the table of R43. -/
theorem test_wit_DriveTakes : ((closingOutlet 0).vdu.drive .outlet).inOperation = true ∧
    (Drive.cleared).inOperation = false ∧ (Drive.cleared).state = .closing := by decide

/-- An event of RUN that derives other commands drives both valves. -/
theorem test_commandsDrive : let t := after .reckoning floating
    t.working = true ∧ t.vdu.inlet = Drive.take floating.travelMs .toOpen floating.vdu.inlet ∧
    floating.vdu.inlet.command ≠ .toOpen ∧ t.vdu.inlet.output = .towardOpen ∧
    t.vdu.outlet = Drive.take floating.travelMs .toOpen floating.vdu.outlet := by decide +kernel

/-- A released station in LISTEN whose outlet's closed switch drops. -/
def releasedOutlet : State :=
  { listening with
    ini := { listening.ini with outletSwitches := { openMade := false, closedMade := true } },
    vdu := { listening.vdu with outlet := { closedDrive with command := .none } } }

theorem test_wit_DriveFollows : ((closingOutlet 0).ini.switches .outlet).made .openEnd ≠ false ∧
    (releasedOutlet.ini.switches .outlet).made .closedEnd ≠ false ∧ releasedOutlet.station ≠ .run ∧
    (releasedOutlet.vdu.drive .outlet).command = .none := by decide +kernel

/-- Released drives in motion, and drives in FAULT, at one switch. -/
theorem test_driveAtItsSwitch :
    Drive.cleared.output = .notDriven ∧ Drive.cleared.command = .none ∧
    (Drive.switched 90000 { openMade := false, closedMade := true } Drive.cleared).state = .isClosed ∧
    (Drive.switched 90000 { openMade := true, closedMade := false } Drive.cleared).state = .isOpen ∧
    (Drive.switched 90000 { openMade := false, closedMade := true }
      { closedDrive with state := .fault, command := .toOpen }).state = .opening := by decide

/-- The outlet leaves OPEN, and the closing outlet comes to CLOSED. -/
theorem test_wit_DriveLeaves : (openOutlet .none).vdu.outlet.state = .isOpen ∧
    (after (.endSwitchChange .outlet .openEnd false) (openOutlet .none)).vdu.outlet.state ≠ .isOpen ∧
    (releasedOutlet.vdu.drive .outlet).state = .isClosed ∧
    (after (.endSwitchChange .outlet .closedEnd true)
      (after (.endSwitchChange .outlet .openEnd false) (closingOutlet 0))).vdu.outlet.state = .isClosed := by decide +kernel

theorem test_driveFollows :
    ((after (.endSwitchChange .outlet .closedEnd false) releasedOutlet).vdu.drive .outlet).state = .opening ∧
    ((after (.endSwitchChange .outlet .closedEnd false) releasedOutlet).vdu.drive .outlet).output = .notDriven := by
  decide +kernel

theorem test_wit_TravelExpiry : ((closingOutlet 1).vdu.drive .outlet).inOperation = true ∧
    ((closingOutlet 2).vdu.drive .outlet).inOperation = true ∧ ((closingOutlet 1).vdu.drive .outlet).retry < 2 ∧
    2 ≤ ((closingOutlet 2).vdu.drive .outlet).retry := by decide

theorem test_travelExpiry : ((after (.travelTimerExpiry .outlet) (closingOutlet 1)).vdu.drive .outlet).retry = 2 ∧
    ((after (.travelTimerExpiry .outlet) (closingOutlet 2)).vdu.drive .outlet).state = .fault ∧
    (after (.travelTimerExpiry .outlet) (closingOutlet 2)).isCurrent .outletValveFault = true := by decide +kernel

/-! ## The yard line -/

/-- An ACCOUNT and a REPORT. -/
def account : Message := { kind := .account, body := accountAbsentBody 7 }

/-- A REPORT with an empty body. -/
def report : Message := { kind := .report, body := [] }

/-- A running station with a queue and a transmitter state. -/
def queued (q : List Message) (tx : TxState) : State :=
  { running 21350 with yli := { (running 21350).yli with queue := q, tx := tx } }

/-- A running station sending, with an attempt count. -/
def sending (m : Message) (q : List Message) (attempt : Nat) (discard : Bool) : State :=
  let s := queued q .sending
  { s with yli := { s.yli with inFlight := some { msg := m, discard := discard }, attempt := attempt } }

theorem test_wit_CarrierAndIdle : (queued [report] .waiting).yli.tx = .waiting ∧
    (queued [report] .waiting).yli.queue ≠ [] ∧ (sending report [] 0 false).yli.tx = .sending ∧
    (running 5).onLine = true := by decide

theorem test_lineIdle : (after (.lineIdle true) (queued [report] .waiting)).yli.tx = .sending ∧
    (after (.lineIdle true) (queued [report] .waiting)).yli.counters.badFrame = 1 ∧
    (after .carrierOnLine (after (.lineIdle false) (running 5))).yli.line = .busy := by decide +kernel

theorem test_wit_Completion : (sending report [account] 0 false).yli.inFlight = some { msg := report, discard := false } ∧
    (sending report [account] 0 false).yli.line = .busy ∧ (sending report [account] 0 false).yli.reportDue = false ∧
    (sending report [account] 0 false).yli.quiet = false ∧ (sending report [] 0 false).yli.queue = [] := by decide

theorem test_completion : (after .frameCompletion (sending report [account] 3 false)).yli.tx = .waiting ∧
    (after .frameCompletion (sending report [] 3 false)).yli.tx = .standby := by decide +kernel

theorem test_wit_Collision : (sending report [] 6 false).yli.attempt + 1 < 8 ∧ 8 ≤ (sending report [] 7 false).yli.attempt + 1 ∧
    (sending report [account, report] 6 false).yli.reportQueued = true ∧
    (sending account [report] 6 true).yli.inFlight = some { msg := account, discard := true } := by decide

theorem test_collision : (after .collision (sending account [report] 6 false)).yli.backOff = some 540 ∧
    (after .collision (sending report [account, report] 0 false)).yli.queue = [report, account] ∧
    (after .collision (sending account [] 7 false)).yli.counters.dropped = 1 ∧
    (after .collision (sending account [] 6 true)).yli.tx = .standby := by decide +kernel

/-- In back-off. -/
def backing : State :=
  let s := queued [report] .backOff
  { s with yli := { s.yli with backOff := some 0 } }

/-- Waiting, the blocked timer running. -/
def waiting : State :=
  let s := queued [report] .waiting
  { s with yli := { s.yli with blocked := some 0 } }

theorem test_wit_BackOffAndBlocked : backing.yli.tx = .backOff ∧ backing.yli.backOff.isSome = true ∧
    backing.yli.line = .busy ∧ backing.yli.reportDue = false ∧ backing.yli.queue ≠ [] ∧ backing.yli.quiet = false ∧
    waiting.yli.tx = .waiting ∧ waiting.yli.blocked.isSome = true ∧ waiting.yli.line = .busy := by decide

theorem test_blocked : (after .blockedTimerExpiry waiting).isCurrent .txBlocked = true ∧
    (after .backOffTimerExpiry backing).yli.tx = .waiting := by decide +kernel

/-- An idle line: in back-off, and standing by. -/
def idleLine (s : State) : State := { s with yli := { s.yli with line := .idle } }

theorem test_wit_IdleLine : (idleLine backing).yli.line = .idle ∧ (idleLine (running 5)).yli.tx = .standby ∧
    (idleLine (running 5)).yli.quiet = false ∧ (idleLine (running 5)).yli.queue = [] ∧ nothingBegins (running 5) ∧
    nothingBegins (idleLine (after (.quiet .own) (running 5))) := by decide +kernel

theorem test_idleLine : (after .backOffTimerExpiry (idleLine backing)).yli.tx = .sending ∧
    (after .reportTimerExpiry (idleLine (running 5))).yli.tx = .sending ∧
    (after (.statusRequest .own) (idleLine (running 5))).yli.tx = .sending := by decide +kernel

theorem test_wit_ReportTimer : (running 5).yli.reportTimer.isSome = true ∧ (running 5).yli.line = .busy ∧
    (running 5).yli.reportQueued = false ∧ (queued [report] .waiting).yli.reportQueued = true := by decide

theorem test_reportTimer : ((after .reportTimerExpiry (running 5)).yli.queue.map (fun m => m.body.length)) = [24] := by
  decide +kernel

/-- Every length of R187's table, at its edges. -/
theorem test_wit_FrameBuilt : lengthAllowed false .report 24 = true ∧ lengthAllowed false .account 3 = true ∧
    lengthAllowed false .account 39 = true ∧ lengthAllowed false .account 63 = true ∧
    lengthAllowed false .status 33 = true ∧ lengthAllowed false .order 1 = true ∧
    lengthAllowed false .order 3 = true ∧ lengthAllowed false .order 4 = false := by decide

/-- The characters of a frame after its OPEN. -/
def spoken (source destination : Nat) (k : MessageKind) (body : List Byte) : List LineChar :=
  (frameChars source destination k.code body).tail

/-- A STATUS REQUEST to station 5, cut at its end by a mark, unended, and with one bit of its body turned. -/
def request : List LineChar := spoken 30 5 .order [9#8]

/-- The same with the body's character turned. -/
def turned : List LineChar := request.map (fun c => if c.value = 9#8 then { c with value := 8#8 } else c)

theorem test_wit_EndedFrames : (running 5).onLine = true ∧ (running 5).yli.tx ≠ .sending ∧
    (gather (request.dropLast ++ [LineChar.markOf 3])).2.2 = some .abort ∧
    (gather (request.dropLast ++ [LineChar.markOf 1])).2.2 = some .opened ∧ (gather request.dropLast).2.2 = none ∧
    judgeFrame false (gather (request.drop 1)).2.1 (gather (request.drop 1)).1 = .badFrame ∧
    judgeFrame false (gather turned).2.1 (gather turned).1 = .checkFail := by decide +kernel

theorem test_endedFrames :
    (after (.frameReceived turned (goodReads 5)) (running 5)).yli.counters = { LineCounters.zero with checkFail := 1 } ∧
    (after (.frameReceived (request.drop 1) (goodReads 5)) (running 5)).yli.counters =
      { LineCounters.zero with badFrame := 1 } := by decide +kernel

/-- A wrong order code from the office. -/
def noOrder : List LineChar := spoken 30 0 .order [10#8]

theorem test_wit_OrderFrame : gather request = ((gather request).1, false, some .close) ∧
    judgeFrame false false (gather request).1 = .valid 30 5 .order [9#8] ∧ acceptedAs (running 5) 5 = some .own ∧
    orderOfBody [9#8] = some .statusRequest ∧ judgeFrame false false (gather noOrder).1 = .valid 30 0 .order [10#8] ∧
    acceptedAs (running 5) 0 = some .all ∧ orderOfBody [10#8] = none ∧ (running 5).isCurrent .alone = false := by
  decide +kernel

theorem test_orderFrame :
    (after (.frameReceived request (goodReads 5)) (running 5)).yli.queue.map Message.kind = [.status] ∧
    (after (.frameReceived noOrder (goodReads 5)) (running 5)).yli.counters.ordersRefused = 1 := by decide +kernel

/-- What a frame from a source does to FOREIGN SOURCE and ORDERS REFUSED. -/
def countsOf (source destination : Nat) (k : MessageKind) (body : List Byte) (s : State) : Nat × Nat :=
  let t := after (.frameReceived (spoken source destination k body) (goodReads 5)) s
  (t.yli.counters.foreignSource, t.yli.counters.ordersRefused)

/-- R78's rows at the edges of its sources: left there, refused, foreign. -/
theorem test_routing :
    [0, 1, 16, 17, 29, 31, 255].map (fun n => countsOf n 5 .order [9#8] (running 5)) =
      [(1, 0), (0, 1), (0, 1), (1, 0), (1, 0), (1, 0), (1, 0)] ∧
    [1, 30].map (fun n => countsOf n 0 .account (accountAbsentBody 7) (running 5)) = [(0, 0), (0, 0)] ∧
    countsOf 17 6 .order [9#8] (running 5) = (0, 0) ∧
    judgeFrame false false (gather (spoken 17 6 .order [9#8])).1 = .valid 17 6 .order [9#8] ∧
    lineLaw (running 5) ∧ nothingBegins (running 5) := by decide +kernel

/-! ## The peer table -/

/-- The REPORT of a station that gives, in period 41, at 600 per mille. -/
def peerBody : List Byte :=
  toChars 2 41 ++ toChars 2 600 ++ toChars 1 0x0E ++ toChars 1 0 ++ toChars 3 18000 ++ toChars 2 600 ++ toChars 1 0 ++
  toChars 1 0 ++ toChars 1 2 ++ toChars 2 190 ++ toChars 2 12 ++ toChars 2 950 ++ toChars 2 400 ++ toChars 2 0

/-- That REPORT from a station. -/
def peerReport (p : Nat) : List LineChar := spoken p 0 .report peerBody

/-- A running station that has heard peers 1 and 16. -/
def yarded : State :=
  after (.frameReceived (peerReport 1) (goodReads 5)) (after (.frameReceived (peerReport 16) (goodReads 5)) (running 21350))

theorem test_wit_ReportArrival : judgeFrame false false (gather (peerReport 1)).1 = .valid 1 0 .report peerBody ∧
    judgeFrame false false (gather (peerReport 16)).1 = .valid 16 0 .report peerBody ∧
    gather (peerReport 16) = ((gather (peerReport 16)).1, false, some .close) ∧ ascendingTable (running 5).ysu.table ∧
    (running 5).numberValid = true ∧ judgeFrame false false (gather (peerReport 5)).1 = .valid 5 0 .report peerBody := by
  decide +kernel

/-- The peer's period 41 beside the own number: ahead by 1 and by 32767, level, behind, and none of its own. -/
def inPeriod (n : Option Nat) (m : Nat) : State :=
  { atMinute m with acu := { (atMinute m).acu with period := { (atMinute m).acu.period with number := n } } }

theorem test_peerMark :
    [some 40, some 32810, some 41, some 32809, none].map (fun n =>
      (after (.frameReceived (peerReport 1) (goodReads 5)) (inPeriod n 600)).acu.list.length) = [1, 1, 0, 0, 0] ∧
    (after (.frameReceived (peerReport 1) (goodReads 5)) (inPeriod none 600)).acu.period.number = some 41 ∧
    (after (.frameReceived (peerReport 1) (goodReads 5)) (inPeriod (some 40) 600)).acu.period.number = some 41 ∧
    [809, 810, 840, 841].map (fun m =>
      (after (.frameReceived (peerReport 1) (goodReads 5)) (inPeriod (some 40) m)).acu.served) =
      [none, some 840, some 840, none] ∧ fieldAt peerBody 0 2 = 41 := by decide +kernel

theorem test_reportArrival : yarded.ysu.table.map PeerEntry.number = [1, 16] ∧
    yarded.ysu.table.map PeerEntry.give = [true, true] ∧ yarded.ysu.table.map PeerEntry.opening = [950, 950] ∧
    yarded.memberCount .give = 2 := by decide +kernel

theorem test_entryOfReport : entryOfReport 16 peerBody =
    { number := 16, fresh := true, age := 0, period := 41, take := false, give := true, canTake := true, canGive := true,
      turnoverDue := false, perMille := 600, cycles := 12, opening := 950 } ∧ peerBody.length = 24 := by decide +kernel

theorem test_clash : (after (.frameReceived (peerReport 5) (goodReads 5)) yarded).isCurrent .numberClash = true ∧
    (after (.frameReceived (peerReport 5) (goodReads 5)) yarded).ysu.table = yarded.ysu.table := by decide +kernel

/-- A station whose open period holds eight entries. -/
def eightEntries : State :=
  { yarded with acu := { yarded.acu with period := { yarded.acu.period with
      entries := List.replicate 8 { kind := .alone, minute := 3 } } } }

/-- NUMBER CLASH makes its entry once; the ninth entry is not kept. -/
theorem test_clashEntry :
    let t := after (.frameReceived (peerReport 5) (goodReads 5)) yarded
    let u := after (.frameReceived (peerReport 5) (goodReads 5)) eightEntries
    yarded.isCurrent .numberClash = false ∧ yarded.acu.period.entries = [] ∧
    t.acu.period.entries = [{ kind := .numberClash, minute := yarded.ini.minute }] ∧
    (after (.frameReceived (peerReport 5) (goodReads 5)) t).acu.period = t.acu.period ∧
    u.acu.period.entries = eightEntries.acu.period.entries ∧ u.acu.period.flags.eventsLost = true := by decide +kernel

/-- The two peers' entries at an age in ms. -/
def agedYard (age : Nat) : State :=
  { yarded with ysu := { yarded.ysu with table := yarded.ysu.table.map (fun e => { e with age := age }) } }

/-- At the default I of 30 s STALE falls at age 90 and removal at 300 (5.7), and no ms sooner. -/
theorem test_staleAndRemoval : yarded.working = true ∧ yarded.supply = true ∧
    (after (.staleExpiry 1) (agedYard 90000)).ysu.table.map PeerEntry.fresh = [false, true] ∧
    (after (.staleExpiry 1) (agedYard 90000)).ysu.table.map PeerEntry.age = [90000, 90000] ∧
    (after (.removalExpiry 16) (agedYard 300000)).ysu.table.map PeerEntry.number = [1] ∧
    after (.staleExpiry 1) (agedYard 89999) = agedYard 89999 ∧
    after (.staleExpiry 1) (after (.staleExpiry 1) (agedYard 90000)) = after (.staleExpiry 1) (agedYard 90000) ∧
    after (.removalExpiry 16) (agedYard 299999) = agedYard 299999 := by decide +kernel

/-- R98: a REPORT at the moment of an expiry leaves the entry FRESH at age 0, whichever is taken first. -/
theorem test_expiryBesideReport : (agedYard 300000).yli.line = .busy ∧ (agedYard 300000).yli.tx ≠ .sending ∧
    0 < (agedYard 300000).intervalMs ∧ ascendingTable (agedYard 300000).ysu.table ∧ (agedYard 300000).number = 5 ∧
    [Instr.staleExpiry 1, .removalExpiry 1].all (fun c =>
      let heard := Instr.frameReceived (peerReport 1) (goodReads 5)
      [after c (after heard (agedYard 300000)), after heard (after c (agedYard 300000))].all (fun s =>
        s.ysu.table.map (fun e => (e.number, e.fresh, e.age)) == [(1, true, 0), (16, true, 300000)])) = true := by
  decide +kernel

theorem test_wit_ClashAndSilence : (after (.frameReceived (peerReport 5) (goodReads 5)) (running 5)).ysu.clash.isSome = true ∧
    (running 5).station = .run ∧ (running 5).ysu.silence.isSome = true ∧ (running 5).isCurrent .alone = false ∧
    (running 5).acu.period.entries.length < 8 := by decide +kernel

theorem test_clashAndSilence : (after .silenceTimerExpiry (running 5)).isCurrent .alone = true ∧
    (after .clashTimerExpiry (after (.frameReceived (peerReport 5) (goodReads 5)) (running 5))).isCurrent .numberClash =
      false := by decide +kernel

/-! ## Duty sharing and the governor -/

/-- The inlet main at 250, the district at 160: both calls hold. -/
def pressing : State :=
  { running 21350 with ini := { (running 21350).ini with inletMain := valid 250, district := valid 140 } }

/-- Calls of 60 s running in RUN. -/
def calling (r : Role) : State :=
  updateRole r (fun x => { x with call := .running 0, dwell := none }) pressing

/-- The same with the call active, able, and its join delay running. -/
def delayed (r : Role) : State :=
  updateRole r (fun x => { x with
    call := .active, able := true, dwell := none, delay := some { left := 0, countKept := 0 } }) pressing

/-- A member of both roles, last by rank, its release running. -/
def releasing (r : Role) : State :=
  let peers := yarded.ysu.table.map (fun e =>
    { e with take := true, perMille := if r = .take then 100 else 900, opening := 300 })
  let s := { floating with ini := { floating.ini with inletMain := valid 150 }, ysu := { floating.ysu with table := peers } }
  updateRole r (fun x => { x with release := .running 0, dwell := none }) s

theorem test_wit_CallJoins : (calling .take).ysu.take.call = .running 0 ∧ conditionHolds (calling .take) .take .call = true ∧
    permitted (calling .take) .take = true ∧ canHold (calling .take) .take = true ∧
    suppressed (calling .take) .take = false ∧ (calling .take).holds .take = false ∧ (calling .take).joinRank .take = 1 ∧
    conditionHolds (calling .give) .give .call = true ∧ permitted (calling .give) .give = true ∧
    canHold (calling .give) .give = true ∧ suppressed (calling .give) .give = false ∧
    (calling .give).joinRank .give = 1 := by decide +kernel

theorem test_wit_DelayEnds : (delayed .take).ysu.take.delay = some { left := 0, countKept := 0 } ∧
    (delayed .take).ysu.take.call = .active ∧ (delayed .take).ableNonMember .take = true ∧
    permitted (delayed .take) .take = true ∧ canHold (delayed .take) .take = true ∧
    suppressed (delayed .take) .take = false ∧ (delayed .give).ableNonMember .give = true ∧
    canHold (delayed .give) .give = true := by decide +kernel

theorem test_wit_ReleaseLeaves : conditionHolds (releasing .take) .take .release = true ∧
    permitted (releasing .take) .take = true ∧ suppressed (releasing .take) .take = false ∧
    (releasing .take).ysu.take.held = some .automatic ∧
    (releasing .take).memberRank .take = (releasing .take).memberCount .take ∧
    conditionHolds (releasing .give) .give .release = true ∧
    (releasing .give).memberRank .give = (releasing .give).memberCount .give ∧
    (releasing .give).mvc.zone ≠ .top := by decide +kernel

theorem test_calls : (after (.callReleaseTimerExpiry .take .call) (calling .take)).holdsTake = true ∧
    (after (.joinDelayExpiry .give) (delayed .give)).holdsGive = true ∧
    (after (.callReleaseTimerExpiry .give .release) (releasing .give)).holdsGive = false := by decide +kernel

/-- A peer of the role, lower than the own station for TAKE and higher for GIVE, a member or not. -/
def rival (r : Role) (member : Bool) : PeerEntry :=
  { number := 1, fresh := true, age := 0, period := 41, take := member, give := member, canTake := true,
    canGive := true, turnoverDue := false, perMille := if r = .take then 0 else 1000, cycles := 0, opening := 0 }

/-- The call's hour with a rival in the table. -/
def outranked (r : Role) : State :=
  { calling r with ysu := { (calling r).ysu with table := [rival r false] } }

/-- No member, the own dwell or the relearn hold about to run out, with and without a rival. -/
def memberless (table : List PeerEntry) (dwell : Timer) : State :=
  { pressing with ysu := { pressing.ysu with
      take := { pressing.ysu.take with dwell := dwell }, give := { pressing.ysu.give with dwell := dwell },
      relearn := if dwell.isSome then none else some 0, table := table } }

theorem test_wit_Outranked : 2 ≤ (outranked .take).joinRank .take ∧ 2 ≤ (outranked .give).joinRank .give ∧
    (outranked .give).mvc.zone ≠ .top ∧ (outranked .take).ysu.take.delay = none ∧
    canHold (outranked .take) .take = true ∧ suppressed (outranked .give) .give = false ∧
    conditionHolds (outranked .give) .give .call = true ∧ permitted (outranked .take) .take = true ∧
    (after (.callReleaseTimerExpiry .take .call) (outranked .take)).ysu.take.delay =
      some { left := 20000, countKept := 0 } := by decide +kernel

theorem test_wit_MemberlessDwell : (memberless [] (some 0)).joinRank .take = 1 ∧
    (memberless [] (some 0)).memberCount .take = 0 ∧ canHold (memberless [] (some 0)) .take = true ∧
    canHold (memberless [] (some 0)) .give = true ∧ suppressed (memberless [] (some 0)) .give = false ∧
    (memberless [] (some 0)).isCurrent .alone = false ∧ (memberless [] (some 0)).ysu.relearn = none ∧
    2 ≤ (memberless [rival .take false] (some 0)).joinRank .take ∧
    (after (.dwellTimerExpiry .give) (memberless [] (some 0))).holdsGive = true ∧
    (after (.dwellTimerExpiry .take) (memberless [rival .take false] (some 0))).holdsTake = false := by decide +kernel

theorem test_wit_MemberlessRelearn : (memberless [] none).ysu.relearn.isSome = true ∧
    (memberless [] none).ysu.take.dwell = none ∧ (memberless [] none).joinRank .give = 1 ∧
    2 ≤ (memberless [rival .give false] none).joinRank .give ∧
    (after .relearnHoldTimerExpiry (memberless [] none)).holdsTake = true ∧
    (after .relearnHoldTimerExpiry (memberless [rival .give false] none)).holdsGive = false := by decide +kernel

/-- A rise and a fall of the member count of GIVE, by a peer's report and by its removal. -/
def hesitating : State := { delayed .give with ysu := { (delayed .give).ysu with table := [rival .give false] } }

theorem test_recounted : hesitating.ysu.give.delay.isSome = true ∧ hesitating.memberCount .give = 0 ∧
    (after (.frameReceived (peerReport 1) (goodReads 5)) hesitating).memberCount .give = 1 ∧
    (after (.frameReceived (peerReport 1) (goodReads 5)) hesitating).ysu.give.delay = none ∧
    yarded.memberCount .give = 2 ∧ (after (.removalExpiry 16) (agedYard 300000)).memberCount .give = 1 := by decide +kernel

/-- A join delay whose call has stopped, and one that HAND REST finds. -/
def idleDelay : State := updateRole .take (fun x => { x with call := .stopped }) (delayed .take)

theorem test_wit_DelayWithoutCall : idleDelay.ysu.take.delay.isSome = true ∧ idleDelay.ysu.take.call ≠ .active ∧
    permitted { (delayed .give) with ini := { (delayed .give).ini with key := .handRest } } .give = false ∧
    suppressed { (delayed .give) with ini := { (delayed .give).ini with key := .handRest } } .give = false := by
  decide +kernel

/-- A delay that ends on a stopped call joins nothing where the role has a member, and a memberless role at rank 1. -/
theorem test_delayWithoutCall : let s := judgeAbilities idleDelay
    let crowded := { s with ysu := { s.ysu with table := [rival .take true] } }
    abilityLaw s ∧ permitted s .take = true ∧ suppressed s .take = false ∧ s.holds .take = false ∧
    abilityLaw crowded ∧ permitted crowded .take = true ∧ crowded.memberCount .take = 1 ∧
    (after (.joinDelayExpiry .take) crowded).ysu.take.delay = none ∧
    (after (.joinDelayExpiry .take) crowded).holdsTake = false ∧
    (after (.joinDelayExpiry .take) s).holdsTake = true := by decide +kernel

/-- A member of both roles whose holder reaches HIGH, and LOW, in its dwell. -/
theorem test_forcedLeave :
    (after .reckoning { floating with ini := instruments 24500 }).holdsTake = false ∧
    (after .reckoning { floating with ini := instruments 24500 }).holdsGive = true ∧
    (after .reckoning { floating with ini := { instruments 2500 with gauge := valid 140 } }).holdsGive = false ∧
    (after .reckoning { floating with ini := instruments 24500 }).ysu.take.dwell = some 300000 := by decide +kernel

/-- A dwell of GIVE and the relearn hold running. -/
def dwelling : State :=
  let s := running 21350
  { s with ysu := { s.ysu with give := { s.ysu.give with dwell := some 0 }, relearn := some 0 } }

theorem test_wit_DwellAndRelearn : (dwelling.ysu.role .give).dwell.isSome = true ∧ dwelling.ysu.relearn.isSome = true ∧
    (after (.dwellTimerExpiry .give) dwelling).ysu.give.dwell = none ∧
    (after .relearnHoldTimerExpiry dwelling).ysu.relearn = none := by decide +kernel

theorem test_wit_HandAndAuto : (running 21350).working = true ∧ (running 21350).station = .run ∧
    (running 21350).ini.key = .auto ∧ (running 21350).isCurrent .numberClash = false ∧
    suppressed (running 21350) .take = false ∧ suppressed (running 21350) .give = false ∧
    (running 21350).mvc.zone ≠ .top := by decide

theorem test_hand : (after (.hand .own .float) (running 21350)).ysu.take.held = some .hand ∧
    (after (.auto .own) (after (.hand .own .float) (running 21350))).ysu.take.held = some .automatic := by
  decide +kernel

/-- The holder in TOP. -/
def topped : State := { running 26200 with mvc := { (running 26200).mvc with zone := .top } }

theorem test_auto : topped.station = .run ∧ topped.ini.key ≠ .outOfService ∧ topped.vdu.outlet.state ≠ .fault ∧
    (after (.auto .own) topped).ysu.give.held = some .limit ∧
    (after (.hand .own .take) topped).ysu.give.held = some .limit := by decide +kernel

/-- The key at OUT OF SERVICE in RUN. -/
def outOfService : State := { running 21350 with ini := { (running 21350).ini with key := .outOfService } }

/-- A member of both roles at a zone, with a key position. -/
def memberAt (z : Zone) (k : KeyPosition) : State :=
  { floating with mvc := { floating.mvc with zone := z }, ini := { floating.ini with key := k } }

theorem test_autoByRole :
    [Zone.landed, .low, .working, .high].map (fun z =>
      let t := after (.auto .own) (memberAt z .auto)
      (t.ysu.take.held, t.ysu.give.held)) =
      [(some .automatic, none), (some .automatic, none), (some .automatic, some .automatic),
       (none, some .automatic)] ∧
    (after (.auto .own) (memberAt .working .handRest)).holdsGive = false ∧
    (after (.auto .own) (memberAt .top .handRest)).ysu.give.held = some .limit ∧
    (after (.auto .own) (memberAt .top .outOfService)).holdsGive = false ∧
    suppressed (memberAt .low .auto) .give = true ∧ suppressed (memberAt .low .auto) .take = false ∧
    listening.station = .listen := by decide +kernel

/-- The abilities at the edges of their zones, and on a DOUBTFUL stock with and without LIFT MISMATCH. -/
theorem test_abilities :
    [300, 301, 24499, 24500, 26200].map (fun (h : Int) =>
      let t := after .reckoning (running h)
      (t.ysu.take.able, t.ysu.give.able)) =
      [(true, false), (true, false), (true, true), (false, true), (false, true)] ∧
    (after .reckoning blind).ysu.take.able = true ∧ (after .reckoning (disagreeing 2)).ysu.take.able = false ∧
    (after .clashTimerExpiry (after (.frameReceived (peerReport 5) (goodReads 5)) (running 21350))).ysu.give.able = true ∧
    (after (.keyPositionTaken .auto) outOfService).ysu.take.able = true := by decide +kernel

theorem test_wit_AbilityLaw : abilityLaw (after .reckoning (running 21350)) ∧ ¬ abilityLaw (running 21350) := by
  decide +kernel

/-- The governor in a mode. -/
def inMode (m : GovernorMode) : State := { running 5 with pgv := { (running 5).pgv with mode := m, opening := 600 } }

theorem test_wit_GovernorSteps : (inMode .governing).pgv.step.isSome = true ∧
    (inMode .governing).ini.district.value = some 150 ∧ (inMode .shut).pgv.mode = .shut ∧
    (inMode .ramping).pgv.mode = .ramping ∧ (inMode .holding).pgv.mode = .holding := by decide

/-- e = 160 − 150: the opening rises by 5. -/
theorem test_governorSteps : (after .stepTimerExpiry (inMode .governing)).pgv.opening = 605 ∧
    (after .stepTimerExpiry (inMode .shut)).pgv.opening = 0 := by decide +kernel

/-- Out of service in RUN, and the outlet open under a LIMIT give as the key leaves it. -/
def outOfUse : State :=
  { running 21350 with ini := { (running 21350).ini with key := .outOfService },
                       vdu := { (running 21350).vdu with governor := .released }, pgv := Pgv.initial }

/-- The same in TOP with the outlet open. -/
def overfull : State :=
  { outOfUse with mvc := { outOfUse.mvc with zone := .top },
                  vdu := { outOfUse.vdu with outlet := (openOutlet .none).vdu.outlet } }

theorem test_keyLeavesOutOfService : outOfUse.pgv.mode = .released ∧ outOfUse.pgv.opening = 0 ∧
    outOfUse.station = .run ∧ (after (.keyPositionTaken .handRest) outOfUse).pgv.mode = .ramping ∧
    (after (.keyPositionTaken .auto) outOfUse).pgv.step = some 2000 ∧
    (after (.keyPositionTaken .handRest) overfull).pgv.mode = .governing ∧
    (after (.keyPositionTaken .handRest) overfull).pgv.opening = 5 := by decide +kernel

/-! ## The office's orders -/

theorem test_lineReset : yarded.yli.reportDue = false ∧ (after (.lineReset .all) yarded).ysu.table = [] ∧
    (after (.lineReset .all) yarded).ysu.relearn = some 60000 ∧ yarded.working = true := by decide +kernel

theorem test_wit_QuietAndTalk : (queued [report] .waiting).working = true ∧ (queued [report] .standby).yli.queue ≠ [] ∧
    (queued [report] .standby).yli.line = .busy ∧ (queued [report] .standby).yli.reportDue = false ∧
    (sending report [] 0 false).yli.tx = .sending := by decide

theorem test_quietAndTalk : (after (.quiet .own) (queued [report] .waiting)).yli.tx = .standby ∧
    (after (.talk .own) (after (.quiet .own) (queued [report] .waiting))).yli.tx = .waiting := by decide +kernel

/-- QUIET keeps the queue; TALK on an idle line begins with its head. -/
theorem test_quietKeepsTheQueue : (after (.quiet .own) (queued [report, account] .waiting)).yli.queue = [report, account] ∧
    (after (.talk .own) (idleLine (queued [report, account] .standby))).yli.queue = [account] ∧
    (after (.talk .own) (idleLine (queued [report, account] .standby))).yli.inFlight =
      some { msg := report, discard := false } := by decide +kernel

/-- A change of the role set and a newly latched kind each trigger a REPORT. -/
theorem test_triggers :
    (after (.hand .own .float) (running 21350)).holdsTake = true ∧
    (after (.hand .own .float) (running 21350)).yli.queue.map Message.kind = [.report] ∧
    (after (.hand .own .rest) (running 21350)).yli.queue = [] ∧
    (after .silenceTimerExpiry (running 21350)).isLatched .alone = true ∧
    (after .silenceTimerExpiry (running 21350)).yli.queue.map Message.kind = [.report] := by decide +kernel

/-- Three others queued. -/
def full : State := queued [account, account, account] .waiting

theorem test_wit_Requests : (running 5).yli.line = .busy ∧ (running 5).yli.othersHeld < 3 ∧ 3 ≤ full.yli.othersHeld ∧
    full.working = true ∧ (running 5).onLine = true ∧ (running 5).acu.period.number = some 41 ∧
    closed.acu.list.map AccountRecord.number = [52] := by decide +kernel

theorem test_requests : (after (.accountRequest .own 0) full).yli.counters.dropped = 1 ∧
    ((after (.accountRequest .own 52) closed).yli.queue.map (fun m => m.body.take 3)).getLast? = some [1#8, 0#8, 52#8] ∧
    ((after (.statusRequest .own) (running 5)).yli.queue.map (fun m => m.body.length)) = [33] := by decide +kernel

/-- The station in FAULT with a valid number. -/
def faulted : State := after (.retainedWriteComplete (.differs none) (goodReads 5)) writing

theorem test_wit_RefusedOrders : faulted.station = .fault ∧ faulted.onLine = true ∧ faulted.supply = true ∧
    (after (.accept .own) faulted).yli.counters.ordersRefused = 1 ∧
    (after (.talk .all) (running 5)).yli.counters.ordersRefused = 1 := by decide +kernel

theorem test_wit_RefusedQuietly : lineLaw (queued [report] .waiting) ∧ nothingBegins (queued [report] .waiting) ∧
    lineLaw faulted ∧ nothingBegins faulted ∧ lineLaw (sending report [account] 0 false) := by decide +kernel

/-- RESTART is taken in FAULT. -/
theorem test_restart : (after (.restart .own (goodReads 5)) faulted).station = .start ∧
    (after (.acceptButtonHeld (goodReads 5)) pressed).startKind = .restart ∧
    (after .acceptButtonRelease pressed).ini.buttonHold = none := by decide +kernel

/-! ## The laws -/

theorem test_wit_Laws : alarmLaw (running 21350) ∧ queueLaw (running 21350) ∧ stationLaw (running 21350) ∧
    tableLaw (running 21350) ∧ commandLaw (running 21350) := by decide

theorem test_wit_RoleLaw : roleLaw (running 21350) := by decide

theorem test_wit_RoleLawFloating : roleLaw floating := by decide

theorem test_wit_GradeLaw : gradeLaw (running 21350) ∧ (agreeing 2).isCurrent .liftMismatch = true := by decide

/-- Both roles held in WORKING: both commands OPEN; LIFT MISMATCH and the height take them away. -/
theorem test_commands :
    [300, 301, 24499, 24500].map (fun (h : Int) =>
      let t := after .reckoning { floating with ini := { instruments h with gauge := .cleared } }
      (t.vdu.inlet.command, t.vdu.outlet.command)) =
      [(.toOpen, .toClose), (.toOpen, .toClose), (.toOpen, .toOpen), (.toClose, .toOpen)] ∧
    (after (.keyPositionTaken .outOfService) floating).vdu.inlet.command = .none := by decide +kernel

theorem test_wit_CommandLaw : commandLaw (after .reckoning floating) ∧ stationLaw (after .reckoning floating) := by decide +kernel

theorem test_wit_LimitLaw : limitLaw (running 21350) ∧ limitLaw (after .reckoning (running 26200)) := by decide +kernel

theorem test_forcedGive : [26199, 26200].map (fun (h : Int) => (after .reckoning (running h)).ysu.give.held) =
    [none, some .limit] ∧ (after .reckoning (running 26200)).vdu.outlet.command = .toOpen := by decide +kernel

theorem test_wit_DriveLaws : governorLaw (running 21350) ∧ openingLaw (running 21350) ∧ modeLaw (running 21350) ∧
    driveLaw (running 21350).vdu.inlet ∧ driveLaw (running 21350).vdu.outlet :=
  ⟨⟨by decide, fun _ => rfl⟩, by decide, by decide, by decide, by decide⟩

theorem test_wit_AccountsAndInputs : pendingLaw (running 21350) ∧ storeLaw (running 21350) ∧
    accountLaw (running 21350) ∧ inputLaw (running 21350) :=
  ⟨by decide, ⟨nofun, nofun, nofun⟩, by decide, by decide⟩

theorem test_wit_LineAndPlant : lineLaw (running 21350) ∧ plantLaw (running 21350) :=
  ⟨by decide, fun p h => by cases h; decide, by decide, by decide, by decide⟩

/-- A step of that station is a next state: with a command in front, and on the empty queue. -/
theorem test_wit_LawsStep : (∃ t, step { running 21350 with pending := [.reckoning] } = .next t) ∧
    (∃ t, step (running 21350) = .next t) := ⟨⟨_, rfl⟩, ⟨_, rfl⟩⟩

/-- No row gives bits: a word puts nothing into the queue (log 6). -/
theorem test_withFetchWord : (State.reset.withFetchWord 16 0x1234).pending = [] := by decide

end Sys2Proof.Tests
end

section
/-! SUPPORT. The reckoning (R5): what its readers leave of the stock record, the equations of its figures, their bounds under
the input law and a valid plug, and the statements that rest on them. -/

namespace Sys2Proof

/-! ## Height (R8) -/

/-- No lift floats whose base is at or above the height. -/
theorem liftsByHeight_eq_zero {h base : Nat} (low : h ≤ base) (lifts : List Lift) : liftsByHeight h base lifts = 0 := by
  induction lifts generalizing base with
  | nil => rfl
  | cons l rest ih =>
    have head : ¬ base < h := by omega
    simp [liftsByHeight, head, ih (base := base + l.travel) (by omega)]

@[simp] theorem totalTravel_cons (l : Lift) (rest : List Lift) :
    totalTravel (l :: rest) = l.travel + totalTravel rest := by
  simp [totalTravel]

/-- The recursion of R8 counts the positions whose base, S_k from the first base on, lies strictly below the height. -/
theorem liftsByHeight_eq_count (h base : Nat) (lifts : List Lift) :
    liftsByHeight h base lifts = ((List.range lifts.length).filter
      (fun k => decide (base + totalTravel (lifts.take k) < h))).length := by
  induction lifts generalizing base with
  | nil => rfl
  | cons l rest ih =>
    have first : totalTravel ((l :: rest).take 0) = 0 := rfl
    have later : (fun k => decide (base + totalTravel ((l :: rest).take k) < h)) ∘ Nat.succ =
        fun k => decide (base + l.travel + totalTravel (rest.take k) < h) := by
      funext k; simp [Nat.add_assoc]
    rw [liftsByHeight, ih, List.length_cons, List.range_succ_eq_map, List.filter_cons, List.filter_map, later, first]
    by_cases below : base < h
    · simp [below, Nat.add_comm]
    · simp [below]

/-- At the top of the inner lift it alone floats. -/
theorem liftsByHeight_at_joint (l m : Lift) (rest : List Lift) (hl : 1 ≤ l.travel) :
    liftsByHeight l.travel 0 (l :: m :: rest) = 1 := by
  have outer := liftsByHeight_eq_zero (h := l.travel) (base := 0 + l.travel) (by omega) (m :: rest)
  rw [liftsByHeight, outer, if_pos (by omega)]

/-- One unit above the top of the inner lift the second floats too, and no other. -/
theorem liftsByHeight_above_joint (l m : Lift) (rest : List Lift) (hm : 1 ≤ m.travel) :
    liftsByHeight (l.travel + 1) 0 (l :: m :: rest) = 2 := by
  have outer := liftsByHeight_eq_zero (h := l.travel + 1) (base := 0 + l.travel + m.travel) (by omega) rest
  rw [liftsByHeight, liftsByHeight, outer, if_pos (by omega), if_pos (by omega)]

/-! ## Volume and per-mille (R11, R12) -/

@[simp] theorem fullVolume_cons (l : Lift) (rest : List Lift) :
    fullVolume (l :: rest) = l.area * l.travel + fullVolume rest := by
  simp [fullVolume]

/-- V_raw is at most V_full_raw. -/
theorem holderVolume_le_full (h base : Nat) (lifts : List Lift) : holderVolume h base lifts ≤ fullVolume lifts := by
  induction lifts generalizing base with
  | nil => exact Nat.le_refl 0
  | cons l rest ih =>
    rw [holderVolume, fullVolume_cons]
    exact Nat.add_le_add (Nat.mul_le_mul_left _ (Nat.min_le_right _ _)) (ih _)

/-- A holder at or below its base holds nothing. -/
theorem holderVolume_eq_zero {h base : Nat} (low : h ≤ base) (lifts : List Lift) : holderVolume h base lifts = 0 := by
  induction lifts generalizing base with
  | nil => rfl
  | cons l rest ih =>
    rw [holderVolume, ih (base := base + l.travel) (by omega), Nat.sub_eq_zero_of_le low]
    simp

/-- Short of its total travel a holder is not full: the first lift that is not up to its top lacks some of its volume. -/
theorem holderVolume_lt_full {h base : Nat} {lifts : List Lift} (areas : ∀ l ∈ lifts, 1 ≤ l.area) (up : base ≤ h)
    (short : h < base + totalTravel lifts) : holderVolume h base lifts < fullVolume lifts := by
  induction lifts generalizing base with
  | nil => simp only [totalTravel, List.map_nil, List.sum_nil] at short; omega
  | cons l rest ih =>
    rw [totalTravel_cons] at short
    rw [holderVolume, fullVolume_cons]
    by_cases inFirst : h < base + l.travel
    · have part : l.area * min (h - base) l.travel < l.area * l.travel :=
        Nat.mul_lt_mul_of_pos_left (by omega) (areas l List.mem_cons_self)
      exact Nat.add_lt_add_of_lt_of_le part (holderVolume_le_full _ _ _)
    · have others : ∀ x ∈ rest, 1 ≤ x.area := fun x hx => areas x (List.mem_cons_of_mem _ hx)
      exact Nat.add_lt_add_of_le_of_lt (Nat.mul_le_mul_left _ (Nat.min_le_right _ _))
        (ih others (by omega) (by omega))

theorem perMilleOf_le {v full : Nat} (le : v ≤ full) : perMilleOf v full ≤ 1000 :=
  Nat.div_le_of_le_mul (Nat.mul_le_mul_right 1000 le)

/-- Less than the whole volume is less than 1000 per mille. -/
theorem perMilleOf_lt {v full : Nat} (lt : v < full) : perMilleOf v full < 1000 := by
  rw [perMilleOf, Nat.div_lt_iff_lt_mul (by omega)]
  omega

/-! ## Pressure and temperature (R10, R13 to R16) -/

/-- R14's quotient by 50, rounded half up, is one division: half the divisor is added before it. -/
theorem roundHalfUp_fifty (q : Nat) : roundHalfUp q 50 = (2 * q + 50) / 100 := by
  unfold roundHalfUp
  split <;> omega

/-- e between two entries, in the words of R14. -/
theorem vapourPressure_between {t : Nat} (lt : t < 400) : vapourPressure .waterSealed t = vapourAt t := by
  have low : ¬ (t : Int) < 0 := by omega
  have high : ¬ 400 ≤ (t : Int) := by omega
  simp [vapourPressure, low, high]

/-- Interpolation stays at or below the upper of its two entries, and no entry is above the last. -/
theorem vapourAt_le {t : Nat} (lt : t < 400) : vapourAt t ≤ 738 := by
  have row : t / 50 < 8 := by omega
  have rest : t - 50 * (t / 50) ≤ 50 := by omega
  simp only [vapourAt, roundHalfUp_fifty]
  generalize t - 50 * (t / 50) = r at rest
  generalize t / 50 = i at row
  interval_cases i <;> simp only [vapourTable, List.getD_cons_zero, List.getD_cons_succ] <;> omega

theorem vapourPressure_le (cls : HolderClass) (t : Int) : vapourPressure cls t ≤ 738 := by
  cases cls with
  | waterless => exact Nat.zero_le _
  | waterSealed =>
    unfold vapourPressure
    dsimp only
    split
    · decide
    · split
      · exact Nat.le_refl _
      · exact vapourAt_le (by omega)

/-- The effective pressure is the exact difference, and in the range of R15, for figures in theirs. -/
theorem effectivePressure_bounds {pb pg e : Nat} (pbLow : 9000 ≤ pb) (pbHigh : pb ≤ 10800) (pgHigh : pg ≤ 600)
    (eHigh : e ≤ 738) : (effectivePressure pb pg e : Int) = pb + pg - e ∧
      8262 ≤ effectivePressure pb pg e ∧ effectivePressure pb pg e ≤ 11400 := by
  unfold effectivePressure
  omega

/-- The absolute temperature is T + 2732, and in the range of R16, for a temperature in its own. -/
theorem absoluteTemperature_bounds {t : Int} (low : -200 ≤ t) (high : t ≤ 500) :
    (absoluteTemperature t : Int) = t + 2732 ∧ 2532 ≤ absoluteTemperature t ∧ absoluteTemperature t ≤ 3232 := by
  unfold absoluteTemperature
  omega

/-! ## What the plug's tests give of the lifts (R182) -/

theorem Settings.lifts_valid {p : Settings} (v : p.valid = true) : ∀ l ∈ p.lifts, l.valid = true := by
  simp only [Settings.valid, Bool.and_eq_true, List.all_eq_true] at v
  tauto

theorem Lift.area_pos {l : Lift} (v : l.valid = true) : 1 ≤ l.area := by
  simp only [Lift.valid, decide_eq_true_eq] at v
  exact v.1

theorem Lift.bandMid_le {l : Lift} (v : l.valid = true) : l.bandMid ≤ 600 := by
  simp only [Lift.valid, decide_eq_true_eq] at v
  unfold Lift.bandMid
  omega

theorem bandMidFor_le {lifts : List Lift} (v : ∀ l ∈ lifts, l.valid = true) (k : Nat) : bandMidFor lifts k ≤ 600 := by
  unfold bandMidFor
  split
  · next l found => exact Lift.bandMid_le (v l (List.mem_of_getElem? found))
  · exact Nat.zero_le _

/-- The midpoint substituted is that of the lift found at the count (R10). -/
theorem bandMidFor_of_getElem? {lifts : List Lift} {k : Nat} {l : Lift} (found : lifts[k - 1]? = some l) :
    bandMidFor lifts k = (l.bandLow + l.bandHigh) / 2 := by
  simp [bandMidFor, found, Lift.bandMid]

namespace Machine

/-! ## The figures taken -/

/-- Under the law of its record an input gives only values of its range (R27 to R31). -/
theorem range_of_value {i : InputId} {r : InputRecord} (law : recordLaw i r) {v : Int} (taken : r.value = some v) :
    i.range.1 ≤ v ∧ v ≤ i.range.2 := by
  obtain ⟨present, kept, -⟩ := law
  have inRange : i.inRange v = true := by
    unfold InputRecord.value at taken
    split at taken
    · next valid =>
      obtain rfl := Option.some.inj taken
      exact (present valid).1
    · exact kept v taken
    · cases taken
  exact of_decide_eq_true inRange

theorem barometerTaken_bounds {s : State} (law : recordLaw .barometer s.ini.barometer) :
    9000 ≤ barometerTaken s ∧ barometerTaken s ≤ 10800 := by
  unfold barometerTaken
  cases taken : s.ini.barometer.value with
  | none => decide
  | some v =>
    have range : 9000 ≤ v ∧ v ≤ 10800 := range_of_value law taken
    rw [Option.getD_some]
    omega

theorem temperatureTaken_bounds {s : State} (law : recordLaw .gasTemp s.ini.gasTemp) :
    -200 ≤ temperatureTaken s ∧ temperatureTaken s ≤ 500 := by
  unfold temperatureTaken
  cases taken : s.ini.gasTemp.value with
  | none => decide
  | some v => exact range_of_value law taken

theorem gaugeTaken_le {s : State} (law : recordLaw .gauge s.ini.gauge) (lifts : ∀ l ∈ s.cfg.lifts, l.valid = true)
    (k : Nat) : gaugeTaken s k ≤ 600 := by
  unfold gaugeTaken
  split
  · next v taken =>
    have range : 0 ≤ v ∧ v ≤ 600 := range_of_value law taken
    omega
  · exact bandMidFor_le lifts k

/-- The accepted height is within the total travel when the last accepted one was (R7). -/
theorem acceptedHeight_le {s : State} (last : s.srk.record.h ≤ totalTravel s.cfg.lifts) :
    acceptedHeight s ≤ totalTravel s.cfg.lifts := by
  unfold acceptedHeight
  split
  · unfold clamp
    split
    · exact Nat.zero_le _
    · split <;> omega
  · exact last

@[simp] theorem substitutionsNow_gauge (s : State) : (substitutionsNow s).gauge = s.ini.gauge.value.isNone := rfl
@[simp] theorem substitutionsNow_gasTemp (s : State) : (substitutionsNow s).gasTemp = s.ini.gasTemp.value.isNone := rfl
@[simp] theorem substitutionsNow_barometer (s : State) :
    (substitutionsNow s).barometer = s.ini.barometer.value.isNone := rfl

/-! ## The record that a reckoning makes, figure by figure -/

@[simp] theorem reckonedRecord_h (s : State) : (reckonedRecord s).h = acceptedHeight s := rfl
@[simp] theorem reckonedRecord_liftsByHeight (s : State) :
    (reckonedRecord s).liftsByHeight = liftsByHeight (acceptedHeight s) 0 s.cfg.lifts := rfl
@[simp] theorem reckonedRecord_gaugeUsed (s : State) :
    (reckonedRecord s).gaugeUsed = gaugeTaken s (reckonedRecord s).liftsByHeight := rfl
@[simp] theorem reckonedRecord_vRaw (s : State) :
    (reckonedRecord s).vRaw = holderVolume (acceptedHeight s) 0 s.cfg.lifts := rfl
@[simp] theorem reckonedRecord_perMille (s : State) :
    (reckonedRecord s).perMille = perMilleOf (reckonedRecord s).vRaw (fullVolume s.cfg.lifts) := rfl
@[simp] theorem reckonedRecord_factor (s : State) : (reckonedRecord s).factor =
    correctionFactor (effectivePressure (barometerTaken s) (reckonedRecord s).gaugeUsed
      (vapourPressure s.cfg.cls (temperatureTaken s))) (absoluteTemperature (temperatureTaken s)) := rfl
@[simp] theorem reckonedRecord_substituted (s : State) : (reckonedRecord s).substituted = substitutionsNow s := rfl

/-! ## What the readers of a record leave of it (R52, R22) -/

theorem reckon_record (s : State) : (reckon s).srk.record = reckonedRecord s := by
  unfold reckon
  dsimp only
  split <;> simp

@[simp] theorem testSilentWindow_srk (w : SilentWindow) (s : State) : (testSilentWindow w s).srk = s.srk := by
  unfold testSilentWindow
  dsimp only
  split <;> simp

@[simp] theorem countSilentWindow_srk (s : State) : (countSilentWindow s).srk = s.srk := by
  unfold countSilentWindow
  split
  · split
    · exact judgeSilentWindow_srk s
    · dsimp only
      split
      · exact testSilentWindow_srk _ s
      · rfl
  · exact judgeSilentWindow_srk s

@[simp] theorem accountRecord_srk (s : State) : (accountRecord s).srk = s.srk := countSilentWindow_srk _

@[simp] theorem liftCheck_srk (s : State) : (liftCheck s).srk = s.srk := by
  unfold liftCheck
  split
  · split <;> dsimp only <;> split <;> simp
  · rfl

@[simp] theorem testLossWindow_srk (w : LossWindow) (s : State) : (testLossWindow w s).srk = s.srk := by
  unfold testLossWindow
  dsimp only
  split <;> simp

@[simp] theorem countLossWindow_srk (s : State) : (countLossWindow s).srk = s.srk := by
  unfold countLossWindow
  split
  · split
    · exact judgeLossWindow_srk s
    · dsimp only
      split
      · exact testLossWindow_srk _ s
      · rfl
  · exact judgeLossWindow_srk s

@[simp] theorem countCycle_srk (s : State) : (countCycle s).srk = s.srk := by
  unfold countCycle
  split
  · rfl
  · split
    · rfl
    · split <;> rfl

@[simp] theorem countRest_srk (s : State) : (countRest s).srk = s.srk := by
  unfold countRest
  split
  · split <;> rfl
  · rfl

@[simp] theorem judgeTurnover_srk (s : State) : (judgeTurnover s).srk = s.srk := by
  unfold judgeTurnover
  split <;> rfl

@[simp] theorem movementRecord_srk (s : State) : (movementRecord s).srk = s.srk := by simp [movementRecord]

/-- A re-grade moves nothing of the stock reckoner but the status of its record (R21). -/
theorem regrade_srk (s : State) : (regrade s).srk =
    { s.srk with record := { s.srk.record with status := (regrade s).srk.record.status } } := by
  unfold regrade
  split
  · dsimp only
    split
    · rfl
    · simp
  · rfl

/-- The record that a reckoning leaves, its readers done, is the reckoned one but for its status (R5, R21, R22). -/
theorem workRecord_record (s : State) : (workRecord s).srk.record =
    { reckonedRecord s with status := (workRecord s).srk.record.status } := by
  have worked : (workRecord s).srk = (regrade (movementRecord (accountRecord (reckon s)))).srk := by simp [workRecord]
  rw [worked, regrade_srk]
  simp [reckon_record]

/-- A RECKONING in LISTEN or RUN restarts its timer and works the record (R4). -/
theorem exec_reckoning_of_working {s : State} (supply : s.supply = true) (working : s.working = true)
    (timer : s.srk.timer.isSome = true) : exec .reckoning s =
      .next (finish (workRecord { s with srk := { s.srk with timer := some Config.reckonTime } })) := by
  have unfolded : exec .reckoning s = .next (powered reckonExpired s) := rfl
  rw [unfolded, powered, if_pos supply, reckonExpired, if_pos ⟨working, timer⟩]

/-- A RECKONING's record has every figure of the reckoned one; the status alone may follow the lift check (R21, R22). -/
theorem exec_reckoning_record {s : State} (supply : s.supply = true) (working : s.working = true)
    (timer : s.srk.timer.isSome = true) :
    ∃ t st, exec .reckoning s = .next t ∧ t.srk.record = { reckonedRecord s with status := st } := by
  have run := exec_reckoning_of_working supply working timer
  exact ⟨_, _, run, by rw [finish_srk]; exact workRecord_record _⟩

/-! ## The statements -/

/-- Settles O15, by the count that R8's recursion makes and its values at the first joint. -/
theorem reckoningCountsLiftsByHeight : Obligations.ReckoningCountsLiftsByHeight := by
  intro s supply working timer
  obtain ⟨t, st, run, record⟩ := exec_reckoning_record supply working timer
  refine ⟨t, run, ?_⟩
  simp only [record, reckonedRecord_h, reckonedRecord_liftsByHeight]
  generalize acceptedHeight s = h
  refine ⟨trivial, ?counted, ?landed, ?oneLift, ?joint⟩
  case counted => simpa using liftsByHeight_eq_count h 0 s.cfg.lifts
  case landed =>
    rintro rfl
    exact liftsByHeight_eq_zero (Nat.le_refl 0) _
  case oneLift =>
    intro l lifts above
    simp [lifts, liftsByHeight, above]
  case joint =>
    intro l m rest lifts hl hm
    rw [lifts]
    constructor
    · rintro rfl
      exact liftsByHeight_at_joint l m rest hl
    · rintro rfl
      exact liftsByHeight_above_joint l m rest hm

/-- Settles O16: V_raw is at most V_full_raw, is less short of the total travel, and is 0 at height 0. -/
theorem reckoningWorksThePerMille : Obligations.ReckoningWorksThePerMille := by
  intro s supply working timer valid last
  obtain ⟨t, st, run, record⟩ := exec_reckoning_record supply working timer
  have areas : ∀ l ∈ s.cfg.lifts, 1 ≤ l.area := fun l hl => Lift.area_pos (Settings.lifts_valid valid l hl)
  have within := acceptedHeight_le last
  have le := holderVolume_le_full (acceptedHeight s) 0 s.cfg.lifts
  refine ⟨t, run, ?_⟩
  simp only [record, reckonedRecord_h, reckonedRecord_vRaw, reckonedRecord_perMille]
  refine ⟨le, rfl, perMilleOf_le le, ?full, Nat.div_eq_of_lt, ?empty⟩
  case full =>
    intro thousand
    by_contra notTop
    have lt := holderVolume_lt_full areas (Nat.zero_le (acceptedHeight s)) (by omega)
    have := perMilleOf_lt lt
    omega
  case empty =>
    intro landed
    rw [holderVolume_eq_zero (Nat.le_of_eq landed), perMilleOf, Nat.zero_mul, Nat.zero_div]

/-- Settles O18, from the ranges of what a reckoning takes or substitutes. -/
theorem pressureAndTemperatureFollowTheTable : Obligations.PressureAndTemperatureFollowTheTable := by
  refine ⟨⟨fun _ => rfl, fun t cold => ?cold, fun t hot => ?hot, fun t lt => ?between⟩, ?ranges⟩
  case cold => simp [vapourPressure, cold]
  case hot =>
    have notCold : ¬ t < 0 := by omega
    simp [vapourPressure, hot, notCold]
  case between =>
    rw [vapourPressure_between lt, vapourAt, roundHalfUp_fifty]
    rfl
  case ranges =>
    intro s inputs valid
    obtain ⟨-, gauge, -, -, gasTemp, barometer⟩ := inputs
    obtain ⟨pbLow, pbHigh⟩ := barometerTaken_bounds barometer
    obtain ⟨tLow, tHigh⟩ := temperatureTaken_bounds gasTemp
    have pgHigh := gaugeTaken_le gauge (Settings.lifts_valid valid) (liftsByHeight (acceptedHeight s) 0 s.cfg.lifts)
    obtain ⟨exactP, pLow, pHigh⟩ := effectivePressure_bounds pbLow pbHigh pgHigh
      (vapourPressure_le s.cfg.cls (temperatureTaken s))
    obtain ⟨exactK, kLow, kHigh⟩ := absoluteTemperature_bounds tLow tHigh
    exact ⟨exactP, pLow, pHigh, tLow, tHigh, exactK, kLow, kHigh, rfl, rfl, rfl⟩

/-- Settles O19, input by input: each is taken or substituted by whether it gives a value. -/
theorem reckoningSubstitutesInvalidInputs : Obligations.ReckoningSubstitutesInvalidInputs := by
  intro s supply working timer
  obtain ⟨t, st, run, record⟩ := exec_reckoning_record supply working timer
  refine ⟨t, run, ?_⟩
  simp only [record, reckonedRecord_substituted, substitutionsNow_gauge, substitutionsNow_gasTemp,
    substitutionsNow_barometer, reckonedRecord_factor, reckonedRecord_gaugeUsed]
  refine ⟨fun absent => ?pbNone, fun v given => ?pbSome, fun absent => ?tNone, fun v given => ?tSome, fun v given => ?pgSome,
    fun absent => ⟨?pgEntered, fun l found => ?pgNone⟩, trivial⟩
  case pbNone => simp [barometerTaken, absent]
  case pbSome => simp [barometerTaken, given]
  case tNone => simp [temperatureTaken, absent]
  case tSome => simp [temperatureTaken, given]
  case pgSome => simp [gaugeTaken, given]
  case pgEntered => simp [absent]
  case pgNone =>
    rw [← bandMidFor_of_getElem? found]
    simp [gaugeTaken, absent]

end Machine

end Sys2Proof
end

section
/-! SUPPORT. A sample of an input (R27 to R31): what it does to its record, what the input's readers leave of the station,
and the statement that rests on them. -/

namespace Sys2Proof.Machine

/-! ## The end of an event -/

/-- The end of an event moves the yard line interface alone (log 8). -/
theorem finish_frame (s : State) : lineFrame s (finish s) := by
  have waits : ∀ q : State, standbyToWaiting q = { q with yli := (standbyToWaiting q).yli } := by
    intro q
    unfold standbyToWaiting
    split <;> rfl
  have flushed : ∀ q : State, flushReport q = { q with yli := (flushReport q).yli } := by
    intro q
    unfold flushReport
    split <;> rfl
  unfold lineFrame finish txSettle
  dsimp only
  rw [waits, flushed]

/-! ## What a command given to a drive leaves (R43, R56) -/

/-- A drive record whose state changes, neither into FAULT or out of it nor to CLOSED, shuts the governor where the outlet
leaves OPEN and puts the windows to their conditions; it signals nothing (R49, R50, R59). -/
theorem putDrive_of_quiet {d : Side} {x : Drive} {s : State} (moves : x.state ≠ (s.vdu.drive d).state)
    (fault : x.state = .fault ↔ (s.vdu.drive d).state = .fault) (closed : x.state ≠ .isClosed) :
    putDrive d x s = judgeSilentWindow (judgeLossWindow
      (if d = .outlet ∧ (s.vdu.drive d).state = .isOpen then shutGovernor { s with vdu := s.vdu.setDrive d x }
        else { s with vdu := s.vdu.setDrive d x })) := by
  have silent : ∀ q : State, signalDrive d (s.vdu.drive d).state x.state q = q := by
    intro q
    unfold signalDrive
    rw [if_neg (fun h => h.2 (fault.mp h.1)), if_neg (fun h => h.2 (fault.mpr h.1))]
  unfold putDrive
  dsimp only
  rw [if_neg moves, silent, if_neg (fun h => closed h.2)]

theorem judgeSilentWindow_acu (s : State) :
    (judgeSilentWindow s).acu = { s.acu with silentWindow := (judgeSilentWindow s).acu.silentWindow } := by
  unfold judgeSilentWindow
  split
  · split <;> rfl
  · rfl

/-- A command given moves nothing of the account unit but its meter-silent window. -/
theorem giveCommand_acu (d : Side) (c : DriveCommand) (s : State) :
    (giveCommand d c s).acu = { s.acu with silentWindow := (giveCommand d c s).acu.silentWindow } := by
  unfold giveCommand
  split
  · rfl
  · by_cases moves : (Drive.take s.travelMs c (s.vdu.drive d)).state = (s.vdu.drive d).state
    · simp [putDrive, moves]
    · rw [putDrive_of_quiet moves (take_fault _ _ _) (fun h => moves (h.trans (take_closed _ _ _ h).symm)),
        judgeSilentWindow_acu, judgeLossWindow_acu]
      split <;> rfl

/-- The settling pass moves nothing of the account unit but its meter-silent window. -/
theorem settle_acu (s : State) : (settle s).acu = { s.acu with silentWindow := (settle s).acu.silentWindow } := by
  have derived : (settle s).acu = (deriveCommands (handOn s (chooseRoles s))).acu := by simp [settle, settleFrom]
  rw [derived, deriveCommands, giveCommand_acu, giveCommand_acu .inlet]
  simp

@[simp] theorem settle_acu_list (s : State) : (settle s).acu.list = s.acu.list := by rw [settle_acu]
@[simp] theorem settle_acu_period (s : State) : (settle s).acu.period = s.acu.period := by rw [settle_acu]

@[simp] theorem judgeMode_lowest (s : State) : (judgeMode s).pgv.lowest = s.pgv.lowest := by
  unfold judgeMode
  dsimp only
  split
  · rfl
  · split
    · rfl
    · split <;> rfl

@[simp] theorem putDrive_lowest (d : Side) (x : Drive) (s : State) : (putDrive d x s).pgv.lowest = s.pgv.lowest := by
  unfold putDrive
  dsimp only
  split
  · rfl
  · simp only [judgeSilentWindow_pgv, judgeLossWindow_pgv]
    split <;> split <;> simp [shutGovernor]

@[simp] theorem giveCommand_lowest (d : Side) (c : DriveCommand) (s : State) :
    (giveCommand d c s).pgv.lowest = s.pgv.lowest := by
  unfold giveCommand
  split
  · rfl
  · simp

/-- The settling pass leaves the lowest district pressure. -/
@[simp] theorem settle_lowest (s : State) : (settle s).pgv.lowest = s.pgv.lowest := by
  simp [settle, settleFrom, deriveCommands]

/-! ## A sample of an input (R27 to R29) -/

/-- A sample in range makes the input VALID and is held (R28, R29). -/
theorem sample_of_inRange {i : InputId} {x : Int} (inRange : i.inRange x = true) (r : InputRecord) :
    r.sample i x = { reading := x, held := some x, status := .valid, hold := none, sampled := true } := by
  simp [InputRecord.sample, inRange]

/-- A sample out of range of a VALID input, or the first since the start, makes it HELD (R27, R28). -/
theorem sample_of_outOfRange {i : InputId} {x : Int} {r : InputRecord} (out : i.inRange x = false)
    (fresh : r.status = .valid ∨ r.sampled = false) :
    r.sample i x = { r with reading := x, status := .held, hold := some 60000, sampled := true } := by
  have fresh' : (!r.sampled || r.status == .valid) = true := by
    rcases fresh with valid | first
    · simp [valid]
    · simp [first]
  simp [InputRecord.sample, out, fresh', Config.holdTime]

/-- A sample out of range of an input HELD or INVALID already moves its reading alone (R28). -/
theorem sample_of_outOfRange_again {i : InputId} {x : Int} {r : InputRecord} (out : i.inRange x = false)
    (notValid : r.status ≠ .valid) (sampled : r.sampled = true) : r.sample i x = { r with reading := x } := by
  simp [InputRecord.sample, out, notValid, sampled]

@[simp] theorem sample_reading (i : InputId) (x : Int) (r : InputRecord) : (r.sample i x).reading = x := by
  unfold InputRecord.sample
  split
  · rfl
  · split <;> rfl

@[simp] theorem sample_sampled (i : InputId) (x : Int) (r : InputRecord) : (r.sample i x).sampled = true := by
  unfold InputRecord.sample
  split
  · rfl
  · split
    · rfl
    · next again =>
      simp only [Bool.or_eq_true, Bool.not_eq_true', not_or, Bool.not_eq_false] at again
      exact again.1

/-- A sample out of range leaves the held value. -/
theorem sample_held {i : InputId} {x : Int} (out : i.inRange x = false) (r : InputRecord) :
    (r.sample i x).held = r.held := by
  simp only [InputRecord.sample, out, Bool.false_eq_true, if_false]
  split <;> rfl

@[simp] theorem setInput_minute (n : Ini) (i : InputId) (r : InputRecord) : (n.setInput i r).minute = n.minute := by
  cases i <;> rfl

/-! ## The readers of an input (R31) -/

/-- A sample in its record, before any reader has taken it. -/
def sampled (i : InputId) (x : Int) (s : State) : State :=
  { s with ini := s.ini.setInput i ((s.ini.input i).sample i x) }

theorem sampleInput_eq (i : InputId) (x : Int) (s : State) :
    sampleInput i x s = finish (inputReaders i (sampleFollowed i (sampled i x s))) := rfl

/-- The readers move no input. -/
@[simp] theorem inputReaders_ini (i : InputId) (s : State) : (inputReaders i s).ini = s.ini := by
  cases i <;> simp [inputReaders]

@[simp] theorem inputReaders_station (i : InputId) (s : State) : (inputReaders i s).station = s.station := by
  cases i <;> simp [inputReaders]

@[simp] theorem inputReaders_rst (i : InputId) (s : State) : (inputReaders i s).rst = s.rst := by
  cases i <;> simp [inputReaders]

@[simp] theorem judgeSilentWindow_acu_list (s : State) : (judgeSilentWindow s).acu.list = s.acu.list := by
  rw [judgeSilentWindow_acu]

@[simp] theorem makeEntry_list (k : EventKind) (s : State) : (makeEntry k s).acu.list = s.acu.list := by
  unfold makeEntry
  split <;> rfl

@[simp] theorem signalGrade_list (st : StockStatus) (s : State) : (signalGrade st s).acu.list = s.acu.list := by
  cases st <;> simp [signalGrade]

@[simp] theorem regrade_list (s : State) : (regrade s).acu.list = s.acu.list := by
  unfold regrade
  split
  · dsimp only
    split
    · rfl
    · simp
  · rfl

@[simp] theorem inputReaders_list (i : InputId) (s : State) : (inputReaders i s).acu.list = s.acu.list := by
  cases i <;> simp [inputReaders]

theorem inputReaders_srk {i : InputId} (other : i ≠ .crown) (s : State) : (inputReaders i s).srk = s.srk := by
  cases i with
  | crown => exact absurd rfl other
  | gauge | inletMain | district | gasTemp | barometer => simp [inputReaders]

@[simp] theorem followLowest_list (s : State) : (followLowest s).acu.list = s.acu.list := by
  unfold followLowest
  split
  · dsimp only
    split <;> split <;> rfl
  · rfl

@[simp] theorem sampleFollowed_ini (i : InputId) (s : State) : (sampleFollowed i s).ini = s.ini := by
  cases i <;> simp [sampleFollowed]

@[simp] theorem sampleFollowed_station (i : InputId) (s : State) : (sampleFollowed i s).station = s.station := by
  cases i <;> simp [sampleFollowed]

@[simp] theorem sampleFollowed_rst (i : InputId) (s : State) : (sampleFollowed i s).rst = s.rst := by
  cases i <;> simp [sampleFollowed]

@[simp] theorem sampleFollowed_srk (i : InputId) (s : State) : (sampleFollowed i s).srk = s.srk := by
  cases i <;> simp [sampleFollowed]

@[simp] theorem sampleFollowed_list (i : InputId) (s : State) : (sampleFollowed i s).acu.list = s.acu.list := by
  cases i <;> simp [sampleFollowed]

/-- A sample moves its own record and no other field of the instrument interface. -/
@[simp] theorem sampleInput_ini (i : InputId) (x : Int) (s : State) :
    (sampleInput i x s).ini = s.ini.setInput i ((s.ini.input i).sample i x) := by
  simp [sampleInput_eq, sampled]

/-- The reckoner's timer runs on, whatever is sampled. -/
theorem sampleInput_timer (i : InputId) (x : Int) (s : State) : (sampleInput i x s).srk.timer = s.srk.timer := by
  rw [sampleInput_eq, finish_srk]
  by_cases crown : i = .crown
  · subst crown
    rw [inputReaders, settle_srk, regrade_srk, sampleFollowed_srk]
    rfl
  · rw [inputReaders_srk crown, sampleFollowed_srk]
    rfl

/-! ## The re-grade (R21, R23, R24) -/

/-- The grade that a re-grade now would give. -/
def gradeNow (s : State) : StockStatus :=
  gradeOf s.ini.crown.statusTaken (s.isCurrent .liftMismatch) s.srk.record.substituted

/-- The stock record at a grade, its figures unchanged. -/
def gradedAs (st : StockStatus) (s : State) : State :=
  { s with srk := { s.srk with record := { s.srk.record with status := st } } }

/-- A re-grade to the grade that stands does nothing. -/
theorem regrade_of_same {s : State} (same : gradeNow s = s.srk.record.status) : regrade s = s := by
  unfold gradeNow at same
  simp [regrade, same]

/-- A re-grade to another grade signals it and puts the windows to their conditions (R21, R64, R158). -/
theorem regrade_of_change {s : State} (working : s.working = true) (graded : s.srk.graded = true)
    (change : gradeNow s ≠ s.srk.record.status) :
    regrade s = judgeSilentWindow (judgeLossWindow (signalGrade (gradeNow s) (gradedAs (gradeNow s) s))) := by
  unfold gradeNow at change
  simp [regrade, working, graded, change, gradeNow, gradedAs]

theorem regrade_status {s : State} (working : s.working = true) (graded : s.srk.graded = true) :
    (regrade s).srk.record.status = gradeNow s := by
  by_cases same : gradeNow s = s.srk.record.status
  · rw [regrade_of_same same, same]
  · rw [regrade_of_change working graded same]
    simp [gradedAs]

/-- STOCK INVALID is current exactly on a signalled grade of INVALID (R23). -/
theorem isCurrent_signalGrade (st : StockStatus) (s : State) :
    (signalGrade st s).isCurrent .stockInvalid = true ↔ st = .invalid := by
  cases st <;> simp [signalGrade, isCurrent_makeEntry, isCurrent_raise, isCurrent_cease]

/-- An entry made where the open period has room is in its list (R157). -/
theorem mem_makeEntry {k : EventKind} {s : State} (working : s.working = true)
    (room : s.acu.period.entries.length < 8) :
    { kind := k, minute := s.ini.minute } ∈ (makeEntry k s).acu.period.entries := by
  simp [makeEntry, working, OpenPeriod.addEntry, room]

/-- A grade signalled as HELD or INVALID has its entry (R24). -/
theorem mem_signalGrade {s : State} (working : s.working = true) (room : s.acu.period.entries.length < 8) :
    { kind := .stockInvalid, minute := s.ini.minute } ∈ (signalGrade .invalid s).acu.period.entries ∧
      { kind := .stockHeld, minute := s.ini.minute } ∈ (signalGrade .held s).acu.period.entries := by
  have raised : (raise .stockInvalid s).working = true := by simpa [State.working] using working
  constructor
  · simpa [signalGrade] using mem_makeEntry (k := .stockInvalid) raised (by simpa using room)
  · exact mem_makeEntry (s := cease .stockInvalid s) working room

/-- What a crown height sample in LISTEN and RUN leaves of the stock, its kind and its entries is what the re-grade of the
sampled station leaves. -/
theorem sampleInput_crown (x : Int) (s : State) :
    (sampleInput .crown x s).srk = (regrade (sampled .crown x s)).srk ∧
      (sampleInput .crown x s).oau = (regrade (sampled .crown x s)).oau ∧
      (sampleInput .crown x s).acu.period = (regrade (sampled .crown x s)).acu.period := by
  simp [sampleInput_eq, inputReaders, sampleFollowed]

/-! ## The lowest district pressure (R148) -/

theorem followLowest_lowest {s : State} {x : Int} (working : s.working = true)
    (valid : s.ini.district.status = .valid) (reading : s.ini.district.reading = x) :
    (followLowest s).pgv.lowest =
      some (match s.pgv.lowest with | some y => min x.toNat y | none => x.toNat) := by
  unfold followLowest
  rw [if_pos ⟨working, valid⟩]
  cases low : s.pgv.lowest with
  | none => simp [reading]
  | some y =>
    by_cases lower : x.toNat < y
    · simp [reading, lower, Nat.min_eq_left (Nat.le_of_lt lower)]
    · simp [reading, lower, low, Nat.min_eq_right (Nat.le_of_not_lt lower)]

theorem exec_inputSample {s : State} (supply : s.supply = true) (i : InputId) (x : Int) :
    exec (.inputSample i x) s = .next (sampleInput i x s) := by
  have unfolded : exec (.inputSample i x) s = .next (powered (sampleInput i x) s) := rfl
  rw [unfolded, powered, if_pos supply]

/-- What a crown height sample does to the stock in LISTEN and RUN (R21, R23, R24). -/
theorem sampleInput_crown_regrades {s : State} (working : s.working = true) (graded : s.srk.graded = true) (x : Int) :
    let t := sampleInput .crown x s
    t.srk = { s.srk with record := { s.srk.record with
      status := gradeOf t.ini.crown.statusTaken (s.isCurrent .liftMismatch) s.srk.record.substituted } } ∧
    (t.srk.record.status = s.srk.record.status → t.isCurrent .stockInvalid = s.isCurrent .stockInvalid) ∧
    (t.srk.record.status ≠ s.srk.record.status →
      (t.isCurrent .stockInvalid = true ↔ t.srk.record.status = .invalid) ∧
      (t.srk.record.status = .invalid → s.acu.period.entries.length < 8 →
        { kind := .stockInvalid, minute := s.ini.minute } ∈ t.acu.period.entries) ∧
      (t.srk.record.status = .held → s.acu.period.entries.length < 8 →
        { kind := .stockHeld, minute := s.ini.minute } ∈ t.acu.period.entries)) := by
  intro t
  let q := sampled .crown x s
  obtain ⟨srk, oau, period⟩ : t.srk = (regrade q).srk ∧ t.oau = (regrade q).oau ∧
    t.acu.period = (regrade q).acu.period := sampleInput_crown x s
  have workingQ : q.working = true := working
  have status : t.srk.record.status = gradeNow q := by rw [srk, regrade_status workingQ graded]
  have gradeEq : gradeNow q =
      gradeOf t.ini.crown.statusTaken (s.isCurrent .liftMismatch) s.srk.record.substituted := by
    have inputs : t.ini = q.ini := sampleInput_ini .crown x s
    rw [inputs]
    rfl
  refine ⟨?figures, fun same => ?kindStands, fun change => ?signalled⟩
  case figures => rw [← gradeEq, ← status, srk, regrade_srk]; rfl
  case kindStands =>
    have standing : gradeNow q = q.srk.record.status := status.symm.trans same
    rw [State.isCurrent, oau, regrade_of_same standing]
    rfl
  case signalled =>
    have changed : gradeNow q ≠ q.srk.record.status := fun same => change (status.trans same)
    rw [regrade_of_change workingQ graded changed] at oau period
    simp only [judgeSilentWindow_oau, judgeLossWindow_oau] at oau
    simp only [judgeSilentWindow_list, judgeLossWindow_acu] at period
    refine ⟨?_, fun grade room => ?_, fun grade room => ?_⟩
    · rw [State.isCurrent, oau, status]
      exact isCurrent_signalGrade _ _
    · rw [period, ← status, grade]
      exact (mem_signalGrade (s := gradedAs .invalid q) working room).1
    · rw [period, ← status, grade]
      exact (mem_signalGrade (s := gradedAs .held q) working room).2

/-- Settles O20, field by field: the record by the three cases of a sample, the rest by what the input's readers leave. -/
theorem sampleMovesTheStatus : Obligations.SampleMovesTheStatus := by
  intro i x s supply
  refine ⟨_, exec_inputSample supply i x, ?_⟩
  have record : (sampleInput i x s).ini.input i = (s.ini.input i).sample i x := by simp
  rw [record]
  refine ⟨sample_reading _ _ _, sample_sampled _ _ _, fun inRange => ?inRange, fun out => sample_held out _,
    fun out fresh => ?toHeld, fun out notValid before => ?again, fun j other => ?others, by simp, sampleInput_timer i x s,
    ?station, ?rst, ?list, fun other => ?srk, fun crown working graded => ?crown, fun district working inRange => ?lowest,
    fun unread => ?frame⟩
  case inRange => simp [sample_of_inRange inRange]
  case toHeld => simp [sample_of_outOfRange out fresh]
  case again => simp [sample_of_outOfRange_again out notValid before]
  case others => rw [sampleInput_ini, input_setInput_other _ _ _ _ other]
  case station => simp [sampleInput_eq, sampled]
  case rst => simp [sampleInput_eq, sampled]
  case list => simp [sampleInput_eq, sampled]
  case srk => simp [sampleInput_eq, sampled, inputReaders_srk other]
  case crown => subst crown; exact sampleInput_crown_regrades working graded x
  case lowest =>
    subst district
    have record : (sampled .district x s).ini.district =
      { reading := x, held := some x, status := .valid, hold := none, sampled := true } := sample_of_inRange inRange _
    have lowest := followLowest_lowest (s := sampled .district x s) (x := x) working (by rw [record]) (by rw [record])
    have followed : (sampleInput .district x s).pgv.lowest = (followLowest (sampled .district x s)).pgv.lowest := by
      simp [sampleInput_eq, inputReaders, sampleFollowed]
    exact followed.trans lowest
  case frame =>
    have unmoved : sampleInput i x s = finish (sampled i x s) := by rcases unread with rfl | rfl | rfl <;> rfl
    rw [unmoved, finish_ini]
    exact finish_frame _

end Sys2Proof.Machine
end

section
/-! SUPPORT. The works clock (R35, R38): the blocks that take no part in a close of the period, and the statement on the
minute impulse. -/

namespace Sys2Proof.Machine

/-! ## Roles held, through the timers (R116) -/

/-- Judging the calls moves timers and delays alone: no role is joined or left, and no ability changes (R116). -/
theorem judgeCalls_held_able (r : Role) (s : State) :
    ((judgeCalls s).ysu.role r).held = (s.ysu.role r).held ∧ ((judgeCalls s).ysu.role r).able = (s.ysu.role r).able := by
  have delay : ∀ (q : Role) (z : State), ((judgeDelay q z).ysu.role r).held = (z.ysu.role r).held ∧
      ((judgeDelay q z).ysu.role r).able = (z.ysu.role r).able := by
    intro q z
    unfold judgeDelay
    split
    · exact ⟨rfl, rfl⟩
    · cases q <;> cases r <;> exact ⟨rfl, rfl⟩
  have timers : ∀ (q : Role) (z : State), ((judgeTimers q z).ysu.role r).held = (z.ysu.role r).held ∧
      ((judgeTimers q z).ysu.role r).able = (z.ysu.role r).able := by
    intro q z
    cases q <;> cases r <;> exact ⟨rfl, rfl⟩
  simp [judgeCalls, delay, timers]

theorem holdsTake_eq (s : State) : s.holdsTake = (s.ysu.role .take).held.isSome := rfl
theorem holdsGive_eq (s : State) : s.holdsGive = (s.ysu.role .give).held.isSome := rfl

@[simp] theorem judgeCalls_holdsTake (s : State) : (judgeCalls s).holdsTake = s.holdsTake := by
  rw [holdsTake_eq, (judgeCalls_held_able .take s).1, holdsTake_eq]

@[simp] theorem judgeCalls_holdsGive (s : State) : (judgeCalls s).holdsGive = s.holdsGive := by
  rw [holdsGive_eq, (judgeCalls_held_able .give s).1, holdsGive_eq]

/-! ## The close of a period, at the blocks that take no part in it (R164 to R167) -/

/-- What a close of the open period leaves: every block but the accounts, the line, the alarm sets' latched kinds and the
store, and of the instrument interface everything but the meters' counts. -/
structure KeptByClose (s t : State) : Prop where
  station : t.station = s.station
  srk : t.srk = s.srk
  mvc : t.mvc = s.mvc
  vdu : t.vdu = s.vdu
  ysu : t.ysu = s.ysu
  current : t.oau.current = s.oau.current
  ini : t.ini = { s.ini with inletCount := t.ini.inletCount, outletCount := t.ini.outletCount }

theorem KeptByClose.refl (s : State) : KeptByClose s s := ⟨rfl, rfl, rfl, rfl, rfl, rfl, rfl⟩

theorem KeptByClose.trans {s t u : State} (h : KeptByClose s t) (k : KeptByClose t u) : KeptByClose s u where
  station := k.station.trans h.station
  srk := k.srk.trans h.srk
  mvc := k.mvc.trans h.mvc
  vdu := k.vdu.trans h.vdu
  ysu := k.ysu.trans h.ysu
  current := k.current.trans h.current
  ini := by rw [k.ini, h.ini]

theorem takeMeters_kept (s : State) : KeptByClose s (takeMeters s) := ⟨rfl, rfl, rfl, rfl, rfl, rfl, rfl⟩

theorem latch_kept (k : AlarmKind) (s : State) : KeptByClose s (latch k s) := by
  constructor <;> simp [latch_current]

theorem offerMessage_kept (m : Message) (s : State) : KeptByClose s (offerMessage m s) := by
  constructor <;> simp

theorem trigger_kept (s : State) : KeptByClose s (trigger s) := by
  constructor <;> simp

theorem beginWrite_kept (s : State) : KeptByClose s (beginWrite s) := by
  constructor <;> simp

theorem closePeriod_kept (n : Nat) (cause : CloseCause) (next : Nat) (s : State) :
    KeptByClose s (closePeriod n cause next s) := by
  have balance : ∀ (b : Bool) (q : State), KeptByClose q (if b then raiseMomentary .balance q else q) := by
    intro b q
    cases b
    · exact KeptByClose.refl q
    · exact latch_kept .balance q
  have books : ∀ (q : State) (a : Acu) (g : Pgv), KeptByClose q { q with acu := a, pgv := g } :=
    fun _ _ _ => ⟨rfl, rfl, rfl, rfl, rfl, rfl, rfl⟩
  unfold closePeriod
  dsimp only
  refine .trans ?_ (beginWrite_kept _)
  refine .trans ?_ (trigger_kept _)
  refine .trans ?_ (books _ _ _)
  refine .trans ?_ (offerMessage_kept _ _)
  exact (takeMeters_kept s).trans (balance _ _)

/-- The station with a served boundary, or none. -/
def servedAs (b : Option Nat) (s : State) : State := { s with acu := { s.acu with served := b } }

/-- What a change of the minute of day can do: the served boundary kept or taken away, and then a close or none
(R161, R163). -/
theorem passMinutes_cases (minutes : List Nat) (s : State) : ∃ b, passMinutes minutes s = servedAs b s ∨
    ∃ n, passMinutes minutes s = closePeriod n .ownBoundary (nextPeriod n) (servedAs b s) := by
  have closesOrNot : ∀ (q : State) (due : List Nat),
      let r := match q.acu.period.number with
        | some n => if due.isEmpty then q else closePeriod n .ownBoundary (nextPeriod n) q
        | none => q
      r = q ∨ ∃ n, r = closePeriod n .ownBoundary (nextPeriod n) q := by
    intro q due
    dsimp only
    split
    · split
      · exact .inl rfl
      · exact .inr ⟨_, rfl⟩
    · exact .inl rfl
  unfold passMinutes
  split
  · exact ⟨s.acu.served, .inl rfl⟩
  · cases before : s.acu.served with
    | none =>
      have same : servedAs none s = s := by rw [servedAs, ← before]
      exact ⟨none, by rw [same]; exact closesOrNot s _⟩
    | some b =>
      by_cases passed : minutes.contains b = true
      · refine ⟨none, ?_⟩
        simp only [if_pos passed]
        exact closesOrNot (servedAs none s) _
      · have same : servedAs (some b) s = s := by rw [servedAs, ← before]
        refine ⟨some b, ?_⟩
        rw [same]
        simp only [if_neg passed]
        exact closesOrNot s _

/-- A change of the minute of day moves no more than a close does (R161, R163). -/
theorem passMinutes_kept (minutes : List Nat) (s : State) : KeptByClose s (passMinutes minutes s) := by
  have served : ∀ b : Option Nat, KeptByClose s (servedAs b s) := fun _ => ⟨rfl, rfl, rfl, rfl, rfl, rfl, rfl⟩
  obtain ⟨b, stands | ⟨n, closes⟩⟩ := passMinutes_cases minutes s
  · rw [stands]; exact served b
  · rw [closes]; exact (served b).trans (closePeriod_kept _ _ _ _)

/-! ## A minute impulse (R35) -/

theorem exec_minuteImpulse {s : State} (supply : s.supply = true) (running : s.ini.impulse.isSome = true) :
    exec .minuteImpulse s = .next (finish
      (if s.ini.absorb.isSome then impulseHeard none s else stepMinute (impulseHeard none s))) := by
  have unfolded : exec .minuteImpulse s = .next (powered minuteImpulse s) := rfl
  rw [unfolded, powered, if_pos supply, minuteImpulse, if_pos running]
  split <;> rfl

/-- A minute step advances the minute of day, and moves no block that a close does not, but the timers of duty sharing. -/
theorem stepMinute_frame (s : State) :
    let t := stepMinute s
    t.ini = { s.ini with minute := (s.ini.minute + 1) % 1440,
                         inletCount := t.ini.inletCount, outletCount := t.ini.outletCount } ∧
      t.oau.current = s.oau.current ∧ t.station = s.station ∧ t.srk = s.srk ∧ t.mvc = s.mvc ∧ t.vdu = s.vdu ∧
      t.holdsTake = s.holdsTake ∧ t.holdsGive = s.holdsGive := by
  intro t
  let m := (s.ini.minute + 1) % 1440
  let p := passMinutes [m] { s with ini := { s.ini with minute := m } }
  have kept : KeptByClose { s with ini := { s.ini with minute := m } } p := passMinutes_kept _ _
  have step : t = judgeCalls p := rfl
  rw [step]
  refine ⟨?_, ?_, ?_, ?_, ?_, ?_, ?_, ?_⟩
  · rw [judgeCalls_ini]; exact kept.ini
  · rw [judgeCalls_oau]; exact kept.current
  · rw [judgeCalls_station]; exact kept.station
  · rw [judgeCalls_srk]; exact kept.srk
  · rw [judgeCalls_mvc]; exact kept.mvc
  · rw [judgeCalls_vdu]; exact kept.vdu
  · rw [judgeCalls_holdsTake, State.holdsTake, kept.ysu]; rfl
  · rw [judgeCalls_holdsGive, State.holdsGive, kept.ysu]; rfl

/-- An impulse heard ends CLOCK LOST (R35). -/
theorem impulseHeard_clockLost (absorb : Timer) (s : State) : (impulseHeard absorb s).isCurrent .clockLost = false := by
  simp [impulseHeard, isCurrent_cease]

/-- Settles O23, with the absorb window closed and open: the step moves the minute, the rest is the impulse heard. -/
theorem minuteImpulseAdvancesOrIsAbsorbed : Obligations.MinuteImpulseAdvancesOrIsAbsorbed := by
  intro s supply running
  refine ⟨_, exec_minuteImpulse supply running, ?_⟩
  have lost := impulseHeard_clockLost none s
  unfold State.isCurrent at lost ⊢
  unfold State.holdsTake State.holdsGive
  rw [finish_ini, finish_station, finish_srk, finish_mvc, finish_vdu, finish_ysu, finish_oau, finish_acu]
  cases window : s.ini.absorb with
  | none =>
    obtain ⟨ini, current, station, srk, mvc, vdu, take, give⟩ := stepMinute_frame (impulseHeard none s)
    rw [if_neg (by simp)]
    refine ⟨fun _ => ?_, fun opened => (by cases opened), ?_, ?_, ?lost, ?_, ?_, ?_, station, srk, mvc, vdu, take, give⟩
    case lost => rw [current]; exact lost
    all_goals rw [ini]; rfl
  | some left =>
    rw [if_pos (by simp)]
    exact ⟨fun closed => (by cases closed), fun _ => ⟨rfl, rfl⟩, rfl, rfl, lost, rfl, rfl, rfl, rfl, rfl, rfl, rfl, rfl,
      rfl⟩

end Sys2Proof.Machine
end

section
/-! SUPPORT. A valve's end switches (R46): a drive in FAULT through the settling pass, the role it serves, and the
statement on both switches made. -/

namespace Sys2Proof.Machine

/-! ## Roles held, through the claims (R109, R118, R119, R124) -/

theorem changeRole_other {r q : Role} (other : q ≠ r) (held : Option Cause) (s : State) :
    (changeRole r held s).ysu.role q = s.ysu.role q := by
  rw [changeRole, restartTimers, updateRole_other _ _ _ _ other, updateRole_other _ _ _ _ other]

theorem applyClaim_other {r q : Role} (other : q ≠ r) (s : State) : (applyClaim r s).ysu.role q = s.ysu.role q := by
  unfold applyClaim
  split
  · exact updateRole_other _ _ _ _ other
  · exact changeRole_other other _ _

theorem applyClaim_able (r q : Role) (s : State) : ((applyClaim r s).ysu.role q).able = (s.ysu.role q).able := by
  unfold applyClaim
  split <;> cases r <;> cases q <;> rfl

theorem standingRules_other {r q : Role} (other : q ≠ r) (s : State) :
    (standingRules r s).ysu.role q = s.ysu.role q := by
  unfold standingRules
  split
  · split
    · exact changeRole_other other _ _
    · split
      · unfold startDelay
        split
        · exact changeRole_other other _ _
        · exact updateRole_other _ _ _ _ other
      · split
        · exact changeRole_other other _ _
        · rfl
  · rfl

/-- The standing rules leave a role that is neither held nor able alone (R118, R119, R122). -/
theorem standingRules_of_unable {r : Role} {s : State} (unable : (s.ysu.role r).able = false)
    (free : (s.ysu.role r).held = none) : standingRules r s = s := by
  have nonMember : s.ableNonMember r = false := by simp [State.ableNonMember, unable]
  simp [standingRules, noMemberJoin, callJoin, releaseLeave, nonMember, free]

/-- A suppressed role has no claim but the forced give (R109). -/
theorem claimOf_of_suppressed {r : Role} {s : State} (sup : suppressed s r = true) (free : forcedLimit s r = false) :
    claimOf s r = none := by
  simp [claimOf, sup, free]

/-- A claim upon one role moves none of the terms that suppress either. -/
theorem suppressed_applyClaim (q r : Role) (s : State) : suppressed (applyClaim q s) r = suppressed s r := by
  cases r <;> simp [suppressed, State.isCurrent]

theorem applyClaims_held_none {r : Role} {s : State} (sup : suppressed s r = true) (free : forcedLimit s r = false) :
    ((applyClaims s).ysu.role r).held = none := by
  cases r with
  | take => rw [applyClaims, applyClaim_other (by decide), applyClaim_held, claimOf_of_suppressed sup free]
  | give =>
    rw [applyClaims, applyClaim_held, claimOf_of_suppressed]
    · rw [suppressed_applyClaim, sup]
    · simpa [forcedLimit] using free

/-- A suppressed role that the station cannot hold, and that no forced give asks for, is not held after the choice
(R109, R124). -/
theorem chooseRoles_held_none {r : Role} {s : State} (sup : suppressed s r = true)
    (free : forcedLimit (judgeRequest s) r = false) (unable : canHold s r = false) :
    ((chooseRoles s).ysu.role r).held = none := by
  let a := judgeAbilities (judgeRequest s)
  let c := judgeCalls (applyClaims a)
  have supA : suppressed a r = true := by cases r <;> exact sup
  have freeA : forcedLimit a r = false := by cases r <;> exact free
  have ableA : (a.ysu.role r).able = false := by cases r <;> exact unable
  have heldC : (c.ysu.role r).held = none :=
    (judgeCalls_held_able r _).1.trans (applyClaims_held_none supA freeA)
  have ableC : (c.ysu.role r).able = false := by
    rw [(judgeCalls_held_able r _).2, applyClaims, applyClaim_able, applyClaim_able, ableA]
  have chosen : chooseRoles s = standingRules .give (standingRules .take c) := rfl
  cases r with
  | take => rw [chosen, standingRules_other (by decide), standingRules_of_unable ableC heldC, heldC]
  | give =>
    have same := standingRules_other (r := .take) (q := .give) (by decide) c
    rw [chosen, standingRules_of_unable (by rw [same, ableC]) (by rw [same, heldC]), same, heldC]

/-- The roles held after the settling pass are the ones chosen. -/
theorem settle_held (r : Role) (s : State) : ((settle s).ysu.role r).held = ((chooseRoles s).ysu.role r).held := by
  rw [settle, settleFrom, (judgeCalls_held_able r _).1]
  simp

/-- TAKE is not held while the inlet drive is in FAULT (R124). -/
theorem settle_holdsTake_of_fault {s : State} (fault : s.vdu.inlet.state = .fault) : (settle s).holdsTake = false := by
  have left := chooseRoles_held_none (r := .take) (s := s) (by simp [suppressed, fault]) rfl
    (by simp [canHold, canTake, fault])
  rw [holdsTake_eq, settle_held, left]
  rfl

/-- GIVE is not held while the outlet drive is in FAULT, not by the forced give either (R57, R124). -/
theorem settle_holdsGive_of_fault {s : State} (fault : s.vdu.outlet.state = .fault) : (settle s).holdsGive = false := by
  have left := chooseRoles_held_none (r := .give) (s := s) (by simp [suppressed, fault])
    (by simp [forcedLimit, judgeRequest, fault]) (by simp [canHold, canGive, fault])
  rw [holdsGive_eq, settle_held, left]
  rfl

/-! ## A drive in FAULT (R43, R46) -/

/-- A drive in FAULT records a command and does nothing with it (R43). -/
theorem take_of_fault {d : Drive} (fault : d.state = .fault) (t : Nat) (c : DriveCommand) :
    d.take t c = { d with command := c } := by
  simp [Drive.take, Drive.act, fault]

/-- Both switches made: the drive is in FAULT, at rest where it was not in FAULT before (R46). -/
theorem switched_of_both {w : Switches} (openMade : w.openMade = true) (closedMade : w.closedMade = true) (t : Nat)
    (d : Drive) : d.switched t w = if d.state = .fault then d else d.fail := by
  simp [Drive.switched, openMade, closedMade]

theorem switched_of_both_state {w : Switches} (openMade : w.openMade = true) (closedMade : w.closedMade = true) (t : Nat)
    (d : Drive) : (d.switched t w).state = .fault := by
  rw [switched_of_both openMade closedMade]
  split
  · assumption
  · rfl

/-- The governor's mode moves no drive record. -/
@[simp] theorem judgeMode_drive (v : Side) (s : State) : (judgeMode s).vdu.drive v = s.vdu.drive v := by
  unfold judgeMode
  dsimp only
  split
  · rfl
  · split
    · cases v <;> rfl
    · split <;> cases v <;> rfl

theorem giveCommand_of_fault {v : Side} {s : State} (fault : (s.vdu.drive v).state = .fault) (d : Side)
    (c : DriveCommand) : ∃ k, (giveCommand d c s).vdu.drive v = { s.vdu.drive v with command := k } := by
  by_cases own : v = d
  · subst own
    rw [giveCommand_drive]
    split
    · exact ⟨(s.vdu.drive v).command, rfl⟩
    · exact ⟨c, take_of_fault fault _ _⟩
  · exact ⟨(s.vdu.drive v).command, giveCommand_other _ _ _ _ own⟩

/-- The settling pass leaves a drive in FAULT as it is, but for the command recorded. -/
theorem settle_of_fault {v : Side} {s : State} (fault : (s.vdu.drive v).state = .fault) :
    ∃ k, (settle s).vdu.drive v = { s.vdu.drive v with command := k } := by
  let q := handOn s (chooseRoles s)
  have same : q.vdu.drive v = s.vdu.drive v := by simp [q]
  obtain ⟨k, inlet⟩ := giveCommand_of_fault (s := q) (by rw [same, fault]) .inlet (inletCommand q)
  obtain ⟨m, outlet⟩ := giveCommand_of_fault (s := giveCommand .inlet (inletCommand q) q) (v := v)
    (by rw [inlet, same, fault]) .outlet (outletCommand q)
  have derived : (settle s).vdu.drive v = (deriveCommands q).vdu.drive v := by simp [settle, settleFrom, q]
  exact ⟨m, by rw [derived, deriveCommands, outlet, inlet, same]⟩

/-! ## The entry to FAULT (R46, R176, R177) -/

/-- Under R177 and R179 a kind that is current is latched. -/
theorem isLatched_of_isCurrent {s : State} {k : AlarmKind} (law : alarmLaw s) (current : s.isCurrent k = true) :
    s.isLatched k = true := by
  have bit := congrArg (hasAlarm · k) law
  simp only [State.isCurrent, State.isLatched, hasAlarm] at bit current ⊢
  have inRange : k.bit < 16 := by cases k <;> decide
  simpa [current, inRange] using bit

/-- A kind raised is latched, where the kinds current before were (R177). -/
theorem isLatched_raise {s : State} {k : AlarmKind} (before : s.isCurrent k = true → s.isLatched k = true) :
    (raise k s).isLatched k = true := by
  unfold raise
  split
  · next current => exact before current
  · rw [isLatched_latch]
    simp

/-- What latching does to the alarm sets rests on the alarm sets alone. -/
theorem latch_oau (k : AlarmKind) (s : State) : (latch k s).oau =
    if hasAlarm s.oau.latched k then s.oau else { s.oau with latched := withAlarm s.oau.latched k } := by
  unfold latch State.isLatched
  split
  · rfl
  · simp

/-- What raising does to the alarm sets rests on the alarm sets alone. -/
theorem raise_oau_congr {k : AlarmKind} {s t : State} (oau : s.oau = t.oau) : (raise k s).oau = (raise k t).oau := by
  unfold raise State.isCurrent
  rw [oau]
  split
  · exact oau
  · simp [latch_oau]

/-- A drive that enters FAULT raises its kind, and changes no other (R46, R49). -/
theorem putDrive_oau_of_fault {d : Side} {x : Drive} {s : State} (before : (s.vdu.drive d).state ≠ .fault)
    (after : x.state = .fault) : (putDrive d x s).oau = (raise (valveFaultKind d) s).oau := by
  have moves : x.state ≠ (s.vdu.drive d).state := fun same => before (same.symm.trans after)
  have notClosed : ¬ (d = .outlet ∧ x.state = .isClosed) := fun h => by simp [after] at h
  unfold putDrive
  dsimp only
  rw [if_neg moves, if_neg notClosed, signalDrive, if_pos ⟨after, before⟩]
  simp only [judgeSilentWindow_oau, judgeLossWindow_oau, makeEntry_oau]
  split <;> exact raise_oau_congr rfl

theorem exec_endSwitchChange {s : State} (supply : s.supply = true) {v : Side} {e : SwitchEnd} {made : Bool}
    (change : (s.ini.switches v).made e ≠ made) :
    exec (.endSwitchChange v e made) s = .next (switchChanged v (setSwitch v e made s)) := by
  have unfolded : exec (.endSwitchChange v e made) s = .next (endSwitch v e made s) := rfl
  have on : (setSwitch v e made s).supply = true := supply
  rw [unfolded, endSwitch, if_neg change, powered, if_pos on]

/-- Settles O29: the drive record is in FAULT before the settling pass, which neither repairs it nor leaves its role held. -/
theorem bothSwitchesMadeIsAFault : Obligations.BothSwitchesMadeIsAFault := by
  intro v e s supply notMade openMade closedMade
  let q := setSwitch v e true s
  let x := Drive.switched q.travelMs (q.ini.switches v) (s.vdu.drive v)
  let p := putDrive v x q
  have switches : q.ini.switches v = (s.ini.switches v).change e true := switches_setSwitches _ _ _
  have fault : (p.vdu.drive v).state = .fault := by
    rw [putDrive_drive]
    exact switched_of_both_state (by rw [switches, openMade]) (by rw [switches, closedMade]) _ _
  obtain ⟨k, settled⟩ := settle_of_fault fault
  refine ⟨finish (settle p), exec_endSwitchChange supply (by simp [notMade]), ?state, fun entry => ?entry,
    fun inlet => ?take, fun outlet => ?give, ?ini, ?srk, ?rst, ?station⟩
  case state => rw [finish_vdu, settled]; exact fault
  case entry =>
    have failed : p.vdu.drive v = (s.vdu.drive v).fail := by
      rw [putDrive_drive]
      exact (switched_of_both (by rw [switches, openMade]) (by rw [switches, closedMade]) _ _).trans (if_neg entry)
    have raised : (finish (settle p)).oau = (raise (valveFaultKind v) q).oau := by
      rw [finish_oau, settle_oau]
      exact putDrive_oau_of_fault entry ((congrArg Drive.state (putDrive_drive v x q)).symm.trans fault)
    rw [finish_vdu, settled, failed]
    refine ⟨rfl, rfl, rfl, ?_, fun law => ?_⟩
    · rw [State.isCurrent, raised]
      simpa [State.isCurrent] using isCurrent_raise (valveFaultKind v) (valveFaultKind v) q
    · rw [State.isLatched, raised]
      exact isLatched_raise (isLatched_of_isCurrent (s := q) law)
  case take =>
    subst inlet
    rw [State.holdsTake, finish_ysu]
    exact settle_holdsTake_of_fault fault
  case give =>
    subst outlet
    rw [State.holdsGive, finish_ysu]
    exact settle_holdsGive_of_fault fault
  case ini => rw [finish_ini, settle_ini, putDrive_ini]; rfl
  case srk => rw [finish_srk, settle_srk, putDrive_srk]; rfl
  case rst => rw [finish_rst, settle_rst, putDrive_rst]; rfl
  case station => rw [finish_station, settle_station, putDrive_station]; rfl

end Sys2Proof.Machine
end

section
/-! SUPPORT. A REPORT of a peer (R94): the frame that carries it, what duty sharing and the account unit leave of the station
when it is handed to them, the table it is entered in, and the statement that rests on them. -/

namespace Sys2Proof

/-! ## The frame (R77, R187) -/

/-- A frame is valid only with a body of a length its kind allows (R77, R187). -/
theorem lengthAllowed_of_valid {loopTest bad : Bool} {data body : List Byte} {p d : Nat} {k : MessageKind}
    (valid : judgeFrame loopTest bad data = .valid p d k body) : lengthAllowed loopTest k body.length = true := by
  unfold judgeFrame at valid
  split at valid
  case h_2 => cases valid
  next source destination kind len rest =>
    split at valid
    · cases valid
    next sound =>
      split at valid
      · cases valid
      next =>
        split at valid
        · cases valid
        next allowed =>
          dsimp only at valid
          split at valid
          · cases valid
            have whole : rest.length = len.toNat + 2 := by
              simpa using (Bool.or_eq_false_iff.1 (Bool.eq_false_of_not_eq_true sound)).2
            rw [List.length_take, whole, Nat.min_eq_left (Nat.le_add_right _ _)]
            simpa using allowed
          · cases valid

/-- A valid REPORT carries the 24 characters of 11.2. -/
theorem length_of_validReport {loopTest bad : Bool} {data body : List Byte} {p d : Nat}
    (valid : judgeFrame loopTest bad data = .valid p d .report body) : body.length = 24 := by
  simpa [lengthAllowed] using lengthAllowed_of_valid valid

namespace Machine

/-- A valid frame heard on the line is its message, taken outside a frame, and the end of the event (R77, R79). -/
theorem exec_frameReceived_of_valid {chars : List LineChar} {r : StartReadings} {s : State} {data body : List Byte}
    {bad : Bool} {p d : Nat} {k : MessageKind} (supply : s.supply = true) (onLine : s.onLine = true)
    (idle : s.yli.tx ≠ .sending) (gathered : gather chars = (data, bad, some .close))
    (valid : judgeFrame false bad data = .valid p d k body) :
    exec (.frameReceived chars r) s = .next (finish (validMessage p d k body r (setInFrame false s))) := by
  have unfolded : exec (.frameReceived chars r) s = .next (powered (frameHeard chars r) s) := rfl
  rw [unfolded, powered, if_pos supply, frameHeard, if_pos ⟨onLine, idle⟩]
  simp only [receiveFrame, gathered, judgeClosed, valid]

/-! ## The table (R92, R94) -/

/-- No two entries of an ascending table are of one number (R92). -/
theorem eq_of_number_eq {t : List PeerEntry} (ascending : ascendingTable t) {x y : PeerEntry} (hx : x ∈ t) (hy : y ∈ t)
    (same : x.number = y.number) : x = y := by
  have distinct : (t.map PeerEntry.number).Nodup := List.Pairwise.map _ (fun _ _ lt => Nat.ne_of_lt lt) ascending
  exact List.inj_on_of_nodup_map distinct hx hy same

/-- The entry of a report's number is the report's own (R94). -/
theorem eq_of_mem_enterPeer {e x : PeerEntry} {t : List PeerEntry} (ascending : ascendingTable t)
    (hx : x ∈ enterPeer e t) (same : x.number = e.number) : x = e :=
  eq_of_number_eq (ascending_enterPeer e ascending) hx (mem_enterPeer_self e t) same

/-- An entry of another number stands in the table exactly when it stood there before (R94). -/
theorem mem_enterPeer_iff {e x : PeerEntry} {t : List PeerEntry} (other : x.number ≠ e.number) :
    x ∈ enterPeer e t ↔ x ∈ t :=
  ⟨fun h => (mem_of_mem_enterPeer h).resolve_left fun same => other (congrArg PeerEntry.number same),
    fun h => mem_enterPeer_other h other⟩

/-! ## The counters of the line through duty sharing and a close (R77, R81) -/

/-- A report trigger moves no counter (R88). -/
@[simp] theorem trigger_yli_counters (s : State) : (trigger s).yli.counters = s.yli.counters := by
  unfold trigger
  split <;> rfl

@[simp] theorem latch_yli_counters (k : AlarmKind) (s : State) : (latch k s).yli.counters = s.yli.counters := by
  unfold latch
  split <;> simp

/-- A command given to a drive moves nothing of the line. -/
@[simp] theorem giveCommand_yli (d : Side) (c : DriveCommand) (s : State) : (giveCommand d c s).yli = s.yli := by
  unfold giveCommand
  split
  · rfl
  · by_cases moves : (Drive.take s.travelMs c (s.vdu.drive d)).state = (s.vdu.drive d).state
    · simp [putDrive, moves]
    · rw [putDrive_of_quiet moves (take_fault _ _ _) (fun h => moves (h.trans (take_closed _ _ _ h).symm)),
        judgeSilentWindow_yli, judgeLossWindow_yli]
      split <;> rfl

@[simp] theorem handOn_yli_counters (old s : State) : (handOn old s).yli.counters = s.yli.counters := by
  unfold handOn
  split <;> simp

/-- The settling pass moves no counter of the line. -/
@[simp] theorem settle_yli_counters (s : State) : (settle s).yli.counters = s.yli.counters := by
  simp [settle, settleFrom, deriveCommands]

/-- An offer counts nothing but DROPPED (R81). -/
theorem offerOther_foreignSource (m : Message) (y : Yli) :
    (y.offerOther m).counters.foreignSource = y.counters.foreignSource := by
  unfold Yli.offerOther
  split <;> rfl

/-- A close of the open period counts no foreign source (R166). -/
theorem closePeriod_foreignSource (n : Nat) (cause : CloseCause) (next : Nat) (s : State) :
    (closePeriod n cause next s).yli.counters.foreignSource = s.yli.counters.foreignSource := by
  have balance : ∀ (b : Bool) (q : State), (if b then raiseMomentary .balance q else q).yli.counters = q.yli.counters := by
    intro b q
    cases b
    · rfl
    · exact latch_yli_counters .balance q
  simp only [closePeriod, beginWrite_yli, trigger_yli_counters, offerMessage, offerOther_foreignSource,
    flushReport_yli_counters, balance, takeMeters_yli]

/-! ## What a handed-off REPORT leaves of the station (R95) -/

/-- What duty sharing and the account unit leave: the station state, the stock record, the parts of the yard sharing unit that
no role's operation touches, the current kinds, and the count of foreign sources. -/
structure KeptByHandOff (s t : State) : Prop where
  station : t.station = s.station
  srk : t.srk = s.srk
  unit : SameUnit t.ysu s.ysu
  current : t.oau.current = s.oau.current
  foreignSource : t.yli.counters.foreignSource = s.yli.counters.foreignSource

theorem KeptByHandOff.refl (s : State) : KeptByHandOff s s := ⟨rfl, rfl, .refl _, rfl, rfl⟩

theorem KeptByHandOff.trans {s t u : State} (h : KeptByHandOff s t) (k : KeptByHandOff t u) : KeptByHandOff s u where
  station := k.station.trans h.station
  srk := k.srk.trans h.srk
  unit := k.unit.trans h.unit
  current := k.current.trans h.current
  foreignSource := k.foreignSource.trans h.foreignSource

theorem KeptByHandOff.working {s t : State} (h : KeptByHandOff s t) : t.working = s.working := by
  simp only [State.working, h.station]

theorem finish_keptByHandOff (s : State) : KeptByHandOff s (finish s) := by
  refine ⟨finish_station s, finish_srk s, ?unit, by rw [finish_oau], by rw [finish_yli_counters]⟩
  case unit => rw [finish_ysu]; exact .refl _

theorem settle_keptByHandOff (s : State) : KeptByHandOff s (settle s) :=
  ⟨settle_station s, settle_srk s, settleFrom_same s s, by rw [settle_oau], by rw [settle_yli_counters]⟩

theorem closePeriod_keptByHandOff (n : Nat) (cause : CloseCause) (next : Nat) (s : State) :
    KeptByHandOff s (closePeriod n cause next s) := by
  have kept := closePeriod_kept n cause next s
  refine ⟨kept.station, kept.srk, ?unit, kept.current, closePeriod_foreignSource _ _ _ _⟩
  case unit => rw [kept.ysu]; exact .refl _

/-- A peer's period number, adopted, a peer mark or neither, moves no more than a close does (R162, R171). -/
theorem peerPeriod_keptByHandOff (p : Nat) (s : State) : KeptByHandOff s (peerPeriod p s) := by
  unfold peerPeriod
  split
  · exact .refl s
  · split
    · exact ⟨rfl, rfl, .refl _, rfl, rfl⟩
    · split
      · exact closePeriod_keptByHandOff _ _ _ _
      · exact .refl s

theorem recount_same (old : State) (r : Role) (s : State) : SameUnit (recount old r s).ysu s.ysu := by
  unfold recount
  split
  · exact updateRole_same r _ s
  · split
    · exact updateRole_same r _ s
    · exact .refl _

/-- The station with its peer table replaced, and nothing recounted. -/
def withTable (t : List PeerEntry) (s : State) : State := { s with ysu := { s.ysu with table := t } }

/-- A replaced table is recounted for both roles, and moves their timers alone (R116). -/
theorem changeTable_keptByHandOff (t : List PeerEntry) (s : State) : KeptByHandOff (withTable t s) (changeTable t s) where
  station := changeTable_station t s
  srk := changeTable_srk t s
  unit := (recount_same _ .give _).trans (recount_same _ .take _)
  current := by rw [changeTable_oau]; rfl
  foreignSource := by rw [changeTable_yli]; rfl

/-- A REPORT of a peer enters its table, and is handed on (R94, R95). -/
theorem reportArrival_keptByHandOff {p : Nat} {s : State} (peer : p ≠ s.number) (body : List Byte) :
    KeptByHandOff (withTable (enterPeer (entryOfReport p body) s.ysu.table) s) (reportArrival p body s) := by
  rw [reportArrival, if_neg peer]
  exact (changeTable_keptByHandOff _ s).trans ((peerPeriod_keptByHandOff _ _).trans (settle_keptByHandOff _))

/-- Line heard in LISTEN and RUN restarts the silence timer and ends ALONE (R102, R103). -/
theorem lineHeard_of_working {s : State} (working : s.working = true) :
    lineHeard s = cease .alone { s with ysu := { s.ysu with silence := some (5 * s.intervalMs) } } :=
  if_pos working

/-- A message to all or to the own number is accepted (R78). -/
theorem acceptedAs_isSome {s : State} {d : Nat} (accepted : d = 0 ∨ d = s.number) : ∃ a, acceptedAs s d = some a := by
  unfold acceptedAs
  split
  · exact ⟨_, rfl⟩
  · exact ⟨.own, if_pos (accepted.resolve_left ‹_›)⟩

/-- What a valid REPORT of a peer comes to in LISTEN and RUN: line heard, the entry made, and the station handed on
(R94, R95, R102, R103, R127). -/
theorem validMessage_of_peerReport {p d : Nat} {s : State} (working : s.working = true) (low : 1 ≤ p) (high : p ≤ 16)
    (peer : p ≠ s.number) (accepted : d = 0 ∨ d = s.number) (body : List Byte) (r : StartReadings) :
    KeptByHandOff (withTable (enterPeer (entryOfReport p body) s.ysu.table) (lineHeard s))
      (validMessage p d .report body r s) := by
  have heard := lineHeard_of_working working
  obtain ⟨a, own⟩ := acceptedAs_isSome (s := lineHeard s) (d := d) (by rw [heard]; exact accepted)
  have routed : routeAccepted p a .report body r (lineHeard s) = reportArrival p body (lineHeard s) := by
    have holder : holderSource p = true := by simp [holderSource, low, high]
    have on : (lineHeard s).working = true := by rw [heard]; exact working
    simp only [routeAccepted, holder, on, if_true]
  have arrived : KeptByHandOff (withTable (enterPeer (entryOfReport p body) s.ysu.table) (lineHeard s))
      (reportArrival p body (lineHeard s)) := by
    have kept := reportArrival_keptByHandOff (s := lineHeard s) (by rw [heard]; exact peer) body
    rw [heard] at kept ⊢
    exact kept
  simp only [validMessage, own, routed]
  split
  · exact arrived.trans (settle_keptByHandOff _)
  · exact arrived

/-- Settles O41: the entry goes in after line heard, and nothing that the REPORT is handed to moves the table again. -/
theorem reportArrivalEntersThePeer : Obligations.ReportArrivalEntersThePeer := by
  intro chars r s data body bad p d supply working idle gathered valid low high peer accepted ascending
  let e := entryOfReport p body
  let q := setInFrame false s
  let t := finish (validMessage p d .report body r q)
  have onLine : s.onLine = true := by simp [State.onLine, working]
  have kept : KeptByHandOff (withTable (enterPeer e s.ysu.table) (lineHeard q)) t :=
    (validMessage_of_peerReport (s := q) working low high peer accepted body r).trans (finish_keptByHandOff _)
  rw [lineHeard_of_working (s := q) working] at kept
  have table : t.ysu.table = enterPeer e s.ysu.table := kept.unit.table
  have alone : t.isCurrent .alone = false := by
    rw [State.isCurrent, kept.current]
    exact (isCurrent_cease .alone .alone _).trans (by simp)
  refine ⟨t, exec_frameReceived_of_valid supply onLine idle gathered valid, ?_, rfl, length_of_validReport valid,
    ?_, ?_, ?_, kept.unit.silence, alone, kept.unit.order, kept.srk, kept.station, kept.foreignSource⟩
  all_goals rw [table]
  · exact mem_enterPeer_self e _
  · exact fun x stands number => eq_of_mem_enterPeer ascending stands number
  · exact fun x other => mem_enterPeer_iff other
  · exact ascending_enterPeer e ascending

end Machine

end Sys2Proof
end

section
/-! SUPPORT. ACCEPT (R178): which kinds stay latched, what the end of an event that triggers no REPORT does to the transmit
queue, what the order and the button come to, and the statement that rests on them. -/

namespace Sys2Proof

/-- A kind is in the common part of two sets exactly when it is in both. -/
theorem hasAlarm_and (v w : Word) (k : AlarmKind) : hasAlarm (v &&& w) k = (hasAlarm v k && hasAlarm w k) :=
  BitVec.getLsbD_and

namespace Machine

/-- ACCEPT leaves latched what is current (R178). -/
theorem isLatched_acceptAlarms (k : AlarmKind) (s : State) :
    (acceptAlarms s).isLatched k = (s.isLatched k && s.isCurrent k) := hasAlarm_and _ _ k

/-! ## The transmit queue at the end of an event (R82, R88) -/

/-- A frame that begins takes the head of the queue, and nothing else moves the queue (R82). -/
theorem beginFrame_queue (y : Yli) : y.beginFrame.queue = y.queue ∨ y.beginFrame.queue = y.queue.tail := by
  unfold Yli.beginFrame
  split
  · split
    · exact .inl rfl
    · next head => exact .inr (by rw [head]; rfl)
  · exact .inl rfl

@[simp] theorem standbyToWaiting_yli_queue (s : State) : (standbyToWaiting s).yli.queue = s.yli.queue := by
  unfold standbyToWaiting; split <;> rfl

/-- An event that triggers no REPORT puts nothing into the queue at its end: the head alone may leave it (R82, R88). -/
theorem finish_queue_of_notDue {s : State} (notDue : s.yli.reportDue = false) :
    (finish s).yli.queue = s.yli.queue ∨ (finish s).yli.queue = s.yli.queue.tail := by
  have unflushed : flushReport s = s := by simp [flushReport, notDue]
  rw [finish, unflushed]
  simpa [txSettle] using beginFrame_queue (standbyToWaiting { s with yli := { s.yli with reportDue := false } }).yli

/-! ## The order and the button (R40, R173, R178) -/

/-- In LISTEN and RUN the ACCEPT order is taken under the own number and under all (R173). -/
theorem orderTaken_accept {s : State} (working : s.working = true) (a : Address) : orderTaken s a .accept = true := by
  cases a with
  | own => simp [orderTaken, working]
  | all => simp [orderTaken, working]

/-- The ACCEPT order in LISTEN and RUN is the accept, and the end of the event (R173, R174, R178). -/
theorem exec_accept_of_working {s : State} (supply : s.supply = true) (working : s.working = true) (a : Address) :
    exec (.accept a) s = .next (finish (acceptAlarms s)) := by
  have unfolded : exec (.accept a) s = .next (powered (orderHanded a .accept noReadings) s) := rfl
  have onLine : s.onLine = true := by simp [State.onLine, working]
  rw [unfolded, powered, if_pos supply, orderHanded, judgeOrder, if_pos onLine, if_pos (orderTaken_accept working a)]
  rfl

/-- A press of the open button is the accept at the closed pin, and the 10 s begin (R40, R178). -/
theorem exec_acceptButtonPress_of_open {s : State} (supply : s.supply = true) (opened : s.ini.button = false) :
    exec .acceptButtonPress s = .next (pressButton (closeButton s)) := by
  have unfolded : exec .acceptButtonPress s =
      .next (if s.ini.button then s else powered pressButton (closeButton s)) := rfl
  have on : (closeButton s).supply = true := supply
  rw [unfolded, opened, if_neg Bool.false_ne_true, powered, if_pos on]

/-- Settles O28: both ways make the one accept, and the end of the order's event moves the yard line interface alone. -/
theorem acceptKeepsWhatIsCurrent : Obligations.AcceptKeepsWhatIsCurrent := by
  refine ⟨fun a s supply working => ?order, fun s supply opened => ?press, fun s => ⟨openButton s, rfl, rfl⟩⟩
  case order =>
    have oau : (finish (acceptAlarms s)).oau = (acceptAlarms s).oau := finish_oau _
    refine ⟨finish (acceptAlarms s), exec_accept_of_working supply working a, by rw [oau]; rfl, fun k => ?latched,
      finish_yli_reportTimer _, fun notDue => finish_queue_of_notDue (s := acceptAlarms s) notDue, ?frame⟩
    case latched =>
      rw [State.isLatched, oau]
      exact isLatched_acceptAlarms k s
    case frame =>
      rw [oau]
      exact finish_frame (acceptAlarms s)
  case press =>
    exact ⟨pressButton (closeButton s), exec_acceptButtonPress_of_open supply opened, rfl,
      fun k => isLatched_acceptAlarms k (closeButton s), rfl, rfl, rfl⟩

end Machine

end Sys2Proof
end

section
/-! SUPPORT. What a command answers: the state it leaves, as a function of the command and the state, and the statements
that follow from it alone. -/

namespace Sys2Proof.Machine

/-! ## The state a command leaves -/

/-- The state that a command leaves (log 5: every command but POWER_ON and those of the pins needs the supply). -/
def leaves (c : Instr) (s : State) : State :=
  match c with
  | .powerOn r => powerOn r s
  | .entryToListen key => powered (enterListen key) s
  | .listenTimerExpiry => powered listenExpired s
  | .retainedWriteComplete back r => powered (writeDone back r) s
  | .inputSample i x => powered (sampleInput i x) s
  | .holdTimerExpiry i => powered (holdExpired i) s
  | .meterPulse m => powered (countPulse m) s
  | .minuteImpulse => powered minuteImpulse s
  | .impulseTimerExpiry => powered selfCount s
  | .absorbWindowExpiry => powered closeAbsorb s
  | .synchronisingImpulse => powered synchronise s
  | .keyPositionTaken p => powered (takeKey p) s
  | .acceptButtonPress => if s.ini.button then s else powered pressButton (closeButton s)
  | .acceptButtonHeld r => powered (buttonHeld r) s
  | .endSwitchChange v e m => endSwitch v e m s
  | .travelTimerExpiry v => powered (travelExpired v) s
  | .reckoning => powered reckonExpired s
  | .carrierOnLine => powered carrierHeard s
  | .lineIdle b => powered (lineFellIdle b) s
  | .frameReceived chars r => powered (frameHeard chars r) s
  | .frameCompletion => powered frameDone s
  | .collision => powered frameCollided s
  | .backOffTimerExpiry => powered backOffExpired s
  | .blockedTimerExpiry => powered blockedExpired s
  | .reportTimerExpiry => powered reportExpired s
  | .staleExpiry n => powered (staleExpired n) s
  | .removalExpiry n => powered (removalExpired n) s
  | .clashTimerExpiry => powered clashExpired s
  | .silenceTimerExpiry => powered silenceExpired s
  | .callReleaseTimerExpiry r k => powered (callExpired r k) s
  | .joinDelayExpiry r => powered (delayExpired r) s
  | .dwellTimerExpiry r => powered (dwellExpired r) s
  | .relearnHoldTimerExpiry => powered relearnExpired s
  | .stepTimerExpiry => powered stepExpired s
  | .hand a d => powered (orderHanded a (.hand d) noReadings) s
  | .auto a => powered (orderHanded a .auto noReadings) s
  | .accept a => powered (orderHanded a .accept noReadings) s
  | .restart a r => powered (orderHanded a .restart r) s
  | .lineReset a => powered (orderHanded a .lineReset noReadings) s
  | .quiet a => powered (orderHanded a .quiet noReadings) s
  | .talk a => powered (orderHanded a .talk noReadings) s
  | .accountRequest a p => powered (orderHanded a (.accountRequest p) noReadings) s
  | .statusRequest a => powered (orderHanded a .statusRequest noReadings) s
  | .lossOfSupply => powered loseSupply s
  | .acceptButtonRelease => openButton s

/-- Every command is answered with the state it leaves. -/
theorem exec_eq_leaves (c : Instr) (s : State) : exec c s = .next (leaves c s) := by
  cases c <;> rfl

/-- A step is one millisecond on an empty queue, and else the command at its front on the rest of the queue. -/
theorem step_cases {s t : State} (h : step s = .next t) :
    (s.pending = [] ∧ t = tick s) ∨
      ∃ c rest, s.pending = c :: rest ∧ t = leaves c { s with pending := rest } := by
  unfold step at h
  split at h
  · next empty => exact .inl ⟨empty, (Host.Outcome.next.inj h).symm⟩
  · next c rest front =>
    rw [exec_eq_leaves] at h
    exact .inr ⟨c, rest, front, (Host.Outcome.next.inj h).symm⟩

theorem powered_of_supply {s : State} (supply : s.supply = true) (f : State → State) : powered f s = f s := if_pos supply
theorem powered_of_none {s : State} (supply : s.supply = false) (f : State → State) : powered f s = s := by
  simp [powered, supply]

/-- What holds of a state and of what some work makes of it holds of the powered work. -/
theorem powered_cases {P : State → Prop} {f : State → State} {s : State} (still : P s) (works : P (f s)) :
    P (powered f s) := by
  unfold powered
  split
  · exact works
  · exact still

/-! ## The statements -/

/-- Settles O1, by the definition of a step. -/
theorem stepRunsTheFrontCommand : Obligations.StepRunsTheFrontCommand := by
  intro c rest s front
  simp only [step, front]

theorem timer_tick (x : RoleState) (k : CallKind) : x.tick.timer k = (x.timer k).tick := by cases k <;> rfl

/-- Settles O2: both cases of the supply, and of a timer by its three states. -/
theorem emptyQueueStepPassesTime : Obligations.EmptyQueueStepPassesTime := by
  intro s empty
  refine ⟨tick s, by simp only [step, empty], fun off => powered_of_none off _, fun on => ?_⟩
  have ticked : tick s = tickWork s := powered_of_supply on _
  have role : ∀ r, (tickWork s).ysu.role r = (s.ysu.role r).tick := by intro r; cases r <;> rfl
  rw [ticked]
  refine ⟨fun r k left running => ?_, fun r k stopped => ?_, fun r => ?_, rfl⟩
  · rw [role, timer_tick, running]
    rfl
  · rw [role, timer_tick]
    cases at_ : (s.ysu.role r).timer k with
    | stopped => rfl
    | running left => exact absurd at_ (stopped left)
    | active => rfl
  · rw [role]
    rfl

/-- Settles O4, value by value of the state the model starts in. -/
theorem resetHoldsPowerOnValues : Obligations.ResetHoldsPowerOnValues := by
  have roles : ∀ r, State.reset.holds r = false ∧ (State.reset.ysu.role r).able = false ∧
      (State.reset.ysu.role r).call = .stopped ∧ (State.reset.ysu.role r).release = .stopped ∧
      (State.reset.ysu.role r).delay = none ∧ (State.reset.ysu.role r).dwell = none := by
    intro r
    cases r <;> exact ⟨rfl, rfl, rfl, rfl, rfl, rfl⟩
  unfold Obligations.ResetHoldsPowerOnValues
  dsimp only
  repeat' apply And.intro
  all_goals try rfl
  exact roles

/-- Settles O5, law by law: nothing waits, no kind is current, no role is held, no record is kept. -/
theorem resetSatisfiesTheLaws : Obligations.ResetSatisfiesTheLaws := by
  unfold Obligations.ResetSatisfiesTheLaws
  refine ⟨by decide, by decide, by decide, by decide, by decide, by decide, by decide, trivial, by decide, by decide,
    by decide, by decide, by decide, by decide, by decide, ?store, by decide, ?inputs, by decide, ?plant⟩
  case store => refine ⟨?_, ?_, ?_⟩ <;> (intro x holds; cases holds)
  case inputs =>
    have cleared : ∀ i, recordLaw i InputRecord.cleared := fun i => ⟨nofun, nofun, by decide⟩
    exact ⟨cleared .crown, cleared .gauge, cleared .inletMain, cleared .district, cleared .gasTemp, cleared .barometer⟩
  case plant => exact ⟨(by intro p used; cases used), by decide, by decide, by decide⟩

/-- Settles O22, with the plug in use and without it. -/
theorem meterPulseCounts : Obligations.MeterPulseCounts := by
  intro s supply
  constructor
  all_goals
    refine ⟨_, exec_eq_leaves _ s, ?_⟩
    rw [leaves, powered_of_supply supply, countPulse]
    split
    · simp [countUp, Config.counterTop]
    · simp

/-- Without supply a command other than POWER_ON moves the pins alone (log 5). -/
theorem leaves_of_none {c : Instr} {s : State} (off : s.supply = false) (other : ∀ r, c ≠ .powerOn r) :
    leaves c s = { s with ini := { s.ini with
      button := (leaves c s).ini.button, buttonHold := (leaves c s).ini.buttonHold,
      inletSwitches := (leaves c s).ini.inletSwitches, outletSwitches := (leaves c s).ini.outletSwitches } } := by
  have still : ∀ f : State → State, powered f s = s := powered_of_none off
  cases c with
  | powerOn r => exact absurd rfl (other r)
  | acceptButtonRelease => rfl
  | acceptButtonPress =>
    have pressed : leaves .acceptButtonPress s = if s.ini.button then s else closeButton s := by
      rw [leaves, powered_of_none (s := closeButton s) off]
    rw [pressed]
    split <;> rfl
  | endSwitchChange v e m =>
    have moved : leaves (.endSwitchChange v e m) s =
        if (s.ini.switches v).made e = m then s else setSwitch v e m s := by
      rw [leaves, endSwitch, powered_of_none (s := setSwitch v e m s) off]
    rw [moved]
    split
    · rfl
    · cases v <;> rfl
  | _ => simp only [leaves, still]

end Sys2Proof.Machine
end

section
/-! SUPPORT. What every operation keeps: the laws of the device that hold block by block, each kept by itself, so that a
command keeps them because the operations it is made of do. -/

namespace Sys2Proof

/-! ## Retained contents -/

/-- A list of records as the station writes it (R165, R168). -/
def listWf (l : List AccountRecord) : Prop :=
  l.length ≤ 12 ∧ (∀ r ∈ l, r.balanced = true) ∧ (∀ r ∈ l, periodNumber r.number = true) ∧ chainedList l = true

/-- Retained contents are well formed by their list, the open period that continues it, and the ranges of R152. -/
theorem RetainedContents.wf_iff (c : RetainedContents) : c.wf = true ↔
    listWf c.list ∧ c.period.continues c.list = true ∧ c.period.entries.length ≤ 8 ∧
      (c.inletResidue ≤ 65535 ∧ c.outletResidue ≤ 65535) ∧ c.cycles ≤ 65535 ∧ c.restTime ≤ 65535 ∧ c.minute ≤ 1439 := by
  simp [RetainedContents.wf, listWf, and_assoc]

/-- Whether a period continues a list rests on its number and its opening stock alone. -/
theorem OpenPeriod.continues_congr {p q : OpenPeriod} (number : p.number = q.number) (stock : p.openingStock = q.openingStock)
    (l : List AccountRecord) : p.continues l = q.continues l := by
  simp only [OpenPeriod.continues, number, stock]

end Sys2Proof

namespace Sys2Proof.Machine

/-! ## Equal states -/

/-- Two states are one when every field is. -/
theorem State.eq_of_fields {s t : State} (supply : s.supply = t.supply) (station : s.station = t.station)
    (startKind : s.startKind = t.startKind) (stepsDone : s.stepsDone = t.stepsDone)
    (listenTimer : s.listenTimer = t.listenTimer) (number : s.number = t.number) (plug : s.plug = t.plug)
    (plugSum : s.plugSum = t.plugSum) (ini : s.ini = t.ini) (vdu : s.vdu = t.vdu) (srk : s.srk = t.srk)
    (mvc : s.mvc = t.mvc) (yli : s.yli = t.yli) (ysu : s.ysu = t.ysu) (pgv : s.pgv = t.pgv) (acu : s.acu = t.acu)
    (oau : s.oau = t.oau) (rst : s.rst = t.rst) (pending : s.pending = t.pending) : s = t := by
  cases s
  cases t
  simp only at *
  subst_vars
  rfl

/-! ## The laws between the operations of one event -/

/-- The line between the operations of an event: a sender has its message and a BUSY line, a waiting transmitter a queue; one
that stands by with a queue is held by QUIET or will wait at the event's end; and a REPORT is due in LISTEN and RUN alone. -/
def lineMid (s : State) : Prop :=
  (s.yli.tx = .sending → s.yli.line = .busy ∧ s.yli.inFlight.isSome = true) ∧
    (s.yli.tx = .waiting → s.yli.queue ≠ []) ∧
    (s.yli.tx = .standby → s.yli.queue = [] ∨ s.yli.quiet = true ∨ s.onLine = true) ∧
    (s.yli.reportDue = true → s.working = true)

/-- The governor between the operations of an event: its opening, step timer and output agree with its mode and with the
outlet drive, whatever R138's table would say of the mode (R139, R142, R145). -/
def governorMid (s : State) : Prop :=
  s.pgv.opening ≤ 1000 ∧ (s.pgv.step.isSome = true ↔ s.pgv.mode ≠ .released) ∧
    (s.pgv.mode = .released → s.pgv.opening = 0 ∧ s.vdu.governor = .released) ∧
    (s.pgv.mode ≠ .released → s.vdu.governor = .driven s.pgv.opening) ∧
    (s.vdu.outlet.state ≠ .isOpen → s.pgv.opening = 0)

/-- The command is an entry to LISTEN. -/
def isEntry (c : Instr) : Bool :=
  match c with
  | .entryToListen _ => true
  | _ => false

/-- The accounts between the operations of an event: what a write would copy is well formed, so is what the halves hold; an
opening stock is awaited with the list empty alone, and before LISTEN alone but for the entry's own first reckoning. -/
def booksMid (c : Instr) (s : State) : Prop :=
  (retainedContents s).wf = true ∧ storeLaw s ∧ (s.acu.openingDue = true → s.acu.list = []) ∧
    (isEntry c = false → s.acu.openingDue = true → s.working = false)

/-- The settings and the height (R1, R7, R182). -/
def plantMid (s : State) : Prop :=
  (∀ p ∈ s.plug, p.valid = true) ∧ (s.stepsDone = true ∨ s.working = true → s.plug.isSome = true) ∧
    s.srk.record.h ≤ totalTravel s.cfg.lifts

/-- The record of LISTEN and RUN has been graded (R24). -/
def gradedMid (s : State) : Prop := s.working = true → s.srk.graded = true

/-- Each law that holds block by block is kept from one state of an event to another. The first reckoning is under way between
the operations of an entry to LISTEN, and a governor step rests on the mode being the table's: these are left out here. -/
structure Keeps (c : Instr) (s t : State) : Prop where
  pending : t.pending = s.pending
  alarm : alarmLaw s → alarmLaw t
  queue : queueLaw s → queueLaw t
  line : lineMid s → lineMid t
  table : stationLaw s ∧ tableLaw s → stationLaw t ∧ tableLaw t
  input : inputLaw s → inputLaw t
  plant : plantMid s → plantMid t
  drive : ∀ v, driveLaw (s.vdu.drive v) → driveLaw (t.vdu.drive v)
  governor : c ≠ .stepTimerExpiry → governorMid s → governorMid t
  books : c.wellFormed = true → booksMid c s → booksMid c t
  graded : isEntry c = false → gradedMid s → gradedMid t

namespace Keeps

variable {c : Instr} {s t u : State}

theorem refl (s : State) : Keeps c s s :=
  ⟨rfl, id, id, id, id, id, id, fun _ => id, fun _ => id, fun _ => id, fun _ => id⟩

theorem trans (h : Keeps c s t) (k : Keeps c t u) : Keeps c s u where
  pending := k.pending.trans h.pending
  alarm := k.alarm ∘ h.alarm
  queue := k.queue ∘ h.queue
  line := k.line ∘ h.line
  table := k.table ∘ h.table
  input := k.input ∘ h.input
  plant := k.plant ∘ h.plant
  drive v := k.drive v ∘ h.drive v
  governor other := k.governor other ∘ h.governor other
  books wf := k.books wf ∘ h.books wf
  graded other := k.graded other ∘ h.graded other

/-! ## A block replaced -/

/-- The alarm sets and the line replaced. -/
theorem ofSignals (o : Oau) (y : Yli) (alarm : alarmLaw s → alarmLaw { s with oau := o })
    (queue : queueLaw s → queueLaw { s with yli := y }) (line : lineMid s → lineMid { s with yli := y }) :
    Keeps c s { s with oau := o, yli := y } :=
  ⟨rfl, alarm, queue, line, id, id, id, fun _ => id, fun _ => id, fun _ => id, fun _ => id⟩

theorem ofOau (o : Oau) (alarm : alarmLaw s → alarmLaw { s with oau := o }) : Keeps c s { s with oau := o } :=
  ofSignals o s.yli alarm id id

theorem ofYli (y : Yli) (queue : queueLaw s → queueLaw { s with yli := y })
    (line : lineMid s → lineMid { s with yli := y }) : Keeps c s { s with yli := y } :=
  ofSignals s.oau y id queue line

/-- The yard sharing unit replaced, its table kept. -/
theorem ofYsu (y : Ysu) (same : y.table = s.ysu.table) : Keeps c s { s with ysu := y } where
  pending := rfl
  alarm := id
  queue := id
  line := id
  table law := by
    unfold stationLaw tableLaw at *
    dsimp only
    rw [same]
    exact law
  input := id
  plant := id
  drive _ := id
  governor _ := id
  books _ := id
  graded _ := id

/-- The yard sharing unit replaced, its table within its laws. -/
theorem ofTable (y : Ysu) (table : stationLaw s ∧ tableLaw s → stationLaw { s with ysu := y } ∧ tableLaw { s with ysu := y }) :
    Keeps c s { s with ysu := y } :=
  ⟨rfl, id, id, id, table, id, id, fun _ => id, fun _ => id, fun _ => id, fun _ => id⟩

/-- The movement controller replaced, its retained figures in range. -/
theorem ofMvc (m : Mvc) (cycles : s.mvc.cycles ≤ 65535 → m.cycles ≤ 65535)
    (rest : s.mvc.restTime ≤ 65535 → m.restTime ≤ 65535) : Keeps c s { s with mvc := m } where
  pending := rfl
  alarm := id
  queue := id
  line := id
  table := id
  input := id
  plant := id
  drive _ := id
  governor _ := id
  books _ law := by
    obtain ⟨wf, store, opening⟩ := law
    refine ⟨?_, store, opening⟩
    rw [RetainedContents.wf_iff] at wf ⊢
    obtain ⟨list, follows, entries, residues, cyclesTop, restTop, minute⟩ := wf
    exact ⟨list, follows, entries, residues, cycles cyclesTop, rest restTop, minute⟩
  graded _ := id

/-- The movement controller replaced, its retained figures kept. -/
theorem ofMvc_same (m : Mvc) (cycles : m.cycles = s.mvc.cycles) (rest : m.restTime = s.mvc.restTime) :
    Keeps c s { s with mvc := m } :=
  ofMvc m (cycles ▸ id) (rest ▸ id)

/-- The account unit replaced. -/
theorem ofAcu (a : Acu) (books : c.wellFormed = true → booksMid c s → booksMid c { s with acu := a }) :
    Keeps c s { s with acu := a } :=
  ⟨rfl, id, id, id, id, id, id, fun _ => id, fun _ => id, books, fun _ => id⟩

/-- The account unit replaced, with nothing of what a write copies changed but the figures that have no law. -/
theorem ofAcu_same (a : Acu) (list : a.list = s.acu.list) (number : a.period.number = s.acu.period.number)
    (stock : a.period.openingStock = s.acu.period.openingStock) (entries : a.period.entries = s.acu.period.entries)
    (inlet : a.inletResidue = s.acu.inletResidue) (outlet : a.outletResidue = s.acu.outletResidue)
    (due : a.openingDue = s.acu.openingDue) : Keeps c s { s with acu := a } := by
  refine ofAcu a fun _ law => ?_
  obtain ⟨wf, store, opening⟩ := law
  refine ⟨?_, store, by dsimp only; rw [list, due]; exact opening⟩
  rw [RetainedContents.wf_iff] at wf ⊢
  dsimp only [retainedContents] at wf ⊢
  rw [list, OpenPeriod.continues_congr number stock, entries, inlet, outlet]
  exact wf

/-- The drives and the governor replaced. -/
theorem ofDrives (v : Vdu) (g : Pgv) (drive : ∀ d, driveLaw (s.vdu.drive d) → driveLaw (v.drive d))
    (governor : governorMid s → governorMid { s with vdu := v, pgv := g }) :
    Keeps c s { s with vdu := v, pgv := g } :=
  ⟨rfl, id, id, id, id, id, id, drive, fun _ => governor, fun _ => id, fun _ => id⟩

/-- The instrument interface replaced. -/
theorem ofIni (n : Ini) (input : inputLaw s → inputLaw { s with ini := n }) (minute : s.ini.minute ≤ 1439 → n.minute ≤ 1439)
    (key : s.ini.keyTaken = true → n.keyTaken = true) : Keeps c s { s with ini := n } where
  pending := rfl
  alarm := id
  queue := id
  line := id
  table law := by
    obtain ⟨⟨steps, working, alone⟩, table⟩ := law
    exact ⟨⟨steps, fun on => ⟨(working on).1, key (working on).2⟩, alone⟩, table⟩
  input := input
  plant := id
  drive _ := id
  governor _ := id
  books _ law := by
    obtain ⟨wf, store, opening⟩ := law
    refine ⟨?_, store, opening⟩
    rw [RetainedContents.wf_iff] at wf ⊢
    obtain ⟨list, follows, entries, residues, cycles, rest, minuteTop⟩ := wf
    exact ⟨list, follows, entries, residues, cycles, rest, minute minuteTop⟩
  graded _ := id

/-- The retained store replaced. -/
theorem ofRst (r : Rst) (store : c.wellFormed = true → booksMid c s → storeLaw { s with rst := r }) :
    Keeps c s { s with rst := r } :=
  ⟨rfl, id, id, id, id, id, id, fun _ => id, fun _ => id, fun wf law => ⟨law.1, store wf law, law.2.2⟩, fun _ => id⟩

/-- The stock reckoner replaced, its height within the travel and its record graded where it was. -/
theorem ofSrk (r : Srk) (height : s.srk.record.h ≤ totalTravel s.cfg.lifts → r.record.h ≤ totalTravel s.cfg.lifts)
    (graded : s.srk.graded = true → r.graded = true) : Keeps c s { s with srk := r } :=
  ⟨rfl, id, id, id, id, id, fun law => ⟨law.1, law.2.1, height law.2.2⟩, fun _ => id, fun _ => id, fun _ => id,
    fun _ law on => graded (law on)⟩

end Keeps

end Sys2Proof.Machine
end

section
/-! SUPPORT. What the shared operations keep: signals, entries, windows, drives, duty sharing, the end of an event. -/

namespace Sys2Proof.Machine

/-! ## The alarm sets (R176 to R179) -/

/-- R177 and R179, alarm bit by alarm bit. -/
theorem alarmLaw_iff (s : State) :
    alarmLaw s ↔ ∀ i, s.oau.current.getLsbD i = true → s.oau.latched.getLsbD i = true := by
  unfold alarmLaw
  constructor
  · intro law i current
    have bit := congrArg (BitVec.getLsbD · i) law
    have inRange : i < 16 := BitVec.lt_of_getLsbD current
    simpa [current, inRange] using bit
  · intro law
    apply BitVec.eq_of_getLsbD_eq
    intro i inRange
    have bit := law i
    simp only [BitVec.getLsbD_and, BitVec.getLsbD_not, inRange, decide_true, Bool.true_and, BitVec.getLsbD_zero]
    cases current : s.oau.current.getLsbD i <;> simp_all

theorem getLsbD_withAlarm (w : Word) (k : AlarmKind) (i : Nat) :
    (withAlarm w k).getLsbD i = (w.getLsbD i || (alarmBit k).getLsbD i) := BitVec.getLsbD_or

theorem getLsbD_withoutAlarm (w : Word) (k : AlarmKind) (i : Nat) :
    (withoutAlarm w k).getLsbD i = true → w.getLsbD i = true := by
  simp only [withoutAlarm, BitVec.getLsbD_and, Bool.and_eq_true]
  exact fun h => h.1

theorem alarmBit_of_hasAlarm {w : Word} {k : AlarmKind} {i : Nat} (has : hasAlarm w k = true)
    (bit : (alarmBit k).getLsbD i = true) : w.getLsbD i = true := by
  have at_ : i = k.bit := by
    simp only [alarmBit, BitVec.getLsbD_shiftLeft, BitVec.getLsbD_one, Bool.and_eq_true, Bool.not_eq_true',
      decide_eq_true_eq, decide_eq_false_iff_not] at bit
    omega
  rw [at_]
  exact has

/-- A kind that enters the latched set joins a set in which it already stands, or is new to it. -/
theorem latch_latched_superset (k : AlarmKind) (s : State) (i : Nat) :
    (s.oau.latched.getLsbD i = true ∨ (alarmBit k).getLsbD i = true) → (latch k s).oau.latched.getLsbD i = true := by
  rw [latch_oau]
  split
  · next stands => exact fun h => h.elim id (alarmBit_of_hasAlarm stands)
  · intro h
    simpa [getLsbD_withAlarm] using h

theorem alarmLaw_latch (k : AlarmKind) {s : State} (law : alarmLaw s) : alarmLaw (latch k s) := by
  rw [alarmLaw_iff] at law ⊢
  intro i current
  rw [latch_current] at current
  exact latch_latched_superset k s i (.inl (law i current))

theorem alarmLaw_raise (k : AlarmKind) {s : State} (law : alarmLaw s) : alarmLaw (raise k s) := by
  unfold raise
  split
  · exact law
  · rw [alarmLaw_iff] at law ⊢
    intro i current
    rw [latch_current] at current
    apply latch_latched_superset
    simp only [getLsbD_withAlarm, Bool.or_eq_true] at current
    exact current.imp (law i) id

/-! ## Signals, entries and triggers (R88, R157, R176, R177) -/

namespace Keeps

variable {c : Instr} {s t u : State}

theorem trigger (s : State) : Keeps c s (trigger s) := by
  unfold Machine.trigger
  split
  · next working =>
    refine ofYli _ id fun law => ?_
    obtain ⟨sending, waiting, standby, -⟩ := law
    exact ⟨sending, waiting, standby, fun _ => working⟩
  · exact refl s

theorem latch (k : AlarmKind) (s : State) : Keeps c s (latch k s) := by
  unfold Machine.latch
  split
  · exact refl s
  · next new =>
    refine (ofOau _ fun law => ?_).trans (trigger _)
    have latched := alarmLaw_latch k law
    rw [alarmLaw_iff] at latched ⊢
    intro i current
    have bit := latched i (by rwa [latch_current])
    rwa [latch_oau, if_neg (by simpa [State.isLatched] using new)] at bit

/-- A kind raised is current before it is latched: the alarm law holds again with the latching. -/
theorem raise (k : AlarmKind) (s : State) : Keeps c s (raise k s) := by
  have alarm : alarmLaw s → alarmLaw (Machine.raise k s) := alarmLaw_raise k
  unfold Machine.raise at alarm ⊢
  split at alarm
  · next stands => rw [if_pos stands]; exact refl s
  · next new =>
    rw [if_neg new]
    let q : State := { s with oau := { s.oau with current := withAlarm s.oau.current k } }
    have kept : Keeps c q (Machine.latch k q) := latch k q
    exact ⟨kept.pending, alarm, kept.queue, kept.line, kept.table, kept.input, kept.plant, kept.drive, kept.governor,
      kept.books, kept.graded⟩

theorem cease (k : AlarmKind) (s : State) : Keeps c s (cease k s) := by
  refine ofOau _ fun law => ?_
  rw [alarmLaw_iff] at law ⊢
  exact fun i current => law i (getLsbD_withoutAlarm _ _ _ current)

theorem acceptAlarms (s : State) : Keeps c s (acceptAlarms s) := by
  refine ofOau _ fun law => ?_
  rw [alarmLaw_iff] at law ⊢
  intro i current
  simp [law i current, current]

theorem makeEntry (k : EventKind) (s : State) : Keeps c s (makeEntry k s) := by
  unfold Machine.makeEntry
  split
  · refine ofAcu _ fun _ law => ?_
    obtain ⟨wf, store, opening⟩ := law
    refine ⟨?_, store, opening⟩
    rw [RetainedContents.wf_iff] at wf ⊢
    dsimp only [retainedContents] at wf ⊢
    unfold OpenPeriod.addEntry
    split
    · simp only [List.length_append, List.length_singleton]
      exact ⟨wf.1, wf.2.1, by omega, wf.2.2.2⟩
    · exact wf
  · exact refl s

theorem raiseWithEntry (k : AlarmKind) (e : EventKind) (s : State) : Keeps c s (raiseWithEntry k e s) := by
  unfold Machine.raiseWithEntry
  split
  · exact refl s
  · exact (raise k s).trans (makeEntry e _)

/-! ## Windows, guards and grades (R23, R24, R60, R64, R66, R158) -/

theorem judgeLossWindow (s : State) : Keeps c s (judgeLossWindow s) := by
  unfold Machine.judgeLossWindow
  split
  · split
    · exact refl s
    · exact ofMvc_same _ rfl rfl
  · exact ofMvc_same _ rfl rfl

theorem silentWindow (w : Option SilentWindow) (s : State) :
    Keeps c s { s with acu := { s.acu with silentWindow := w } } :=
  ofAcu_same _ rfl rfl rfl rfl rfl rfl rfl

theorem judgeSilentWindow (s : State) : Keeps c s (judgeSilentWindow s) := by
  unfold Machine.judgeSilentWindow
  split
  · split
    · exact refl s
    · exact silentWindow _ s
  · exact silentWindow _ s

theorem judgeWindows (s : State) : Keeps c s (Machine.judgeSilentWindow (Machine.judgeLossWindow s)) :=
  (judgeLossWindow s).trans (judgeSilentWindow _)

theorem judgeLimitGuard (s : State) : Keeps c s (judgeLimitGuard s) := by
  unfold Machine.judgeLimitGuard
  split
  · exact raiseWithEntry _ _ s
  · exact cease _ s

theorem endLanding (s : State) : Keeps c s (endLanding s) :=
  (ofMvc_same { s.mvc with landingLeg := false } rfl rfl).trans (judgeLimitGuard _)

theorem signalGrade (st : StockStatus) (s : State) : Keeps c s (signalGrade st s) := by
  cases st with
  | valid => exact cease _ s
  | doubtful => exact cease _ s
  | held => exact (cease _ s).trans (makeEntry _ _)
  | invalid => exact (raise _ s).trans (makeEntry _ _)

theorem regrade (s : State) : Keeps c s (regrade s) := by
  unfold Machine.regrade
  split
  · dsimp only
    split
    · exact refl s
    · refine .trans ?_ (judgeWindows _)
      refine .trans ?_ (signalGrade _ _)
      exact ofSrk _ id id
  · exact refl s

theorem signalDrive (d : Side) (before after : DriveState) (s : State) : Keeps c s (signalDrive d before after s) := by
  unfold Machine.signalDrive
  split
  · exact (raise _ s).trans (makeEntry _ _)
  · split
    · exact cease _ s
    · exact refl s

end Keeps

end Sys2Proof.Machine
end

section
/-! SUPPORT. What drives, governor and duty sharing keep. -/

namespace Sys2Proof.Machine

/-! ## Drive records (R42, R43, R44 to R48) -/

/-- A drive that is not driven meets the law. -/
theorem driveLaw_of_notDriven {d : Drive} (idle : d.output = .notDriven) (retry : d.retry ≤ 2) : driveLaw d :=
  ⟨retry, fun _ => idle, fun driven => (by simp [idle] at driven), fun driven => (by simp [idle] at driven)⟩

theorem driveLaw_rest (d : Drive) : driveLaw d.rest := driveLaw_of_notDriven rfl (Nat.zero_le 2)
theorem driveLaw_arrive (e : DriveState) (d : Drive) : driveLaw (d.arrive e) := driveLaw_of_notDriven rfl (Nat.zero_le 2)
theorem driveLaw_fail (d : Drive) : driveLaw d.fail := driveLaw_of_notDriven rfl (Nat.zero_le 2)

theorem driveLaw_driveOpen (t : Nat) {d : Drive} (given : d.command ≠ .none) : driveLaw (d.driveOpen t) :=
  ⟨Nat.zero_le 2, fun free => absurd free given, fun _ => ⟨rfl, rfl⟩, fun driven => (by simp [Drive.driveOpen] at driven)⟩

theorem driveLaw_driveClosed (t : Nat) {d : Drive} (given : d.command ≠ .none) : driveLaw (d.driveClosed t) :=
  ⟨Nat.zero_le 2, fun free => absurd free given, fun driven => (by simp [Drive.driveClosed] at driven),
    fun _ => ⟨rfl, rfl⟩⟩

/-- A command acted on leaves a record that meets the law, where the record does but for the command it has just taken. -/
theorem driveLaw_act (t : Nat) {d : Drive} (retry : d.retry ≤ 2)
    (opening : d.output = .towardOpen → d.state = .opening ∧ d.travel.isSome = true)
    (closing : d.output = .towardClosed → d.state = .closing ∧ d.travel.isSome = true) : driveLaw (d.act t) := by
  have standing : d.command ≠ .none → driveLaw d := fun given => ⟨retry, fun free => absurd free given, opening, closing⟩
  unfold Drive.act
  split
  · next fault =>
    refine driveLaw_of_notDriven ?_ retry
    cases driven : d.output with
    | notDriven => rfl
    | towardOpen => simp [(opening driven).1] at fault
    | towardClosed => simp [(closing driven).1] at fault
  · exact driveLaw_rest d
  · next given => exact driveLaw_driveClosed t (by simp [given])
  · exact driveLaw_rest d
  · next given => exact driveLaw_driveOpen t (by simp [given])
  · exact driveLaw_rest d
  · exact driveLaw_rest d
  · next given =>
    split
    · exact standing (by simp [given])
    · exact driveLaw_driveOpen t (by simp [given])
  · next given => exact driveLaw_driveClosed t (by simp [given])
  · exact driveLaw_rest d
  · next given => exact driveLaw_driveOpen t (by simp [given])
  · next given =>
    split
    · exact standing (by simp [given])
    · exact driveLaw_driveClosed t (by simp [given])
  · exact driveLaw_rest d

theorem driveLaw_take (t : Nat) (c : DriveCommand) {d : Drive} (law : driveLaw d) : driveLaw (d.take t c) := by
  obtain ⟨retry, -, opening, closing⟩ := law
  exact driveLaw_act t (d := { d with command := c }) retry opening closing

theorem driveLaw_leaveOpen (t : Nat) (d : Drive) : driveLaw (d.leaveOpen t) := by
  unfold Drive.leaveOpen
  split
  · next given => exact driveLaw_driveOpen t (by simp [given])
  · next given => exact driveLaw_driveClosed t (by simp [given])
  · exact driveLaw_of_notDriven rfl (Nat.zero_le 2)

theorem driveLaw_leaveClosed (t : Nat) (d : Drive) : driveLaw (d.leaveClosed t) := by
  unfold Drive.leaveClosed
  split
  · next given => exact driveLaw_driveClosed t (by simp [given])
  · next given => exact driveLaw_driveOpen t (by simp [given])
  · exact driveLaw_of_notDriven rfl (Nat.zero_le 2)

theorem driveLaw_follow (t : Nat) (w : Switches) {d : Drive} (law : driveLaw d) : driveLaw (d.follow t w) := by
  have arrives : driveLaw (if w.openMade then d.arrive .isOpen else if w.closedMade then d.arrive .isClosed else d) := by
    split
    · exact driveLaw_arrive _ d
    · split
      · exact driveLaw_arrive _ d
      · exact law
  unfold Drive.follow
  split
  · exact law
  · split
    · exact law
    · exact driveLaw_leaveOpen t d
  · split
    · exact law
    · exact driveLaw_leaveClosed t d
  · exact arrives
  · exact arrives

theorem driveLaw_switched (t : Nat) (w : Switches) {d : Drive} (law : driveLaw d) : driveLaw (d.switched t w) := by
  have arrived : ∀ e, driveLaw ((d.arrive e).act t) := fun e =>
    driveLaw_act t (Nat.zero_le 2) (fun driven => (by simp [Drive.arrive, Drive.rest] at driven))
      (fun driven => (by simp [Drive.arrive, Drive.rest] at driven))
  unfold Drive.switched
  split
  · split
    · exact law
    · exact driveLaw_fail d
  · split
    · split
      · exact arrived _
      · split
        · exact arrived _
        · exact law
    · split
      · split
        · exact driveLaw_arrive _ d
        · exact law
      · exact driveLaw_follow t w law

theorem driveLaw_expire (t : Nat) {d : Drive} (law : driveLaw d) : driveLaw (d.expire t) := by
  unfold Drive.expire
  split
  · split
    · next again =>
      obtain ⟨-, free, opening, closing⟩ := law
      exact ⟨by simp only; omega, free, fun driven => ⟨(opening driven).1, rfl⟩, fun driven => ⟨(closing driven).1, rfl⟩⟩
    · exact driveLaw_fail d
  · exact law

/-! ## The governor (R139 to R145) -/

theorem governingChange_le (gain : Nat) (e : Int) : governingChange gain e ≤ 40 := by
  unfold governingChange clamp
  split
  · omega
  · split <;> omega

theorem governedOpening_le (gain opening : Nat) (e : Int) : governedOpening gain opening e ≤ 1000 := by
  unfold governedOpening clamp
  split
  · omega
  · split <;> omega

/-- No step opens the governor beyond 1000 (R141 to R144). -/
theorem steppedOpening_le {s : State} (le : s.pgv.opening ≤ 1000) (m : GovernorMode) : steppedOpening s m ≤ 1000 := by
  cases m with
  | released => exact le
  | shut => exact Nat.zero_le _
  | ramping => unfold steppedOpening; dsimp only; split <;> omega
  | holding => exact le
  | governing =>
    unfold steppedOpening
    dsimp only
    split
    · exact governedOpening_le _ _ _
    · exact le

/-- A step off the open outlet leaves the opening 0, but in a mode that governs. -/
theorem steppedOpening_of_notOpen {s : State} (shut : s.outletOpen = false) (zero : s.pgv.opening = 0) {m : GovernorMode}
    (other : m ≠ .governing) : steppedOpening s m = 0 := by
  cases m with
  | released => exact zero
  | shut => rfl
  | ramping => simp [steppedOpening, shut]
  | holding => exact zero
  | governing => exact absurd rfl other

theorem outletOpen_iff (s : State) : s.outletOpen = true ↔ s.vdu.outlet.state = .isOpen := by simp [State.outletOpen]

/-- A mode other than RELEASED is one of R138's driven modes, GOVERNING on the open outlet alone. -/
theorem outletOpen_of_governing {s : State} (mode : modeOf s = .governing) : s.outletOpen = true := by
  unfold modeOf at mode
  split at mode
  · cases mode
  · split at mode
    · cases mode
    · split at mode
      · cases mode
      · next opened => simpa using opened

/-- A step in a driven mode agrees with the output it commands. -/
theorem governorMid_governorStep {s : State} (le : s.pgv.opening ≤ 1000) (running : s.pgv.step.isSome = true)
    (driven : s.pgv.mode ≠ .released) (zero : s.vdu.outlet.state ≠ .isOpen → s.pgv.opening = 0)
    (governing : s.pgv.mode = .governing → s.outletOpen = true) : governorMid (governorStep s) := by
  have top := steppedOpening_le le s.pgv.mode
  have shut : s.outletOpen = false → steppedOpening s s.pgv.mode = 0 := by
    intro off
    refine steppedOpening_of_notOpen off (zero fun on => ?_) fun mode => ?_
    · simp [(outletOpen_iff s).2 on] at off
    · simp [governing mode] at off
  refine ⟨top, ⟨fun _ => driven, fun _ => running⟩, fun released => absurd released driven, fun _ => ?_, fun off => ?_⟩
  · show GovernorOutput.commanded s.outletOpen (steppedOpening s s.pgv.mode) = .driven (steppedOpening s s.pgv.mode)
    unfold GovernorOutput.commanded
    cases opened : s.outletOpen with
    | true => rw [if_pos rfl, Nat.min_eq_left top]
    | false => rw [shut opened]; rfl
  · have closed : ¬ s.vdu.outlet.state = .isOpen := off
    exact shut (by simp [State.outletOpen, closed])

theorem governorMid_judgeMode {s : State} (law : governorMid s) : governorMid (judgeMode s) := by
  have kept := law
  obtain ⟨le, step, released, driven, zero⟩ := law
  unfold judgeMode
  dsimp only
  split
  · exact kept
  · split
    · exact ⟨Nat.zero_le _, by simp [releaseGovernor], fun _ => ⟨rfl, rfl⟩, fun other => absurd rfl other, fun _ => rfl⟩
    · next notReleased =>
      split
      · exact governorMid_governorStep le rfl notReleased zero (fun mode => outletOpen_of_governing mode)
      · next wasDriven =>
        exact ⟨le, ⟨fun _ => notReleased, fun _ => step.2 wasDriven⟩, fun off => absurd off notReleased,
          fun _ => driven wasDriven, zero⟩

namespace Keeps

variable {c : Instr} {s t u : State}

theorem judgeMode (s : State) : Keeps c s (judgeMode s) := by
  have frame : Machine.judgeMode s = { s with vdu := (Machine.judgeMode s).vdu, pgv := (Machine.judgeMode s).pgv } := by
    apply State.eq_of_fields <;> simp
  rw [frame]
  refine ofDrives _ _ (fun v => ?_) fun law => ?_
  · rw [judgeMode_drive]
    exact id
  · exact governorMid_judgeMode law

/-- The mode's release: output RELEASED, opening 0, step timer stopped (R145). -/
theorem releaseGovernor (s : State) : Keeps c s (releaseGovernor s) :=
  ofDrives _ _ (fun v => by cases v <;> exact id)
    fun _ => ⟨Nat.zero_le _, by simp, fun _ => ⟨rfl, rfl⟩, fun other => absurd rfl other, fun _ => rfl⟩

/-! ## Drive records replaced (R49, R50) -/

/-- A drive record replaced by one that meets the law, the governor shut where the outlet leaves OPEN. -/
theorem moveDrive {d : Side} {x : Drive} (s : State) (law : driveLaw (s.vdu.drive d) → driveLaw x) :
    Keeps c s (if d = .outlet ∧ (s.vdu.drive d).state = .isOpen ∧ x.state ≠ .isOpen then
      shutGovernor { s with vdu := s.vdu.setDrive d x } else { s with vdu := s.vdu.setDrive d x }) := by
  have drives : ∀ v, driveLaw (s.vdu.drive v) → driveLaw ((s.vdu.setDrive d x).drive v) := by
    intro v
    by_cases own : v = d
    · subst own
      simpa using law
    · rw [drive_setDrive_other _ _ _ _ own]
      exact id
  split
  · next shuts =>
    obtain ⟨rfl, -, -⟩ := shuts
    refine ofDrives _ _ (fun v => by simpa [Vdu.setDrive, Vdu.drive] using drives v) fun mid => ?_
    obtain ⟨le, step, released, driven, zero⟩ := mid
    refine ⟨Nat.zero_le _, step, fun off => ⟨rfl, ?_⟩, fun on => ?_, fun _ => rfl⟩
    · simp [Vdu.setDrive, (released off).2, GovernorOutput.shut]
    · simp [Vdu.setDrive, driven on, GovernorOutput.shut]
  · next stays =>
    refine ofDrives _ _ drives fun mid => ?_
    obtain ⟨le, step, released, driven, zero⟩ := mid
    refine ⟨le, step, fun off => ⟨(released off).1, ?_⟩, fun on => ?_, fun off => ?_⟩
    · simpa using (released off).2
    · simpa using driven on
    · cases d with
      | inlet => exact zero off
      | outlet => exact zero fun opened => stays ⟨rfl, opened, off⟩

theorem putDrive {d : Side} {x : Drive} (s : State) (law : driveLaw (s.vdu.drive d) → driveLaw x) :
    Keeps c s (putDrive d x s) := by
  have moved := moveDrive (c := c) s law
  unfold Machine.putDrive
  dsimp only
  split
  · next same =>
    rwa [if_neg (fun h => h.2.2 (same.trans h.2.1))] at moved
  · next differs =>
    refine .trans ?_ (judgeWindows _)
    have shuts : (if d = .outlet ∧ (s.vdu.drive d).state = .isOpen then
        shutGovernor { s with vdu := s.vdu.setDrive d x } else { s with vdu := s.vdu.setDrive d x }) =
        (if d = .outlet ∧ (s.vdu.drive d).state = .isOpen ∧ x.state ≠ .isOpen then
          shutGovernor { s with vdu := s.vdu.setDrive d x } else { s with vdu := s.vdu.setDrive d x }) := by
      congr 1
      simp only [eq_iff_iff, and_congr_right_iff]
      intro _
      exact ⟨fun opened => ⟨opened, fun stays => differs (stays.trans opened.symm)⟩, And.left⟩
    rw [shuts]
    have signalled := moved.trans (signalDrive d (s.vdu.drive d).state x.state _)
    split
    · exact signalled.trans (endLanding _)
    · exact signalled

theorem giveCommand (d : Side) (k : DriveCommand) (s : State) : Keeps c s (giveCommand d k s) := by
  unfold Machine.giveCommand
  split
  · exact refl s
  · exact putDrive s (driveLaw_take _ _)

theorem deriveCommands (s : State) : Keeps c s (deriveCommands s) := (giveCommand _ _ s).trans (giveCommand _ _ _)

/-! ## Duty sharing (R107 to R135) -/

theorem handOn (old s : State) : Keeps c s (handOn old s) := by
  unfold Machine.handOn
  split
  · exact refl s
  · refine .trans (ofMvc _ ?_ ?_) (trigger _)
    · split <;> split <;> exact id
    · intro top
      split <;> split <;> simp [top]

/-- The choice of the role set moves the roles and the forced-give request alone. -/
theorem chooseRoles (s : State) : Keeps c s (chooseRoles s) := by
  have frame : Machine.chooseRoles s = { s with
      mvc := (judgeRequest s).mvc, ysu := (Machine.chooseRoles s).ysu } := by
    apply State.eq_of_fields <;> simp [Machine.chooseRoles]
  rw [frame]
  let q : State := { s with mvc := (judgeRequest s).mvc }
  have requested : Keeps c s q := ofMvc_same _ rfl rfl
  exact requested.trans (ofYsu (s := q) _ (chooseRoles_same s).table)

theorem judgeCalls (s : State) : Keeps c s (judgeCalls s) := by
  have frame : Machine.judgeCalls s = { s with ysu := (Machine.judgeCalls s).ysu } := by
    apply State.eq_of_fields <;> simp
  rw [frame]
  exact ofYsu _ (judgeCalls_same s).table

theorem settleFrom (old s : State) : Keeps c s (settleFrom old s) :=
  (chooseRoles s).trans ((handOn old _).trans ((deriveCommands _).trans ((judgeMode _).trans (judgeCalls _))))

theorem settle (s : State) : Keeps c s (settle s) := settleFrom s s

theorem updateRole (r : Role) (f : RoleState → RoleState) (s : State) : Keeps c s (updateRole r f s) :=
  ofYsu _ (updateRole_same r f s).table

end Keeps

end Sys2Proof.Machine
end

section
/-! SUPPORT. What the end of an event, the accounts and the reckoning keep. -/

namespace Sys2Proof

/-! ## The chain of the list (R166 to R168) -/

theorem chainedList_cons_tail {r : AccountRecord} {l : List AccountRecord} (chain : chainedList (r :: l) = true) :
    chainedList l = true := by
  cases l with
  | nil => rfl
  | cons q rest =>
    simp only [chainedList, Bool.and_eq_true] at chain
    exact chain.2

theorem chainedList_drop {l : List AccountRecord} (chain : chainedList l = true) (k : Nat) :
    chainedList (l.drop k) = true := by
  induction k generalizing l with
  | zero => exact chain
  | succ k ih =>
    cases l with
    | nil => rfl
    | cons r rest => exact ih (chainedList_cons_tail chain)

/-- A record that the newest of a chain is chained to joins it. -/
theorem chainedList_append {l : List AccountRecord} (chain : chainedList l = true) {r : AccountRecord}
    (joins : ∀ q ∈ l.getLast?, q.chained r = true) : chainedList (l ++ [r]) = true := by
  induction l with
  | nil => rfl
  | cons a rest ih =>
    cases rest with
    | nil => simpa [chainedList] using joins
    | cons b more =>
      simp only [chainedList, Bool.and_eq_true] at chain
      simp only [List.cons_append, chainedList, Bool.and_eq_true]
      refine ⟨chain.1, ih chain.2 fun q last => joins q ?_⟩
      simpa using last

/-- The newest record of a list is the newest of what its full list keeps when the oldest goes. -/
theorem getLast?_of_drop {l : List AccountRecord} {k : Nat} {q : AccountRecord} (last : q ∈ (l.drop k).getLast?) :
    q ∈ l.getLast? := by
  rw [List.getLast?_drop] at last
  split at last
  · cases last
  · exact last

/-- A record of the open period's figures balances (R165). -/
theorem recordWith_balanced (p : OpenPeriod) (n : Nat) (cause : CloseCause) (minute stock : Nat) (status : StockStatus) :
    (p.recordWith n cause minute stock status).balanced = true := by
  simp [AccountRecord.balanced, OpenPeriod.recordWith]

/-- The number after a valid one is valid, and ahead of it (00, Period numbers). -/
theorem nextPeriod_ahead {n : Nat} (number : periodNumber n = true) :
    periodNumber (nextPeriod n) = true ∧ aheadOf (nextPeriod n) n = true := by
  unfold periodNumber at number ⊢
  unfold aheadOf nextPeriod
  simp only [decide_eq_true_eq] at number ⊢
  split <;> omega

/-- An open period that continues a list opens on the newest record's closing stock under a number ahead (R167, R168). -/
theorem OpenPeriod.continues_some {p : OpenPeriod} {l : List AccountRecord} {n : Nat} (open_ : p.number = some n) :
    p.continues l = true ↔ periodNumber n = true ∧
      ∀ q ∈ l.getLast?, aheadOf n q.number = true ∧ q.closingStock = p.openingStock := by
  unfold OpenPeriod.continues
  rw [open_]
  cases l.getLast? <;> simp [and_assoc]

namespace Machine

/-! ## The list after a close (R166) -/

/-- A balanced record of a valid number, opened on the newest record's closing stock under a number ahead, keeps the list
(R165, R166, R168). -/
theorem listWf_appendRecord {l : List AccountRecord} (wf : listWf l) {r : AccountRecord} (balanced : r.balanced = true)
    (number : periodNumber r.number = true) (joins : ∀ q ∈ l.getLast?, q.chained r = true) :
    listWf (appendRecord r l) := by
  obtain ⟨length, allBalanced, allNumbered, chain⟩ := wf
  have kept : ∀ x ∈ appendRecord r l, x = r ∨ x ∈ l := by
    intro x member
    rcases List.mem_append.1 member with old | new
    · exact .inr (List.mem_of_mem_drop old)
    · exact .inl (List.mem_singleton.1 new)
  refine ⟨?_, fun x member => ?_, fun x member => ?_, ?_⟩
  · simp only [appendRecord, List.length_append, List.length_drop, List.length_singleton]
    omega
  · rcases kept x member with rfl | old
    · exact balanced
    · exact allBalanced x old
  · rcases kept x member with rfl | old
    · exact number
    · exact allNumbered x old
  · exact chainedList_append (chainedList_drop chain _) fun q last => joins q (getLast?_of_drop last)

theorem getLast?_appendRecord (r : AccountRecord) (l : List AccountRecord) : (appendRecord r l).getLast? = some r := by
  simp [appendRecord]

/-- A close keeps the list and the chain (R164 to R168). -/
theorem continues_appendRecord {p q : OpenPeriod} {l : List AccountRecord} {n next : Nat} {r : AccountRecord}
    (wf : listWf l) (follows : p.continues l = true) (open_ : p.number = some n) (balanced : r.balanced = true)
    (number : r.number = n) (opening : r.openingStock = p.openingStock) (valid : periodNumber next = true)
    (ahead : aheadOf next n = true) (new : q.number = some next) (stock : q.openingStock = r.closingStock) :
    listWf (appendRecord r l) ∧ q.continues (appendRecord r l) = true := by
  obtain ⟨numberOk, joined⟩ := (OpenPeriod.continues_some open_).1 follows
  refine ⟨listWf_appendRecord wf balanced (number ▸ numberOk) fun x last => ?_, (OpenPeriod.continues_some new).2 ⟨valid, ?_⟩⟩
  · obtain ⟨isAhead, same⟩ := joined x last
    simp [AccountRecord.chained, opening, same, number, isAhead]
  · intro x last
    rw [getLast?_appendRecord] at last
    obtain rfl := Option.some.inj last
    exact ⟨number ▸ ahead, stock.symm⟩

/-! ## The line (R80 to R82) -/

/-- An offered REPORT leaves a queue that is not empty, and moves nothing else of the line (R81). -/
theorem offerReport_frame (b : List Byte) (y : Yli) :
    y.offerReport b = { y with queue := (y.offerReport b).queue } ∧ (y.offerReport b).queue ≠ [] := by
  unfold Yli.offerReport
  dsimp only
  split
  · next queued =>
    refine ⟨rfl, fun empty => ?_⟩
    have none : y.queue = [] := List.map_eq_nil_iff.1 empty
    simp [Yli.reportQueued, none] at queued
  · exact ⟨rfl, by simp⟩

/-- A frame that begins keeps the bounds of the queue, whatever was in flight (R80, R82). -/
theorem beginFrame_queueBounded {y : Yli} (law : queueBounded y) : queueBounded y.beginFrame := by
  unfold Yli.beginFrame
  split
  · split
    · exact law
    · next m rest head =>
      obtain ⟨reports, others⟩ := law
      unfold Yli.othersHeld at others
      rw [head] at reports others
      cases report : m.isReport with
      | true =>
        simp only [List.filter_cons, report, if_true, List.length_cons, Bool.not_true, Bool.false_eq_true, if_false] at reports others
        exact ⟨by dsimp only; omega, by simp only [Yli.othersHeld, report, if_true]; omega⟩
      | false =>
        simp only [List.filter_cons, report, Bool.false_eq_true, if_false, List.length_cons, Bool.not_false, if_true] at reports others
        exact ⟨reports, by simp only [Yli.othersHeld, report, Bool.false_eq_true, if_false]; omega⟩
  · exact law

theorem onLine_of_working {s : State} (working : s.working = true) : s.onLine = true := by simp [State.onLine, working]

namespace Keeps

variable {c : Instr} {s t u : State}

theorem flushReport (s : State) : Keeps c s (flushReport s) := by
  unfold Machine.flushReport
  split
  · next due =>
    obtain ⟨frame, filled⟩ := offerReport_frame (reportBody s) s.yli
    refine ofYli _ (offerReport_bounded _ _) fun law => ?_
    obtain ⟨sending, waiting, standby, reports⟩ := law
    rw [frame]
    exact ⟨sending, fun _ => filled, fun _ => .inr (.inr (onLine_of_working (reports due))), reports⟩
  · exact refl s

/-- An ACCOUNT or STATUS offered in the states that send (R81). -/
theorem offerMessage {m : Message} {s : State} (onLine : s.onLine = true) (other : m.isReport = false) :
    Keeps c s (offerMessage m s) := by
  have flushed : (Machine.flushReport s).onLine = true := by
    simpa [State.onLine, State.working, State.numberValid] using onLine
  refine (flushReport s).trans (ofYli _ (offerOther_bounded m other _) fun law => ?_)
  obtain ⟨sending, waiting, standby, reports⟩ := law
  unfold Yli.offerOther
  split
  · exact ⟨sending, fun _ => by simp, fun _ => .inr (.inr flushed), reports⟩
  · exact ⟨sending, waiting, standby, reports⟩

theorem reportDone (s : State) : Keeps c s { s with yli := { s.yli with reportDue := false } } :=
  ofYli _ id fun law => ⟨law.1, law.2.1, law.2.2.1, fun due => by cases due⟩

theorem standbyToWaiting (s : State) : Keeps c s (standbyToWaiting s) := by
  unfold Machine.standbyToWaiting
  split
  · next ready =>
    refine ofYli _ id fun law => ?_
    exact ⟨fun sends => (by cases sends), fun _ => ready.2.1, fun stands => (by cases stands), law.2.2.2⟩
  · exact refl s

theorem beginFrame (s : State) : Keeps c s { s with yli := s.yli.beginFrame } := by
  refine ofYli _ beginFrame_queueBounded fun law => ?_
  unfold Yli.beginFrame
  split
  · split
    · exact law
    · exact ⟨fun _ => ⟨rfl, rfl⟩, fun waits => (by cases waits), fun stands => (by cases stands), law.2.2.2⟩
  · exact law

theorem finish (s : State) : Keeps c s (finish s) :=
  (flushReport s).trans ((reportDone _).trans ((standbyToWaiting _).trans (beginFrame _)))

end Keeps

theorem standbyToWaiting_onLine (s : State) : (standbyToWaiting s).onLine = s.onLine := by
  simp [State.onLine, State.working, State.numberValid]

/-- The end of an event leaves the line as its law has it (R82, R87; log 8). -/
theorem lineLaw_finish {s : State} (mid : lineMid s) : lineLaw (finish s) := by
  let q : State := { flushReport s with yli := { (flushReport s).yli with reportDue := false } }
  let w := standbyToWaiting q
  have kept : Keeps .reckoning s q := (Keeps.flushReport s).trans (Keeps.reportDone _)
  obtain ⟨sending, waiting, standby, -⟩ := (Keeps.standbyToWaiting (c := .reckoning) q).line (kept.line mid)
  have line : finish s = { w with yli := w.yli.beginFrame } := rfl
  have stands : w.yli.tx = .standby → w.yli.queue = [] ∨ w.yli.quiet = true := by
    intro at_
    rcases standby at_ with empty | quiet | onLine
    · exact .inl empty
    · exact .inr quiet
    · by_contra loud
      simp only [not_or, Bool.not_eq_true] at loud
      have same : w = q ∨ w.yli.tx = .waiting := by
        show standbyToWaiting q = q ∨ (standbyToWaiting q).yli.tx = .waiting
        unfold standbyToWaiting
        split
        · exact .inr rfl
        · exact .inl rfl
      rcases same with same | moved
      · have ready : q.yli.tx = .standby ∧ q.yli.queue ≠ [] ∧ q.yli.quiet = false ∧ q.onLine = true := by
          rw [← same]
          exact ⟨at_, loud.1, loud.2, onLine⟩
        have moved : w.yli.tx = .waiting := by
          show (standbyToWaiting q).yli.tx = .waiting
          rw [standbyToWaiting, if_pos ready]
          rfl
        exact absurd (at_.symm.trans moved) (by decide)
      · exact absurd (at_.symm.trans moved) (by decide)
  refine ⟨finish_yli_reportDue s, ?_⟩
  rw [line]
  dsimp only
  unfold Yli.beginFrame
  split
  · next begins =>
    split
    · next empty => exact absurd empty (waiting begins.1)
    · exact ⟨fun _ => ⟨rfl, rfl⟩, fun waits => (by cases waits), fun rests => (by cases rests)⟩
  · next stays =>
    refine ⟨sending, fun waits => ⟨?_, waiting waits⟩, stands⟩
    cases line : w.yli.line with
    | busy => rfl
    | idle => exact absurd ⟨waits, line⟩ stays

/-! ## The accounts (R152 to R172) -/

namespace Keeps

variable {c : Instr} {s t u : State}

theorem beginWrite (s : State) : Keeps c s (beginWrite s) := by
  unfold Machine.beginWrite
  split
  · exact refl s
  · split
    · exact ofRst _ fun _ law => law.2.1
    · refine ofRst _ fun _ law => ⟨law.2.1.1, law.2.1.2.1, fun w written => ?_⟩
      obtain rfl := Option.some.inj written
      exact law.1

/-- Both counts go to the accounts, the residues below 65536 (R153). -/
theorem takeMeters (s : State) : Keeps c s (takeMeters s) := by
  let n : Ini := { s.ini with inletCount := 0, outletCount := 0 }
  have counts : Keeps c s { s with ini := n } := ofIni n id id id
  refine counts.trans (ofAcu (s := { s with ini := n }) (Machine.takeMeters s).acu fun _ law => ?_)
  obtain ⟨wf, store, opening⟩ := law
  refine ⟨?_, store, opening⟩
  rw [RetainedContents.wf_iff] at wf ⊢
  obtain ⟨list, follows, entries, -, rest⟩ := wf
  exact ⟨list, follows, entries, ⟨Nat.le_of_lt_succ (Nat.mod_lt _ (by decide)), Nat.le_of_lt_succ (Nat.mod_lt _ (by decide))⟩, rest⟩

end Keeps

/-! ## The close, part by part (R164 to R168) -/

/-- The balance test of the open period fails on the closing stock (R165). -/
def unbalanced (s : State) : Bool :=
  balanceFails s.cfg.balanceLimit
    ((s.acu.period.openingStock : Int) + s.acu.period.makeIn - s.acu.period.sendOut - (closingStock s).1)
    s.acu.period.makeIn s.acu.period.sendOut

/-- The flags of the record that a close now would make (R164, R165). -/
def closingFlags (s : State) : PeriodFlags :=
  { s.acu.period.flags with
    stockDoubtful := s.acu.period.flags.stockDoubtful || (closingStock s).2.2,
    balance := s.acu.period.flags.balance || unbalanced s }

/-- The record that a close now would make (R166). -/
def closingRecord (n : Nat) (cause : CloseCause) (s : State) : AccountRecord :=
  OpenPeriod.recordWith { s.acu.period with flags := closingFlags s } n cause s.ini.minute (closingStock s).1
    (closingStock s).2.1

/-- The balance test's momentary kind (R165, R177). -/
def judgeBalance (s : State) : State := if unbalanced s then raiseMomentary .balance s else s

/-- The boundary that a close of a cause serves (R163). -/
def servedBy (cause : CloseCause) (s : State) : Option Nat :=
  match cause with
  | .ownBoundary => none
  | .peerMark => servedBoundary s.cfg.boundaries s.ini.minute

/-- The record of `s` joins the list of `q`, and the new period opens (R166, R167). -/
def openNext (n : Nat) (cause : CloseCause) (next : Nat) (s q : State) : State :=
  { q with
    acu := { q.acu with list := appendRecord (closingRecord n cause s) q.acu.list,
                        period := OpenPeriod.openedOn next (closingStock s).1 (closingStock s).2.1,
                        served := servedBy cause s },
    pgv := { q.pgv with lowest := none } }

/-- The ACCOUNT message of a close, offered behind a REPORT already due (R166). -/
def offerAccount (n : Nat) (cause : CloseCause) (s : State) : State :=
  offerMessage { kind := .account, body := accountClosedBody (closingRecord n cause s) } (judgeBalance s)

/-- A close is the take, the balance test, the message, the new period, the report trigger and the write. -/
theorem closePeriod_eq (n : Nat) (cause : CloseCause) (next : Nat) (s : State) : closePeriod n cause next s =
    beginWrite (trigger (openNext n cause next (takeMeters s) (offerAccount n cause (takeMeters s)))) := rfl

@[simp] theorem judgeBalance_acu (s : State) : (judgeBalance s).acu = s.acu := by
  unfold judgeBalance; split <;> simp
@[simp] theorem judgeBalance_station (s : State) : (judgeBalance s).station = s.station := by
  unfold judgeBalance; split <;> simp
@[simp] theorem judgeBalance_mvc (s : State) : (judgeBalance s).mvc = s.mvc := by
  unfold judgeBalance; split <;> simp
@[simp] theorem judgeBalance_ini (s : State) : (judgeBalance s).ini = s.ini := by
  unfold judgeBalance; split <;> simp

namespace Keeps

variable {c : Instr} {s t u : State}

theorem judgeBalance (s : State) : Keeps c s (judgeBalance s) := by
  unfold Machine.judgeBalance
  split
  · exact latch .balance s
  · exact refl s

/-- A record joins the list and the new period opens on it (R166 to R168). -/
theorem openNext {n next : Nat} (cause : CloseCause) {s q : State} (books : q.acu = s.acu) (working : q.working = true)
    (other : isEntry c = false) (open_ : s.acu.period.number = some n)
    (ahead : c.wellFormed = true → periodNumber n = true → periodNumber next = true ∧ aheadOf next n = true) :
    Keeps c q (openNext n cause next s q) := by
  refine ⟨rfl, id, id, id, id, id, id, fun _ => id, fun _ => id, fun wellFormed law => ?_, ?_⟩
  · obtain ⟨wf, store, opening⟩ := law
    rw [RetainedContents.wf_iff] at wf
    obtain ⟨list, follows, -, residues, figures⟩ := wf
    have numbered : q.acu.period.number = some n := by rw [books]; exact open_
    obtain ⟨valid, isAhead⟩ := ahead wellFormed ((OpenPeriod.continues_some numbered).1 follows).1
    have stocks : (closingRecord n cause s).openingStock = q.acu.period.openingStock := by rw [books]; rfl
    obtain ⟨newList, continues⟩ := continues_appendRecord (r := closingRecord n cause s)
      (q := OpenPeriod.openedOn next (closingStock s).1 (closingStock s).2.1) list follows numbered
      (recordWith_balanced _ _ _ _ _ _) rfl stocks valid isAhead rfl rfl
    refine ⟨(RetainedContents.wf_iff _).2 ⟨newList, continues, Nat.zero_le _, residues, figures⟩, store, fun due => ?_, opening.2⟩
    have stopped : q.working = false := opening.2 other due
    rw [working] at stopped
    cases stopped
  · exact fun _ law => law

/-- A close of the open period in LISTEN and RUN, under a number ahead (R164 to R168, R184). -/
theorem closePeriod {n next : Nat} (cause : CloseCause) {s : State} (working : s.working = true) (other : isEntry c = false)
    (open_ : s.acu.period.number = some n)
    (ahead : c.wellFormed = true → periodNumber n = true → periodNumber next = true ∧ aheadOf next n = true) :
    Keeps c s (closePeriod n cause next s) := by
  have onLine : (Machine.judgeBalance (Machine.takeMeters s)).onLine = true := by
    apply onLine_of_working
    simpa [State.working] using working
  have offered : Keeps c s (offerAccount n cause (Machine.takeMeters s)) :=
    (takeMeters s).trans ((judgeBalance _).trans (offerMessage onLine rfl))
  rw [closePeriod_eq]
  have opened : Keeps c _ (Machine.openNext n cause next (Machine.takeMeters s) (offerAccount n cause (Machine.takeMeters s))) :=
    openNext cause (by simp [offerAccount]) (by simpa [offerAccount, State.working] using working) other open_ ahead
  exact offered.trans (opened.trans ((trigger _).trans (beginWrite _)))

end Keeps

end Machine
end Sys2Proof
end

section
/-! SUPPORT. What boundaries, peer marks, the reckoning and its readers keep. -/

namespace Sys2Proof

/-- An entry leaves the number and the opening stock of the period, and at most 8 entries (R157). -/
theorem OpenPeriod.addEntry_kept (p : OpenPeriod) (e : EventEntry) : (p.addEntry e).number = p.number ∧
    (p.addEntry e).openingStock = p.openingStock ∧ (p.entries.length ≤ 8 → (p.addEntry e).entries.length ≤ 8) := by
  unfold OpenPeriod.addEntry
  split
  · simp only [List.length_append, List.length_singleton]
    exact ⟨trivial, trivial, fun _ => by omega⟩
  · exact ⟨rfl, rfl, id⟩

/-- Whether a period continues the empty list rests on its number alone. -/
theorem OpenPeriod.continues_nil_congr {p q : OpenPeriod} (number : p.number = q.number) :
    p.continues [] = q.continues [] := by
  unfold OpenPeriod.continues
  rw [number]
  cases q.number <;> rfl

theorem countUp_le (n : Nat) : countUp n ≤ 65535 := Nat.min_le_right _ _

/-- Duty time, rate and last good stock worked on a record (R155, R156, R160). -/
def Machine.recordFigured (d : Duty) (r : Machine.StockRecord) (a : Machine.Acu) : Machine.Acu :=
  Machine.keepGoodStock r (let b := Machine.shiftRate a; { b with period := Machine.addDuty d b.period })

namespace Machine.Keeps

variable {c : Instr} {s t u : State}

/-! ## Boundaries and peer marks (R161 to R163) -/

theorem served (b : Option Nat) (s : State) : Keeps c s (servedAs b s) := ofAcu_same _ rfl rfl rfl rfl rfl rfl rfl

theorem passMinutes (other : isEntry c = false) (minutes : List Nat) (s : State) : Keeps c s (passMinutes minutes s) := by
  have closesOrNot : ∀ (q : State) (due : List Nat), q.working = true → Keeps c q
      (match q.acu.period.number with
        | some n => if due.isEmpty then q else Machine.closePeriod n .ownBoundary (nextPeriod n) q
        | none => q) := by
    intro q due working
    cases open_ : q.acu.period.number with
    | none => exact refl q
    | some n =>
      dsimp only
      split
      · exact refl q
      · exact closePeriod _ working other open_ fun _ => nextPeriod_ahead
  unfold Machine.passMinutes
  split
  · exact refl s
  · next on =>
    have working : s.working = true := by simpa using on
    refine .trans ?_ (closesOrNot _ _ ?_)
    · split
      · split
        · exact served none s
        · exact refl s
      · exact refl s
    · split
      · split <;> exact working
      · exact working

theorem jumpBack (s : State) : Keeps c s (jumpBack s) := by
  unfold Machine.jumpBack
  split
  · split
    · exact served none s
    · exact refl s
  · exact refl s

/-- A peer's period number of two characters, adopted or marking (R162, R171). -/
theorem peerPeriod {p : Nat} (top : p ≤ 65535) {s : State} (working : s.working = true) (other : isEntry c = false) :
    Keeps c s (peerPeriod p s) := by
  unfold Machine.peerPeriod
  split
  · exact refl s
  · next notZero =>
    have number : periodNumber p = true := decide_eq_true (by omega)
    split
    · next unset =>
      refine ofAcu _ fun _ law => ?_
      obtain ⟨wf, store, opening⟩ := law
      refine ⟨?_, store, opening⟩
      rw [RetainedContents.wf_iff] at wf ⊢
      obtain ⟨list, follows, rest⟩ := wf
      refine ⟨list, ?_, rest⟩
      dsimp only [retainedContents] at follows ⊢
      unfold OpenPeriod.continues at follows ⊢
      rw [unset] at follows
      cases last : s.acu.list.getLast? with
      | none => exact number
      | some r => simp [last] at follows
    · next n open_ =>
      split
      · next ahead => exact closePeriod _ working other open_ fun _ _ => ⟨number, ahead⟩
      · exact refl s

theorem followLowest (s : State) : Keeps c s (followLowest s) := by
  unfold Machine.followLowest
  have lowered : ∀ x : Option Nat, Keeps c s { s with
      pgv := { s.pgv with lowest := x }, acu := { s.acu with period := { s.acu.period with lowest := x } } } := by
    intro x
    let q : State := { s with vdu := s.vdu, pgv := { s.pgv with lowest := x } }
    have moved : Keeps c s q := ofDrives s.vdu _ (fun _ => id) id
    exact moved.trans (ofAcu_same (s := q) _ rfl rfl rfl rfl rfl rfl rfl)
  split
  · dsimp only
    split
    · split
      · exact lowered _
      · exact refl s
    · rw [if_pos rfl]
      exact lowered _
  · exact refl s

/-! ## The reckoning (R5) -/

theorem reckon (s : State) : Keeps c s (reckon s) := by
  unfold Machine.reckon
  dsimp only
  let r : Srk := { s.srk with record := reckonedRecord s, graded := true,
                              heightAccepted := s.srk.heightAccepted || s.ini.crown.value.isSome }
  have recorded : Keeps c s { s with srk := r } := ofSrk r acceptedHeight_le fun _ => rfl
  have handed : Keeps c s { s with srk := r, mvc := { s.mvc with frostTemp := temperatureTaken s } } :=
    recorded.trans (ofMvc_same (s := { s with srk := r }) _ rfl rfl)
  split
  · exact handed.trans (signalGrade _ _)
  · exact handed

/-! ## The account unit's work on a record (R154 to R156, R158 to R160, R171) -/

theorem testSilentWindow (w : SilentWindow) (s : State) : Keeps c s (testSilentWindow w s) := by
  unfold Machine.testSilentWindow
  dsimp only
  let q : State := { s with acu := { s.acu with silentWindow := some s.newSilentWindow } }
  have opened : Keeps c s q := silentWindow _ s
  split
  · have flagged : Keeps c q { q with acu := { q.acu with period := { q.acu.period with
        flags := { q.acu.period.flags with meterSilent := true } } } } := ofAcu_same _ rfl rfl rfl rfl rfl rfl rfl
    exact opened.trans (flagged.trans (raiseWithEntry _ _ _))
  · exact opened.trans (cease _ _)

theorem countSilentWindow (s : State) : Keeps c s (countSilentWindow s) := by
  unfold Machine.countSilentWindow
  split
  · split
    · exact judgeSilentWindow s
    · dsimp only
      split
      · exact testSilentWindow _ s
      · exact silentWindow _ s
  · exact judgeSilentWindow s

/-- The figures of duty time, rate and last good stock have no law. -/
theorem recordFigures (d : Duty) (r : StockRecord) (s : State) : Keeps c s { s with acu := recordFigured d r s.acu } := by
  apply ofAcu_same
  all_goals
    unfold recordFigured keepGoodStock
    split <;> cases d <;> rfl

/-- The opening stock taken from the first record continues an empty list (R171). -/
theorem openOnRecord (r : StockRecord) (s : State) : Keeps c s { s with acu := openOnRecord r s.acu } := by
  unfold Machine.openOnRecord
  split
  · next due =>
    refine ofAcu _ fun _ law => ?_
    obtain ⟨wf, store, empty, -⟩ := law
    refine ⟨?_, store, fun awaited => (by cases awaited), fun _ awaited => (by cases awaited)⟩
    rw [RetainedContents.wf_iff] at wf ⊢
    obtain ⟨list, follows, rest⟩ := wf
    refine ⟨list, ?_, rest⟩
    dsimp only [retainedContents] at follows ⊢
    rw [empty due] at follows ⊢
    have same := OpenPeriod.continues_nil_congr (q := s.acu.period)
      (p := { s.acu.period with openingStock := r.stock, openingStatus := r.status }) rfl
    exact same.trans follows
  · exact refl s

theorem accountRecord (s : State) : Keeps c s (accountRecord s) := by
  unfold Machine.accountRecord
  dsimp only
  exact (takeMeters s).trans ((recordFigures _ _ _).trans ((openOnRecord _ _).trans (countSilentWindow _)))

/-! ## The movement controller's work on a record (R52) -/

theorem placeRecord (s : State) : Keeps c s (placeRecord s) := ofMvc_same _ rfl rfl

theorem liftCheck (s : State) : Keeps c s (liftCheck s) := by
  unfold Machine.liftCheck
  have runs : ∀ a b : Nat, Keeps c s { s with mvc := { s.mvc with matchRun := a, mismatchRun := b } } :=
    fun a b => ofMvc_same _ rfl rfl
  split
  · split
    · dsimp only
      split
      · exact (runs _ _).trans (cease _ _)
      · exact runs _ _
    · dsimp only
      split
      · exact (runs _ _).trans (raiseWithEntry _ _ _)
      · exact runs _ _
  · exact refl s

theorem testLossWindow (w : LossWindow) (s : State) : Keeps c s (testLossWindow w s) := by
  unfold Machine.testLossWindow
  dsimp only
  have opened : Keeps c s { s with mvc := { s.mvc with window := some s.newLossWindow } } := ofMvc_same _ rfl rfl
  split
  · exact opened.trans (raiseWithEntry _ _ _)
  · exact opened.trans (cease _ _)

theorem countLossWindow (s : State) : Keeps c s (countLossWindow s) := by
  unfold Machine.countLossWindow
  split
  · split
    · exact judgeLossWindow s
    · dsimp only
      split
      · exact testLossWindow _ s
      · exact ofMvc_same _ rfl rfl
  · exact judgeLossWindow s

theorem countCycle (s : State) : Keeps c s (countCycle s) := by
  unfold Machine.countCycle
  split
  · exact refl s
  · split
    · exact ofMvc _ (fun _ => countUp_le _) id
    · split
      · exact ofMvc_same _ rfl rfl
      · exact refl s

theorem countRest (s : State) : Keeps c s (countRest s) := by
  unfold Machine.countRest
  split
  · split
    · exact ofMvc _ id fun _ => countUp_le _
    · exact ofMvc_same _ rfl rfl
  · exact refl s

theorem judgeTurnover (s : State) : Keeps c s (judgeTurnover s) := by
  unfold Machine.judgeTurnover
  split
  · exact ofMvc_same _ rfl rfl
  · exact refl s

theorem movementRecord (s : State) : Keeps c s (movementRecord s) :=
  (placeRecord s).trans ((liftCheck _).trans ((judgeLimitGuard _).trans ((countLossWindow _).trans
    ((countCycle _).trans ((countRest _).trans (judgeTurnover _))))))

/-- A reckoning with its readers (R4, R5, R22, R184). -/
theorem workRecord (s : State) : Keeps c s (workRecord s) :=
  (reckon s).trans ((accountRecord _).trans ((movementRecord _).trans ((regrade _).trans
    ((settle _).trans (beginWrite _)))))

/-! ## The works clock (R35 to R38) -/

theorem impulseHeard (absorb : Timer) (s : State) : Keeps c s (impulseHeard absorb s) :=
  (ofIni { s.ini with absorb := absorb, selfRun := 0, impulse := some Config.impulseTime } id id id).trans (cease _ _)

theorem minute {m : Nat} (top : m ≤ 1439) (s : State) : Keeps c s { s with ini := { s.ini with minute := m } } :=
  ofIni _ id (fun _ => top) id

theorem stepMinute (other : isEntry c = false) (s : State) : Keeps c s (stepMinute s) :=
  (minute (Nat.le_of_lt_succ (Nat.mod_lt _ (by decide))) s).trans ((passMinutes other _ _).trans (judgeCalls _))

theorem judgeRun (s : State) : Keeps c s (judgeRun s) := by
  unfold Machine.judgeRun
  split
  · exact raiseWithEntry _ _ s
  · exact refl s

theorem judgeJump (other : isEntry c = false) (m : Nat) (s : State) : Keeps c s (judgeJump m s) := by
  unfold Machine.judgeJump
  split
  · exact refl s
  · split
    · exact passMinutes other _ s
    · exact jumpBack s

/-! ## Inputs, key and button (R28 to R31, R39, R40) -/

theorem setInput {i : InputId} {r : InputRecord} (s : State) (law : recordLaw i (s.ini.input i) → recordLaw i r) :
    Keeps c s { s with ini := s.ini.setInput i r } := by
  refine ofIni _ (fun laws => ?_) (by rw [setInput_minute]; exact id) (by cases i <;> exact id)
  obtain ⟨crown, gauge, inletMain, district, gasTemp, barometer⟩ := laws
  cases i with
  | crown => exact ⟨law crown, gauge, inletMain, district, gasTemp, barometer⟩
  | gauge => exact ⟨crown, law gauge, inletMain, district, gasTemp, barometer⟩
  | inletMain => exact ⟨crown, gauge, law inletMain, district, gasTemp, barometer⟩
  | district => exact ⟨crown, gauge, inletMain, law district, gasTemp, barometer⟩
  | gasTemp => exact ⟨crown, gauge, inletMain, district, law gasTemp, barometer⟩
  | barometer => exact ⟨crown, gauge, inletMain, district, gasTemp, law barometer⟩

theorem inputReaders (i : InputId) (s : State) : Keeps c s (inputReaders i s) := by
  cases i with
  | crown => exact (regrade s).trans (settle _)
  | inletMain => exact judgeCalls s
  | district => exact settle s
  | gauge | gasTemp | barometer => exact refl s

theorem sampleFollowed (i : InputId) (s : State) : Keeps c s (sampleFollowed i s) := by
  cases i with
  | district => exact followLowest s
  | crown | gauge | inletMain | gasTemp | barometer => exact refl s

theorem changeKey (p : KeyPosition) (s : State) : Keeps c s (changeKey p s) := by
  let q : State := { s with ini := { s.ini with key := p, keyDefaulted := false } }
  have turned : Keeps c s q := ofIni _ id id id
  have ordered : Keeps c q { q with ysu := { q.ysu with effective := keyOrder p s } } := ofYsu _ rfl
  exact turned.trans (ordered.trans ((makeEntry _ _).trans (settle _)))

theorem button (b : Bool) (hold : Timer) (s : State) :
    Keeps c s { s with ini := { s.ini with button := b, buttonHold := hold } } := ofIni _ id id id

theorem setSwitch (v : Side) (e : SwitchEnd) (made : Bool) (s : State) : Keeps c s (setSwitch v e made s) := by
  cases v <;> exact ofIni _ id id id

end Machine.Keeps

namespace Machine

/-- A sample keeps the law of its input's record (R27 to R29). -/
theorem recordLaw_sample (x : Int) {i : InputId} {r : InputRecord} (law : recordLaw i r) : recordLaw i (r.sample i x) := by
  obtain ⟨present, kept, hold⟩ := law
  unfold InputRecord.sample
  split
  · next inRange =>
    exact ⟨fun _ => ⟨inRange, rfl⟩, fun v value => Option.some.inj value ▸ inRange, by simp⟩
  · split
    · exact ⟨fun valid => (by cases valid), kept, by simp⟩
    · next again =>
      have notValid : r.status ≠ .valid := fun valid => again (by simp [valid])
      exact ⟨fun valid => absurd valid notValid, kept, hold⟩

/-- A hold timer's expiry keeps the law of its input's record (R30). -/
theorem recordLaw_expire {i : InputId} {r : InputRecord} (law : recordLaw i r) : recordLaw i r.expire := by
  unfold InputRecord.expire
  split
  · exact ⟨fun valid => (by cases valid), law.2.1, by simp⟩
  · exact law

end Machine
end Sys2Proof
end

section
/-! SUPPORT. What the peer table, the line, the orders, START and FAULT keep. -/

namespace Sys2Proof.Machine

/-! ## The peer table (R92, R94, R97, R98) -/

/-- A table that the station may have: none outside LISTEN and RUN, and R92's numbers. -/
def tableFits (s : State) (t : List PeerEntry) : Prop :=
  (t ≠ [] → s.working = true) ∧ ascendingTable t ∧
    (∀ e ∈ t, 1 ≤ e.number ∧ e.number ≤ 16 ∧ e.number ≠ s.number) ∧ t.length ≤ 15

theorem tableFits_nil (s : State) : tableFits s [] :=
  ⟨fun h => absurd rfl h, .nil, fun _ h => (by cases h), Nat.zero_le _⟩

theorem tableFits_of_laws {s : State} (law : stationLaw s ∧ tableLaw s) : tableFits s s.ysu.table :=
  ⟨law.1.2.2, law.2.1, law.2.2.1, law.2.2.2⟩

/-- A peer's report finds its place in the table (R92, R94). -/
theorem tableFits_enterPeer {s : State} {e : PeerEntry} (working : s.working = true) (low : 1 ≤ e.number)
    (high : e.number ≤ 16) (peer : e.number ≠ s.number) (law : stationLaw s ∧ tableLaw s) :
    tableFits s (enterPeer e s.ysu.table) := by
  obtain ⟨⟨-, valid, -⟩, ascending, numbers, -⟩ := law
  have entered : ∀ x ∈ enterPeer e s.ysu.table, 1 ≤ x.number ∧ x.number ≤ 16 ∧ x.number ≠ s.number := by
    intro x member
    rcases mem_of_mem_enterPeer member with rfl | old
    · exact ⟨low, high, peer⟩
    · exact numbers x old
  have number : 1 ≤ s.number ∧ s.number ≤ 16 := of_decide_eq_true (valid working).1
  exact ⟨fun _ => working, ascending_enterPeer e ascending, entered,
    length_le_of_numbers (ascending_enterPeer e ascending) entered number⟩

/-- A table of the same numbers fits where the old one does. -/
theorem tableFits_of_numbers {s : State} {t u : List PeerEntry} (same : u.map PeerEntry.number = t.map PeerEntry.number)
    (fits : tableFits s t) : tableFits s u := by
  obtain ⟨working, ascending, numbers, length⟩ := fits
  have lengths : u.length = t.length := by simpa using congrArg List.length same
  refine ⟨fun filled => working fun empty => ?_, ?_, fun e member => ?_, lengths ▸ length⟩
  · rw [empty] at lengths
    exact filled (List.length_eq_zero_iff.1 lengths)
  · have order : ∀ l : List PeerEntry, ascendingTable l ↔ (l.map PeerEntry.number).Pairwise (· < ·) :=
      fun l => List.pairwise_map.symm
    rw [order, same, ← order]
    exact ascending
  · have listed : e.number ∈ t.map PeerEntry.number := same ▸ List.mem_map_of_mem member
    obtain ⟨x, old, number⟩ := List.mem_map.1 listed
    exact number ▸ numbers x old

/-- A part of a table fits where the whole does. -/
theorem tableFits_of_sublist {s : State} {t u : List PeerEntry} (part : u.Sublist t) (fits : tableFits s t) :
    tableFits s u := by
  obtain ⟨working, ascending, numbers, length⟩ := fits
  refine ⟨fun filled => working fun empty => filled ?_, ascending.sublist part, fun e member => numbers e (part.mem member),
    part.length_le.trans length⟩
  rw [empty] at part
  exact List.sublist_nil.1 part

namespace Keeps

variable {c : Instr} {s t u : State}

/-- A table replaced by one that fits, with the timers recounted (R92, R116). -/
theorem changeTable {t : List PeerEntry} {s : State} (fits : stationLaw s ∧ tableLaw s → tableFits s t) :
    Keeps c s (changeTable t s) := by
  have frame : Machine.changeTable t s = { s with ysu := (Machine.changeTable t s).ysu } := by
    apply State.eq_of_fields <;> simp
  have table : (Machine.changeTable t s).ysu.table = t := (changeTable_keptByHandOff t s).unit.table
  rw [frame]
  refine ofTable _ fun law => ?_
  obtain ⟨working, ascending, numbers, length⟩ := fits law
  obtain ⟨⟨steps, valid, -⟩, -⟩ := law
  unfold stationLaw tableLaw
  dsimp only
  rw [table]
  exact ⟨⟨steps, valid, working⟩, ascending, numbers, length⟩

theorem stale (n age : Nat) (s : State) : Keeps c s (Machine.changeTable (stalePeer n age s.ysu.table) s) :=
  changeTable fun law => tableFits_of_numbers (map_number_stalePeer n age _) (tableFits_of_laws law)

theorem remove (n age : Nat) (s : State) : Keeps c s (Machine.changeTable (removePeer n age s.ysu.table) s) :=
  changeTable fun law => tableFits_of_sublist List.filter_sublist (tableFits_of_laws law)

/-! ## The end of a frame sent (R83 to R85) -/

/-- The transmitter after a frame, whatever has become of the message: it waits on a queue or stands by (R83 to R85). -/
theorem frameEnd {y : Yli} {s : State} (queue : queueBounded s.yli → queueBounded y)
    (due : y.reportDue = s.yli.reportDue) : Keeps c s (afterFrame { s with yli := y }) := by
  have reports : lineMid s → y.reportDue = true → s.working = true := fun law on => law.2.2.2 (due ▸ on)
  unfold afterFrame
  split
  · next waits =>
    exact ofYli _ queue fun law => ⟨fun sends => (by cases sends), fun _ => waits.1, fun stands => (by cases stands),
      reports law⟩
  · next rests =>
    refine ofYli _ queue fun law => ⟨fun sends => (by cases sends), fun waits => (by cases waits), fun _ => ?_, reports law⟩
    by_cases empty : y.queue = []
    · exact .inl empty
    · exact .inr (.inl (by simpa [empty] using rests))

/-- A message that leaves flight leaves the bounds of the queue. -/
theorem queueBounded_of_landed {y : Yli} (law : queueBounded y) : queueBounded { y with inFlight := none } := by
  obtain ⟨reports, others⟩ := law
  refine ⟨reports, ?_⟩
  unfold Yli.othersHeld at others ⊢
  dsimp only
  omega

theorem completeFrame (s : State) : Keeps c s (completeFrame s) := by
  unfold Machine.completeFrame
  split
  · exact (cease .txBlocked s).trans (frameEnd (s := Machine.cease .txBlocked s) queueBounded_of_landed rfl)
  · exact refl s

/-- A message that comes back to the queue was among its bounds (R80, R84). -/
theorem queueBounded_of_returned {y : Yli} {f : InFlight} (flight : y.inFlight = some f) (law : queueBounded y) :
    queueBounded { y with inFlight := none, queue := returnToQueue f.msg y.queue } := by
  obtain ⟨reports, others⟩ := law
  unfold Yli.othersHeld at others
  rw [flight] at others
  unfold queueBounded Yli.othersHeld returnToQueue
  dsimp only at others ⊢
  split
  · next newer =>
    have first : (y.queue.filter Message.isReport ++ y.queue.filter fun x => !x.isReport).filter Message.isReport =
        y.queue.filter Message.isReport := by simp [List.filter_append, List.filter_filter]
    have second : (y.queue.filter Message.isReport ++ y.queue.filter fun x => !x.isReport).filter (fun x => !x.isReport) =
        y.queue.filter (fun x => !x.isReport) := by simp [List.filter_append, List.filter_filter]
    rw [first, second]
    exact ⟨reports, by omega⟩
  · next back =>
    cases report : f.msg.isReport with
    | true =>
      have none : y.queue.filter Message.isReport = [] := by
        simpa [List.filter_eq_nil_iff, report] using back
      simp only [List.filter_cons, report, if_true, none, List.length_cons, List.length_nil, Bool.not_true,
        Bool.false_eq_true, if_false] at others ⊢
      omega
    | false =>
      simp only [List.filter_cons, report, Bool.false_eq_true, if_false, List.length_cons, Bool.not_false, if_true] at others ⊢
      exact ⟨reports, by omega⟩

theorem collide (s : State) : Keeps c s (collide s) := by
  unfold Machine.collide
  split
  · next f flight =>
    dsimp only
    split
    · exact frameEnd queueBounded_of_landed rfl
    · split
      · exact frameEnd queueBounded_of_landed rfl
      · exact ofYli _ (queueBounded_of_returned flight) fun law =>
          ⟨fun sends => (by cases sends), fun waits => (by cases waits), fun stands => (by cases stands), law.2.2.2⟩
  · exact refl s

/-! ## The station's side of the line (R87, R91) -/

theorem queueBounded_emptied {y : Yli} (law : queueBounded y) : queueBounded y.emptied := by
  obtain ⟨-, others⟩ := law
  unfold Yli.othersHeld at others
  refine ⟨Nat.zero_le _, ?_⟩
  unfold Yli.othersHeld Yli.emptied
  cases flight : y.inFlight with
  | none => exact Nat.zero_le _
  | some f =>
    simp only [flight] at others
    simp only [Option.map_some, List.filter_nil, List.length_nil]
    omega

/-- The transmitter of an emptied line sends on, or stands by with no queue (R91). -/
theorem emptied_line {y : Yli} (sending : y.tx = .sending → y.line = .busy ∧ y.inFlight.isSome = true) :
    (y.emptied.tx = .sending → y.emptied.line = .busy ∧ y.emptied.inFlight.isSome = true) ∧ y.emptied.tx ≠ .waiting := by
  unfold Yli.emptied
  dsimp only
  split
  · next sends => exact ⟨fun _ => by simpa using sending sends, by simp⟩
  · exact ⟨fun sends => (by cases sends), by simp⟩

theorem emptyLine (s : State) : Keeps c s (emptyLine s) := by
  refine Keeps.trans (ofYli _ queueBounded_emptied fun law => ?_) (cease _ _)
  obtain ⟨sending, -, -, reports⟩ := law
  obtain ⟨sends, notWaiting⟩ := emptied_line sending
  exact ⟨sends, fun waits => absurd waits notWaiting, fun _ => .inl rfl, reports⟩

/-- The receiver's place and the counters have no law. -/
theorem receiver (frame : Bool) (counters : LineCounters) (s : State) :
    Keeps c s { s with yli := { s.yli with inFrame := frame, counters := counters } } := ofYli _ id id

theorem refuseOrder (s : State) : Keeps c s (refuseOrder s) := receiver _ _ s
theorem countBadFrame (s : State) : Keeps c s (countBadFrame s) := receiver _ _ s
theorem countCheckFail (s : State) : Keeps c s (countCheckFail s) := receiver _ _ s
theorem countAborted (s : State) : Keeps c s (countAborted s) := receiver _ _ s
theorem setInFrame (b : Bool) (s : State) : Keeps c s (setInFrame b s) := receiver _ _ s

/-! ## Orders that make no start (R87, R91, R129 to R131, R169, R175) -/

theorem orderHand (d : Duty) (s : State) : Keeps c s (orderHand d s) := by
  have ordered : Keeps c s { s with ysu := { s.ysu with
      order := .hand d, effective := s.station == .run && s.ini.key == .auto } } := ofYsu _ rfl
  exact ordered.trans ((makeEntry _ _).trans (settle _))

theorem orderAuto (s : State) : Keeps c s (orderAuto s) := by
  have ordered : Keeps c s { s with ysu := { s.ysu with
      order := .auto, effective := false, take := { s.ysu.take with dwell := some Config.dwellTime },
      give := { s.ysu.give with dwell := some Config.dwellTime } } } := ofYsu _ rfl
  exact ordered.trans ((makeEntry _ _).trans (settle _))

theorem orderLineReset (s : State) : Keeps c s (orderLineReset s) := by
  let q := Machine.emptyLine s
  let y : State := { q with yli := { q.yli with counters := .zero } }
  have zeroed : Keeps c q y := receiver _ _ q
  have relearns : Keeps c y { y with ysu := { y.ysu with relearn := some (2 * q.intervalMs) } } := ofYsu _ rfl
  exact (emptyLine s).trans (zeroed.trans (relearns.trans ((changeTable fun _ => tableFits_nil _).trans (settle _))))

theorem orderQuiet (s : State) : Keeps c s (orderQuiet s) := by
  unfold Machine.orderQuiet
  split
  · exact ofYli _ id fun law => ⟨fun sends => (by cases sends), fun waits => (by cases waits), fun _ => .inr (.inl rfl),
      law.2.2.2⟩
  · exact ofYli _ id fun law => ⟨law.1, law.2.1, fun _ => .inr (.inl rfl), law.2.2.2⟩

theorem orderTalk {s : State} (onLine : s.onLine = true) : Keeps c s (orderTalk s) :=
  ofYli _ id fun law => ⟨law.1, law.2.1, fun _ => .inr (.inr onLine), law.2.2.2⟩

theorem lineHeard (s : State) : Keeps c s (lineHeard s) := by
  unfold Machine.lineHeard
  split
  · have restarted : Keeps c s { s with ysu := { s.ysu with silence := some (5 * s.intervalMs) } } := ofYsu _ rfl
    exact restarted.trans (cease _ _)
  · exact refl s

theorem numberClash (s : State) : Keeps c s (numberClash s) := by
  have clashes : Keeps c s { s with ysu := { s.ysu with clash := some (10 * s.intervalMs) } } := ofYsu _ rfl
  exact clashes.trans ((raiseWithEntry _ _ _).trans (settle _))

end Keeps

/-! ## The accounts' figures of a report are of two characters (11.2) -/

theorem fieldAt_two_le (cs : List Byte) (i : Nat) : fieldAt cs i 2 ≤ 65535 := by
  have bound : ∀ (l : List Byte) (a : Nat), l.foldl (fun m x => m * 256 + x.toNat) a < (a + 1) * 256 ^ l.length := by
    intro l
    induction l with
    | nil => intro a; simp
    | cons x xs ih =>
      intro a
      have step := ih (a * 256 + x.toNat)
      have small : x.toNat < 256 := x.isLt
      rw [List.foldl_cons, List.length_cons, Nat.pow_succ]
      have grows : (a * 256 + x.toNat + 1) * 256 ^ xs.length ≤ (a + 1) * 256 * 256 ^ xs.length :=
        Nat.mul_le_mul_right _ (by omega)
      calc _ < _ := step
        _ ≤ _ := grows
        _ = _ := by ring
  have lt := bound ((cs.drop i).take 2) 0
  have length : ((cs.drop i).take 2).length ≤ 2 := by simp
  have top : 256 ^ ((cs.drop i).take 2).length ≤ 256 ^ 2 := Nat.pow_le_pow_right (by decide) length
  unfold fieldAt ofChars
  omega

namespace Keeps

variable {c : Instr} {s t u : State}

theorem reportArrival {p : Nat} (holder : holderSource p = true) {s : State} (working : s.working = true)
    (other : isEntry c = false) (body : List Byte) : Keeps c s (reportArrival p body s) := by
  unfold Machine.reportArrival
  split
  · exact numberClash s
  · next peer =>
    have range : 1 ≤ p ∧ p ≤ 16 := of_decide_eq_true holder
    let q := Machine.changeTable (enterPeer (entryOfReport p body) s.ysu.table) s
    have on : q.working = true := by simpa [q, State.working] using working
    have entered : Keeps c s q := changeTable (tableFits_enterPeer working range.1 range.2 peer)
    exact entered.trans ((peerPeriod (fieldAt_two_le body 0) on other).trans (settle _))

end Keeps

end Sys2Proof.Machine
end

section
/-! SUPPORT. What START, FAULT, the entries to LISTEN and RUN, the retained store and the passing of time keep. -/

namespace Sys2Proof.Machine

/-! ## Shared facts -/

/-- Outside LISTEN and RUN a kind that is raised moves the alarm sets alone (R88). -/
theorem raise_of_stopped {k : AlarmKind} {s : State} (stopped : s.working = false) :
    raise k s = { s with oau := (raise k s).oau } := by
  unfold raise
  split
  · rfl
  · unfold latch
    split
    · rfl
    · rw [trigger, if_neg]
      simpa [State.working] using stopped

@[simp] theorem deriveCommands_yli (s : State) : (deriveCommands s).yli = s.yli := by simp [deriveCommands]

/-- The line at the entry to FAULT: emptied, QUIET cleared and no REPORT due (R88, R91, R180). -/
theorem enterFault_yli (s : State) : (enterFault s).yli =
    { s.yli.emptied with quiet := false, reportTimer := none, reportDue := false } := by
  let q := releaseGovernor (deriveCommands (cease .alone (cease .numberClash (faultBlocks s))))
  have stopped : q.working = false := by simp [q, State.working, faultBlocks]
  have raised : enterFault s = raise .configFault q := rfl
  rw [raised, raise_of_stopped stopped]
  simp only [q, releaseGovernor_yli, deriveCommands_yli, cease_yli]
  rfl

/-- Contents that a good half holds are of the station's own writing (R185; log 14). -/
theorem wf_of_newestGood {s : State} (store : storeLaw s) {h : HalfId} {x : StoreHalf}
    (found : s.rst.newestGood = some (h, x)) : x.contents.wf = true := by
  have half : ∀ i y, s.rst.goodHalf i = some y → y.contents.wf = true := by
    intro i y good
    obtain ⟨held, isGood⟩ := Option.filter_eq_some_iff.1 good
    have law : y.wf = true := by
      cases i with
      | a => exact store.1 y held
      | b => exact store.2.1 y held
    simpa [StoreHalf.wf, isGood] using law
  unfold Rst.newestGood at found
  split at found
  · split at found
    · obtain ⟨rfl, rfl⟩ := Prod.mk.inj (Option.some.inj found)
      exact half _ _ ‹_›
    · obtain ⟨rfl, rfl⟩ := Prod.mk.inj (Option.some.inj found)
      exact half _ _ ‹_›
  · obtain ⟨rfl, rfl⟩ := Prod.mk.inj (Option.some.inj found)
    exact half _ _ ‹_›
  · obtain ⟨rfl, rfl⟩ := Prod.mk.inj (Option.some.inj found)
    exact half _ _ ‹_›
  · cases found

/-- The settings taken into use passed every test (R182). -/
theorem valid_of_plugTaken {plug : Option (List Byte)} {p : Settings} (taken : plugTaken plug = some p) :
    p.valid = true := by
  unfold plugTaken at taken
  split at taken
  · split at taken
    · next tests =>
      obtain rfl := Option.some.inj taken
      simp only [Bool.and_eq_true] at tests
      exact tests.2
    · cases taken
  · cases taken

/-- The halves of the store, one of them replaced by contents that may stand there. -/
theorem storeLaw_setHalf {s : State} (store : storeLaw s) {h : HalfId} {x : Option StoreHalf} (wf : ∀ y ∈ x, y.wf = true)
    {n : HalfId} {again due : Bool} : storeLaw { s with rst := { s.rst.setHalf h x with
      newest := n, writing := none, again := again, restartDue := due } } := by
  obtain ⟨a, b, -⟩ := store
  cases h with
  | a => exact ⟨wf, b, fun w none => (by cases none)⟩
  | b => exact ⟨a, wf, fun w none => (by cases none)⟩

namespace Keeps

variable {c : Instr} {s t u : State}

/-! ## FAULT (R180) -/

theorem faultBlocks (s : State) : Keeps c s (faultBlocks s) where
  pending := rfl
  alarm := (emptyLine (c := c) s).alarm
  queue := (emptyLine (c := c) s).queue
  line law := by
    obtain ⟨sends, notWaiting⟩ := emptied_line law.1
    exact ⟨sends, fun waits => absurd waits notWaiting, fun _ => .inl rfl, fun due => (by cases due)⟩
  table _ := ⟨⟨fun done => (by cases done), fun on => (by cases on), fun filled => absurd rfl filled⟩,
    .nil, fun _ member => (by cases member), Nat.zero_le _⟩
  input := id
  plant law := ⟨law.1, fun on => (by rcases on with done | on <;> cases ‹_›), law.2.2⟩
  drive _ := id
  governor _ := id
  books _ law := by
    obtain ⟨wf, store, empty, -⟩ := law
    exact ⟨wf, ⟨store.1, store.2.1, fun w none => (by cases none)⟩, empty, fun _ _ => rfl⟩
  graded _ _ on := by cases on

theorem enterFault (s : State) : Keeps c s (enterFault s) :=
  (faultBlocks s).trans ((cease _ _).trans ((cease _ _).trans ((deriveCommands _).trans ((releaseGovernor _).trans
    (raise _ _)))))

/-! ## START (R180 to R186) -/

theorem blocksAtStart (k : StartKind) (s : State) : Keeps c s (blocksAtStart k s) where
  pending := rfl
  alarm _ := by show (0#16 : Word) &&& ~~~ 0#16 = 0#16; decide
  queue _ := ⟨Nat.zero_le _, Nat.zero_le _⟩
  line _ := ⟨fun sends => (by cases sends), fun waits => (by cases waits), fun _ => .inl rfl, fun due => (by cases due)⟩
  table _ := ⟨⟨fun done => (by cases done), fun on => (by cases on), fun filled => absurd rfl filled⟩,
    .nil, fun _ member => (by cases member), Nat.zero_le _⟩
  input _ := by
    have cleared : ∀ i, recordLaw i InputRecord.cleared :=
      fun i => ⟨fun valid => (by cases valid), fun v held => (by cases held), by decide⟩
    exact ⟨cleared .crown, cleared .gauge, cleared .inletMain, cleared .district, cleared .gasTemp, cleared .barometer⟩
  plant _ := ⟨fun p used => (by cases used), fun on => (by rcases on with done | on <;> cases ‹_›), Nat.zero_le _⟩
  drive v _ := by cases v <;> exact driveLaw_of_notDriven rfl (Nat.zero_le 2)
  governor _ _ := ⟨Nat.zero_le _, by simp [Machine.blocksAtStart, Pgv.initial], fun _ => ⟨rfl, rfl⟩,
    fun driven => absurd rfl driven, fun _ => rfl⟩
  books _ law := by
    refine ⟨(by decide : RetainedContents.wf { clearedContents with period := .unset } = true), ?_, fun due => (by cases due),
      fun _ due => (by cases due)⟩
    exact ⟨law.2.1.1, law.2.1.2.1, fun w none => (by cases none)⟩
  graded _ _ on := by cases on

end Keeps

/-- The state in which START makes its steps: nothing of the past is left but the pins and the store. -/
structure Starting (s : State) : Prop where
  station : s.station = .start
  steps : s.stepsDone = false
  table : s.ysu.table = []
  height : s.srk.record.h = 0
  due : s.acu.openingDue = false

theorem Starting.working {s : State} (h : Starting s) : s.working = false := by simp [State.working, h.station]

theorem starting_blocksAtStart (k : StartKind) (s : State) : Starting (blocksAtStart k s) := ⟨rfl, rfl, rfl, rfl, rfl⟩

theorem raiseDriveFault_frame {d : Side} {s : State} (stopped : s.working = false) :
    raiseDriveFault d s = { s with oau := (raiseDriveFault d s).oau } := by
  unfold raiseDriveFault
  split
  · exact raise_of_stopped stopped
  · rfl

theorem Starting.raiseDriveFault {s : State} (h : Starting s) (d : Side) : Starting (raiseDriveFault d s) := by
  rw [raiseDriveFault_frame h.working]
  exact ⟨h.station, h.steps, h.table, h.height, h.due⟩

/-- The station in which START's steps begin. -/
def startBlocks (k : StartKind) (s : State) : State :=
  raiseDriveFault .outlet (raiseDriveFault .inlet (blocksAtStart k s))

theorem starting_startBlocks (k : StartKind) (s : State) : Starting (startBlocks k s) :=
  ((starting_blocksAtStart k s).raiseDriveFault .inlet).raiseDriveFault .outlet

/-- Before the steps the alarm sets alone differ from the block values. -/
theorem startBlocks_frame (k : StartKind) (s : State) :
    startBlocks k s = { blocksAtStart k s with oau := (startBlocks k s).oau } := by
  have inlet := raiseDriveFault_frame (d := .inlet) (starting_blocksAtStart k s).working
  have outlet := raiseDriveFault_frame (d := .outlet) ((starting_blocksAtStart k s).raiseDriveFault .inlet).working
  unfold startBlocks
  rw [outlet, inlet]

namespace Keeps

variable {c : Instr} {s t u : State}

/-- The number and the settings taken by START. -/
theorem startFigures {s : State} (h : Starting s) (n sum : Nat) {plug : Option Settings} (valid : ∀ p ∈ plug, p.valid = true) :
    Keeps c s { s with number := n, plugSum := sum, plug := plug } := by
  have stopped := h.working
  refine ⟨rfl, id, id, fun law => ?_, fun law => ?_, id, fun _ => ?_, fun _ => id, fun _ => id, fun _ => id, fun _ => id⟩
  · obtain ⟨sending, waiting, standby, reports⟩ := law
    have silent : s.yli.reportDue = false := by
      by_contra due
      rw [reports (by simpa using due)] at stopped
      cases stopped
    refine ⟨sending, waiting, fun stands => ?_, fun due => ?_⟩
    · rcases standby stands with empty | quiet | onLine
      · exact .inl empty
      · exact .inr (.inl quiet)
      · simp [State.onLine, stopped, h.station] at onLine
    · rw [silent] at due
      cases due
  · refine ⟨⟨fun done => ?_, fun on => ?_, fun filled => absurd h.table filled⟩, ?_⟩
    · exact absurd (h.steps.symm.trans done) (by decide)
    · exact absurd (stopped.symm.trans on) (by decide)
    · unfold tableLaw
      dsimp only
      rw [h.table]
      exact ⟨.nil, fun _ member => (by cases member), Nat.zero_le _⟩
  · refine ⟨valid, fun on => ?_, ?_⟩
    · rcases on with done | on
      · exact absurd (h.steps.symm.trans done) (by decide)
      · exact absurd (stopped.symm.trans on) (by decide)
    · dsimp only
      rw [h.height]
      exact Nat.zero_le _

/-- Some contents of the station's own writing go to their blocks (R34, R72, R149, R170). -/
theorem takeContents {x : RetainedContents} {s : State} (h : Starting s)
    (wf : c.wellFormed = true → booksMid c s → x.wf = true) : Keeps c s (takeContents x s) where
  pending := rfl
  alarm := id
  queue := id
  line := id
  table := id
  input := id
  plant := id
  drive _ := id
  governor _ := id
  books wellFormed law := by
    have none : s.acu.openingDue ≠ true := by simp [h.due]
    exact ⟨wf wellFormed law, law.2.1, fun due => absurd due none, fun _ due => absurd due none⟩
  graded _ := id

/-- START's steps are done where the number is valid and the plug in use (R180). -/
theorem stepsFinished {s : State} (station : s.station = .start) (number : s.numberValid = true)
    (plug : s.plug.isSome = true) : Keeps c s (stepsFinished s) where
  pending := rfl
  alarm := id
  queue := id
  line := id
  table law := ⟨⟨fun _ => ⟨number, station⟩, law.1.2.1, law.1.2.2⟩, law.2⟩
  input := id
  plant law := ⟨law.1, fun _ => plug, law.2.2⟩
  drive _ := id
  governor _ := id
  books _ := id
  graded _ := id

theorem clearedContents_wf : clearedContents.wf = true := by decide

/-- A bad store cleared, or found not to take the clearing (R171, R185). -/
theorem clearStore {back : ReadBack} {s : State} (h : Starting s) (number : s.numberValid = true)
    (plug : s.plug.isSome = true) (wf : c.wellFormed = true → back.wf = true) : Keeps c s (clearStore back s) := by
  let q := Machine.takeContents clearedContents s
  have taken : Keeps c s q := takeContents h fun _ _ => clearedContents_wf
  unfold Machine.clearStore
  dsimp only
  split
  · let p : State := { q with rst := { q.rst with a := some (StoreHalf.make clearedContents 1), newest := .a } }
    have written : Keeps c q p := ofRst _ fun _ law =>
      ⟨fun y made => Option.some.inj made ▸ (by simp [StoreHalf.wf, StoreHalf.make, clearedContents_wf]),
        law.2.1.2.1, law.2.1.2.2⟩
    have awaits : Keeps c p { p with acu := { p.acu with openingDue := true } } := ofAcu _ fun _ law =>
      ⟨law.1, law.2.1, fun _ => rfl, fun _ _ => h.working⟩
    refine taken.trans (written.trans (awaits.trans ((latch _ _).trans (stepsFinished ?_ ?_ ?_))))
    · rw [latch_station]
      exact h.station
    · rw [State.numberValid, latch_number]
      exact number
    · rw [latch_plug]
      exact plug
  · next now =>
    have misread : Keeps c q { q with rst := { q.rst with a := now, newest := .a } } := ofRst _ fun wellFormed law =>
      ⟨fun y held => by
        obtain rfl := held
        simpa [ReadBack.wf] using wf wellFormed, law.2.1.2.1, law.2.1.2.2⟩
    exact taken.trans (misread.trans (enterFault _))

theorem storeCheck {back : ReadBack} {s : State} (h : Starting s) (number : s.numberValid = true)
    (plug : s.plug.isSome = true) (wf : c.wellFormed = true → back.wf = true) : Keeps c s (storeCheck back s) := by
  unfold Machine.storeCheck
  split
  · next half x found =>
    have chosen : Keeps c s { s with rst := { s.rst with newest := half } } := ofRst _ fun _ law => law.2.1
    have taken : Keeps c { s with rst := { s.rst with newest := half } }
        (Machine.takeContents x.contents { s with rst := { s.rst with newest := half } }) :=
      takeContents ⟨h.station, h.steps, h.table, h.height, h.due⟩ fun _ law => wf_of_newestGood (s := s) law.2.1 found
    exact chosen.trans (taken.trans (stepsFinished h.station number plug))
  · exact clearStore h number plug wf

theorem startSteps {reads : StartReadings} {s : State} (h : Starting s) (wf : c.wellFormed = true → reads.wf = true) :
    Keeps c s (startSteps reads s) := by
  unfold Machine.startSteps
  dsimp only
  split
  · by_cases fits : ∀ p ∈ s.plug, p.valid = true
    · exact (startFigures h reads.straps s.plugSum fits).trans (enterFault _)
    · refine Keeps.trans ?_ (enterFault _)
      have figures := startFigures (c := c) (plug := none) h reads.straps s.plugSum fun p none => (by cases none)
      refine ⟨rfl, figures.alarm, figures.queue, figures.line, figures.table, figures.input,
        fun law => absurd law.1 fits, figures.drive, figures.governor, figures.books, figures.graded⟩
  · next number =>
    have valid : State.numberValid { s with number := reads.straps } = true := by simpa using number
    let q : State := { s with number := reads.straps, plugSum := plugCheckWord reads.plug, plug := plugTaken reads.plug }
    have figures : Keeps c s q := startFigures h _ _ fun p taken => valid_of_plugTaken taken
    split
    · exact figures.trans (enterFault _)
    · next taken =>
      split
      · exact figures.trans (enterFault _)
      · exact figures.trans (storeCheck (s := q) ⟨h.station, h.steps, h.table, h.height, h.due⟩ valid
          (by simpa [Option.isNone_iff_eq_none, Option.isSome_iff_ne_none] using taken) wf)

theorem raiseDriveFault (d : Side) (s : State) : Keeps c s (raiseDriveFault d s) := by
  unfold Machine.raiseDriveFault
  split
  · exact raise _ s
  · exact refl s

theorem start {k : StartKind} {reads : StartReadings} (s : State) (wf : c.wellFormed = true → reads.wf = true) :
    Keeps c s (start k reads s) :=
  (blocksAtStart k s).trans ((raiseDriveFault _ _).trans ((raiseDriveFault _ _).trans
    (startSteps (starting_startBlocks k s) wf)))

theorem stationRestart {reads : StartReadings} (s : State) (wf : c.wellFormed = true → reads.wf = true) :
    Keeps c s (stationRestart reads s) := by
  unfold Machine.stationRestart
  split
  · exact ofRst _ fun _ law => law.2.1
  · exact start s wf

theorem tearWrite (s : State) : Keeps c s (tearWrite s) := by
  unfold Machine.tearWrite
  split
  · exact ofRst _ fun _ law => storeLaw_setHalf law.2.1 fun y none => (by cases none)
  · exact refl s

/-! ## The retained store (R184) -/

theorem writeKept {w : StoreWrite} {s : State} (writing : s.rst.writing = some w) : Keeps c s (writeKept w s) :=
  ofRst _ fun _ law => storeLaw_setHalf law.2.1 fun y made => by
    obtain rfl := Option.some.inj made
    simp [StoreHalf.wf, law.2.1.2.2 w writing]

theorem writeAgain (s : State) : Keeps c s (writeAgain s) := by
  unfold Machine.writeAgain
  split
  · have cleared : Keeps c s { s with rst := { s.rst with again := false } } := ofRst _ fun _ law => law.2.1
    exact cleared.trans (beginWrite _)
  · exact refl s

/-- A half found to hold something else, or the image as written, the write being over (R184). -/
theorem writeOver (h : HalfId) {now : Option StoreHalf} (s : State)
    (wf : c.wellFormed = true → booksMid c s → ∀ y ∈ now, y.wf = true) :
    Keeps c s { s with rst := { s.rst.setHalf h now with writing := none } } :=
  ofRst _ fun wellFormed law => storeLaw_setHalf law.2.1 (wf wellFormed law)

/-! ## The entries to LISTEN and RUN (R134, R170, R171, R180) -/

/-- LISTEN entered from START's end: the station, its timers and the key (R39, R180). -/
theorem listenBegins {key : Option KeyPosition} {s : State} (station : s.station = .start) (steps : s.stepsDone = true) :
    Keeps (.entryToListen key) s
      (listenTimers { s with station := .listen, stepsDone := false, ini := initialKey key s.ini }) := by
  have stopped : s.working = false := by simp [State.working, station]
  refine ⟨rfl, id, id, fun law => ?_, fun law => ?_, ?_, fun law => ⟨law.1, fun _ => law.2.1 (.inl steps), law.2.2⟩,
    fun _ => id, fun _ => id, fun _ law => ?_, fun entry => (by cases entry)⟩
  · exact ⟨law.1, law.2.1, fun _ => .inr (.inr rfl), fun _ => rfl⟩
  · obtain ⟨⟨done, -, -⟩, table⟩ := law
    refine ⟨⟨fun on => (by cases on), fun _ => ⟨(done steps).1, ?_⟩, fun _ => rfl⟩, table⟩
    show (initialKey key s.ini).keyTaken = true
    unfold initialKey
    split
    · assumption
    · split <;> rfl
  · unfold inputLaw listenTimers initialKey
    dsimp only
    split
    · exact id
    · split <;> exact id
  · obtain ⟨wf, store, empty, -⟩ := law
    refine ⟨?_, store, empty, fun entry => (by cases entry)⟩
    have minute : (initialKey key s.ini).minute = s.ini.minute := by
      unfold initialKey
      split
      · rfl
      · split <;> rfl
    unfold retainedContents listenTimers at *
    dsimp only at *
    rw [minute]
    exact wf

theorem dropStartPulses (s : State) : Keeps c s (dropStartPulses s) := ofIni _ id id id

theorem enterStart (s : State) : Keeps c s (enterStart s) := by
  refine ofAcu _ fun _ law => ?_
  obtain ⟨wf, store, opening⟩ := law
  refine ⟨?_, store, opening⟩
  rw [RetainedContents.wf_iff] at wf ⊢
  obtain ⟨number, stock, entries⟩ :=
    OpenPeriod.addEntry_kept s.acu.period { kind := startEntry s, minute := startMinute s }
  dsimp only [retainedContents] at wf ⊢
  rw [OpenPeriod.continues_congr number stock]
  exact ⟨wf.1, wf.2.1, entries wf.2.2.1, wf.2.2.2⟩

theorem enterListen (key : Option KeyPosition) {s : State} (ready : s.station = .start ∧ s.stepsDone = true) :
    Keeps (.entryToListen key) s (Machine.workRecord (Machine.enterStart (Machine.dropStartPulses
      (listenTimers { s with station := .listen, stepsDone := false, ini := initialKey key s.ini })))) :=
  (listenBegins ready.1 ready.2).trans ((dropStartPulses _).trans ((enterStart _).trans (workRecord _)))

/-- RUN entered from LISTEN: the station, the roles taken over and the period's number (R134, R171). -/
theorem runBegins {s : State} (station : s.station = .listen) : Keeps c s
    { s with station := .run, listenTimer := none, ysu := adoptRoles s,
             acu := { s.acu with period := { s.acu.period with number := some (s.acu.period.number.getD 1) } } } := by
  have working : s.working = true := by simp [State.working, station]
  refine ⟨rfl, id, id, fun law => ?_, fun law => ?_, id, fun law => ⟨law.1, fun _ => law.2.1 (.inr working), law.2.2⟩,
    fun _ => id, fun _ => id, fun _ law => ?_, fun _ law _ => law working⟩
  · exact ⟨law.1, law.2.1, fun _ => .inr (.inr rfl), fun _ => rfl⟩
  · obtain ⟨⟨done, valid, -⟩, table⟩ := law
    refine ⟨⟨fun on => ?_, fun _ => valid working, fun _ => rfl⟩, table⟩
    rw [station] at done
    exact absurd (done on).2 (by decide)
  · obtain ⟨wf, store, empty, stopped⟩ := law
    refine ⟨?_, store, empty, fun other due => ?_⟩
    · rw [RetainedContents.wf_iff] at wf ⊢
      obtain ⟨list, follows, rest⟩ := wf
      refine ⟨list, ?_, rest⟩
      dsimp only [retainedContents] at follows ⊢
      unfold OpenPeriod.continues at follows ⊢
      dsimp only
      cases open_ : s.acu.period.number with
      | some n =>
        rw [open_] at follows
        exact follows
      | none =>
        rw [open_] at follows
        cases last : s.acu.list.getLast? with
        | none => rfl
        | some r => simp [last] at follows
    · rw [stopped other due] at working
      cases working

theorem enterRun {s : State} (station : s.station = .listen) : Keeps c s (enterRun s) :=
  (runBegins station).trans (settleFrom _ _)

/-! ## The passing of time (log 4) -/

theorem tickWork (s : State) : Keeps c s (tickWork s) where
  pending := rfl
  alarm := id
  queue := id
  line := id
  table law := by
    have ticked : tableFits s (s.ysu.tick s.working (10 * s.intervalMs)).table := by
      unfold Ysu.tick
      dsimp only
      split
      · refine tableFits_of_numbers ?_ (tableFits_of_laws law)
        simp [PeerEntry.tick]
      · exact tableFits_of_laws law
    obtain ⟨working, ascending, numbers, length⟩ := ticked
    exact ⟨⟨law.1.1, law.1.2.1, working⟩, ascending, numbers, length⟩
  input law := by
    have ticked : ∀ {i : InputId} {r : InputRecord}, recordLaw i r → recordLaw i r.tick := by
      intro i r held
      exact ⟨held.1, held.2.1, by simpa [InputRecord.tick, tickTimer] using held.2.2⟩
    obtain ⟨crown, gauge, inletMain, district, gasTemp, barometer⟩ := law
    exact ⟨ticked crown, ticked gauge, ticked inletMain, ticked district, ticked gasTemp, ticked barometer⟩
  plant := id
  drive v law := by
    have ticked : ∀ {d : Drive}, driveLaw d → driveLaw d.tick := by
      intro d moved
      obtain ⟨retry, free, opening, closing⟩ := moved
      exact ⟨retry, free, by simpa [Drive.tick, tickTimer] using opening, by simpa [Drive.tick, tickTimer] using closing⟩
    cases v <;> exact ticked law
  governor _ law := by
    obtain ⟨le, step, rest⟩ := law
    exact ⟨le, by simpa [Machine.tickWork, tickTimer] using step, rest⟩
  books _ := id
  graded _ := id

end Keeps

end Sys2Proof.Machine
end

section
/-! SUPPORT. What every command keeps and how it leaves the line, and the statements that rest on it. -/

namespace Sys2Proof.Machine

/-! ## The line of a start -/

theorem latch_of_stopped {k : AlarmKind} {s : State} (stopped : s.working = false) :
    latch k s = { s with oau := (latch k s).oau } := by
  unfold latch
  split
  · rfl
  · rw [trigger, if_neg]
    simpa [State.working] using stopped

/-- An entry to FAULT from a start leaves the line as the start had it. -/
theorem enterFault_yli_of_initial {s : State} (yli : s.yli = .initial) : (enterFault s).yli = .initial := by
  rw [enterFault_yli, yli]
  rfl

theorem storeCheck_yli {back : ReadBack} {s : State} (stopped : s.working = false) (yli : s.yli = .initial) :
    (storeCheck back s).yli = .initial := by
  unfold storeCheck
  split
  · exact yli
  · unfold clearStore
    dsimp only
    split
    · have latched := latch_of_stopped (k := .retainedLost) (s := { takeContents clearedContents s with
        rst := { s.rst with a := some (StoreHalf.make clearedContents 1), newest := .a },
        acu := { (takeContents clearedContents s).acu with openingDue := true } }) stopped
      exact (congrArg State.yli latched).trans yli
    · exact enterFault_yli_of_initial yli

/-- A start leaves the line at its first values, whether its steps pass or fail (R186). -/
theorem start_yli (k : StartKind) (reads : StartReadings) (s : State) : (start k reads s).yli = .initial := by
  have starting := starting_startBlocks k s
  have yli : (startBlocks k s).yli = .initial := by
    rw [startBlocks_frame]
    rfl
  show (startSteps reads (startBlocks k s)).yli = .initial
  unfold startSteps
  dsimp only
  split
  · exact enterFault_yli_of_initial yli
  · split
    · exact enterFault_yli_of_initial yli
    · split
      · exact enterFault_yli_of_initial yli
      · exact storeCheck_yli starting.working yli

theorem Keeps.changeRole {c : Instr} (r : Role) (held : Option Cause) (s : State) : Keeps c s (changeRole r held s) :=
  let q := Machine.updateRole r (fun x => { x with held := held, delay := none, dwell := some Config.dwellTime }) s
  have moved : Keeps c s q := .updateRole r _ s
  have restarted : Keeps c q (restartTimers r q) := .updateRole r _ q
  moved.trans restarted

/-! ## How an event ends -/

theorem lineMid_of_lineLaw {s : State} (law : lineLaw s) : lineMid s := by
  obtain ⟨due, sending, waiting, standby⟩ := law
  exact ⟨sending, fun waits => (waiting waits).2, fun stands => (standby stands).elim .inl fun quiet => .inr (.inl quiet),
    fun on => by simp [due] at on⟩

/-- What a command keeps between its two states, the line's law with it. -/
structure Ends (c : Instr) (s t : State) : Prop where
  keeps : Keeps c s t
  line : lineLaw s → lineLaw t

namespace Ends

variable {c : Instr} {s t u : State}

/-- An event that works and then ends (log 8). -/
theorem finish (worked : Keeps c s t) : Ends c s (finish t) :=
  ⟨worked.trans (.finish t), fun law => lineLaw_finish (worked.line (lineMid_of_lineLaw law))⟩

/-- An event that leaves the line. -/
theorem still (worked : Keeps c s t) (yli : t.yli = s.yli) : Ends c s t :=
  ⟨worked, fun law => by unfold lineLaw; rw [yli]; exact law⟩

theorem refl (s : State) : Ends c s s := still (.refl s) rfl

theorem powered {f : State → State} (works : Ends c s (f s)) : Ends c s (powered f s) :=
  powered_cases (P := Ends c s) (refl s) works

/-- An event that leaves the line at its first values. -/
theorem initial (worked : Keeps c s t) (yli : t.yli = .initial) : Ends c s t := by
  refine ⟨worked, fun _ => ?_⟩
  unfold lineLaw
  rw [yli]
  exact ⟨rfl, fun sends => (by cases sends), fun waits => (by cases waits), fun _ => .inl rfl⟩

/-! ## Starts and the store -/

theorem start {k : StartKind} {reads : StartReadings} (worked : Keeps c s t) (wf : c.wellFormed = true → reads.wf = true) :
    Ends c s (start k reads t) :=
  initial (worked.trans (.start t wf)) (start_yli k reads t)

theorem stationRestart {reads : StartReadings} (worked : Keeps c s t) (yli : t.yli = s.yli)
    (wf : c.wellFormed = true → reads.wf = true) : Ends c s (stationRestart reads t) := by
  have kept : Keeps c s (Machine.stationRestart reads t) := worked.trans (.stationRestart t wf)
  unfold Machine.stationRestart at kept ⊢
  split
  · next writing =>
    rw [if_pos writing] at kept
    exact still kept yli
  · exact start worked wf

theorem writeDone {back : ReadBack} {reads : StartReadings} (wf : c.wellFormed = true → back.wf = true ∧ reads.wf = true)
    (s : State) : Ends c s (writeDone back reads s) := by
  unfold Machine.writeDone
  split
  · exact refl s
  · next w writing =>
    have found : ∀ now, back = .differs now → c.wellFormed = true → ∀ y ∈ now, y.wf = true := by
      rintro now rfl wellFormed y rfl
      simpa [ReadBack.wf] using (wf wellFormed).1
    have image : booksMid c s → ∀ y ∈ some w.image, y.wf = true := by
      intro law y made
      obtain rfl := Option.some.inj made
      simp [StoreHalf.wf, law.2.1.2.2 w writing]
    split
    · split
      · exact start (.writeOver w.half s fun _ => image) fun wellFormed => (wf wellFormed).2
      · exact finish ((Keeps.writeKept writing).trans (.writeAgain _))
    · next now =>
      have ended : Keeps c s { s with rst := { s.rst.setHalf w.half now with writing := none } } :=
        .writeOver w.half s fun wellFormed _ => found now rfl wellFormed
      split
      · exact start ended fun wellFormed => (wf wellFormed).2
      · exact finish (ended.trans (.enterFault _))

/-! ## Instruments -/

theorem minuteImpulse (other : isEntry c = false) (s : State) : Ends c s (minuteImpulse s) := by
  unfold Machine.minuteImpulse
  split
  · split
    · exact finish (.impulseHeard none s)
    · exact finish ((Keeps.impulseHeard none s).trans (.stepMinute other _))
  · exact refl s

theorem selfCount (other : isEntry c = false) (s : State) : Ends c s (selfCount s) := by
  unfold Machine.selfCount
  split
  · have counted : Keeps c s { s with ini := { s.ini with
        selfRun := min (s.ini.selfRun + 1) 3, absorb := some Config.absorbTime,
        impulse := some Config.impulseTime } } := .ofIni _ id id id
    exact finish (counted.trans ((Keeps.stepMinute other _).trans (.judgeRun _)))
  · exact refl s

theorem synchronise (other : isEntry c = false) (s : State) : Ends c s (synchronise s) := by
  unfold Machine.synchronise
  split
  · dsimp only
    let q := Machine.impulseHeard (some Config.absorbTime) s
    have set : Keeps c q { q with ini := { q.ini with minute := 360, synced := true } } :=
      .ofIni _ id (fun _ => by dsimp only; omega) id
    exact finish ((Keeps.impulseHeard _ s).trans (set.trans ((Keeps.judgeJump other _ _).trans (.judgeCalls _))))
  · exact refl s

theorem takeKey (p : KeyPosition) (s : State) : Ends c s (takeKey p s) := by
  unfold Machine.takeKey
  split
  · exact still (.ofIni _ id id fun _ => rfl) rfl
  · split
    · exact refl s
    · exact finish (.changeKey p s)

theorem pressButton (s : State) : Ends c s (if s.ini.button then s else Machine.powered pressButton (closeButton s)) := by
  split
  · exact refl s
  · have closed : Keeps c s (closeButton s) := Keeps.button true s.ini.buttonHold s
    have accepted : Keeps c s (Machine.pressButton (closeButton s)) :=
      closed.trans ((Keeps.acceptAlarms _).trans (.button _ (some Config.buttonTime) _))
    exact powered_cases (P := Ends c s) (still closed rfl) (still accepted rfl)

theorem buttonHeld {reads : StartReadings} (wf : c.wellFormed = true → reads.wf = true) (s : State) :
    Ends c s (buttonHeld reads s) := by
  unfold Machine.buttonHeld
  split
  · exact stationRestart (.button s.ini.button none s) rfl wf
  · exact refl s

theorem endSwitch (v : Side) (e : SwitchEnd) (made : Bool) (s : State) : Ends c s (endSwitch v e made s) := by
  unfold Machine.endSwitch
  split
  · exact refl s
  · have switched : Keeps c s (Machine.setSwitch v e made s) := .setSwitch v e made s
    exact powered_cases (P := Ends c s) (still switched rfl)
      (finish (switched.trans ((Keeps.putDrive _ (driveLaw_switched _ _)).trans (.settle _))))

theorem travelExpired (v : Side) (s : State) : Ends c s (travelExpired v s) := by
  unfold Machine.travelExpired
  split
  · exact finish ((Keeps.putDrive s (driveLaw_expire _)).trans (.settle _))
  · exact refl s

theorem sampleInput (i : InputId) (x : Int) (s : State) : Ends c s (sampleInput i x s) :=
  finish ((Keeps.setInput s (recordLaw_sample x)).trans ((Keeps.sampleFollowed i _).trans (.inputReaders i _)))

theorem holdExpired (i : InputId) (s : State) : Ends c s (holdExpired i s) := by
  unfold Machine.holdExpired
  split
  · exact finish ((Keeps.setInput s recordLaw_expire).trans (.inputReaders i _))
  · exact refl s

theorem countPulse (m : Side) (s : State) : Ends c s (countPulse m s) := by
  unfold Machine.countPulse
  split
  · cases m <;> exact still (.ofIni _ id id id) rfl
  · exact refl s

theorem reckonExpired (s : State) : Ends c s (reckonExpired s) := by
  unfold Machine.reckonExpired
  split
  · have restarted : Keeps c s { s with srk := { s.srk with timer := some Config.reckonTime } } := .ofSrk _ id id
    exact finish (restarted.trans (.workRecord _))
  · exact refl s

/-! ## The line -/

theorem carrierHeard (s : State) : Ends c s (carrierHeard s) :=
  ⟨.ofYli _ id fun law => ⟨fun sends => ⟨rfl, (law.1 sends).2⟩, law.2⟩,
    fun law => ⟨law.1, fun sends => ⟨rfl, (law.2.1 sends).2⟩, fun waits => ⟨rfl, (law.2.2.1 waits).2⟩, law.2.2.2⟩⟩

theorem lineFellIdle (openTaken : Bool) (s : State) : Ends c s (lineFellIdle openTaken s) := by
  unfold Machine.lineFellIdle
  split
  · exact refl s
  · next silent =>
    dsimp only
    have idle : ∀ q : State, q.yli.tx = s.yli.tx → Keeps c q { q with yli := { q.yli with line := .idle, inFrame := false } } :=
      fun q tx => .ofYli _ id fun law => ⟨fun sends => absurd (tx.symm.trans sends) silent, law.2⟩
    split
    · exact finish ((Keeps.countBadFrame s).trans (idle _ rfl))
    · exact finish (idle s rfl)

theorem frameDone (s : State) : Ends c s (frameDone s) := by
  unfold Machine.frameDone
  split
  · exact finish (.completeFrame s)
  · exact refl s

theorem frameCollided (s : State) : Ends c s (frameCollided s) := by
  unfold Machine.frameCollided
  split
  · exact finish (.collide s)
  · exact refl s

theorem backOffExpired (s : State) : Ends c s (backOffExpired s) := by
  unfold Machine.backOffExpired
  split
  · exact finish (.frameEnd id rfl)
  · exact refl s

theorem blockedExpired (s : State) : Ends c s (blockedExpired s) := by
  unfold Machine.blockedExpired
  split
  · have stopped : Keeps c s { s with yli := { s.yli with blocked := none } } := .ofYli _ id id
    exact finish (stopped.trans (.raise _ _))
  · exact refl s

theorem reportExpired (s : State) : Ends c s (reportExpired s) := by
  unfold Machine.reportExpired
  split
  · exact finish (.trigger s)
  · exact refl s

/-! ## Duty sharing -/

theorem staleExpired (n : Nat) (s : State) : Ends c s (staleExpired n s) := by
  unfold Machine.staleExpired
  split
  · exact finish ((Keeps.stale n _ s).trans (.settle _))
  · exact refl s

theorem removalExpired (n : Nat) (s : State) : Ends c s (removalExpired n s) := by
  unfold Machine.removalExpired
  split
  · exact finish ((Keeps.remove n _ s).trans (.settle _))
  · exact refl s

theorem clashExpired (s : State) : Ends c s (clashExpired s) := by
  unfold Machine.clashExpired
  split
  · have stopped : Keeps c s { s with ysu := { s.ysu with clash := none } } := .ofYsu _ rfl
    exact finish (stopped.trans ((Keeps.cease _ _).trans (.settle _)))
  · exact refl s

theorem silenceExpired (s : State) : Ends c s (silenceExpired s) := by
  unfold Machine.silenceExpired
  split
  · have stopped : Keeps c s { s with ysu := { s.ysu with silence := none } } := .ofYsu _ rfl
    exact finish (stopped.trans ((Keeps.raiseWithEntry _ _ _).trans (.settle _)))
  · exact refl s

theorem callExpired (r : Role) (k : CallKind) (s : State) : Ends c s (callExpired r k s) := by
  unfold Machine.callExpired
  split
  · exact finish ((Keeps.updateRole r _ s).trans (.settle _))
  · exact refl s

theorem delayExpired (r : Role) (s : State) : Ends c s (delayExpired r s) := by
  unfold Machine.delayExpired
  split
  · have ended : Keeps c s (endDelay r s) := by
      unfold endDelay
      dsimp only
      split
      · exact (Keeps.updateRole r _ s).trans (.changeRole r _ _)
      · exact .updateRole r _ s
    exact finish (ended.trans (.settleFrom _ _))
  · exact refl s

theorem dwellExpired (r : Role) (s : State) : Ends c s (dwellExpired r s) := by
  unfold Machine.dwellExpired
  split
  · exact finish ((Keeps.updateRole r _ s).trans (.settle _))
  · exact refl s

theorem relearnExpired (s : State) : Ends c s (relearnExpired s) := by
  unfold Machine.relearnExpired
  split
  · have stopped : Keeps c s { s with ysu := { s.ysu with relearn := none } } := .ofYsu _ rfl
    exact finish (stopped.trans (.settle _))
  · exact refl s

/-- A governor step moves the governor alone, which its own law speaks of under the mode's table (R139). -/
theorem stepExpired (s : State) : Ends .stepTimerExpiry s (stepExpired s) := by
  unfold Machine.stepExpired
  split
  · let q := governorStep { s with pgv := { s.pgv with step := some Config.stepTime } }
    have stepped : Keeps .stepTimerExpiry s q :=
      ⟨rfl, id, id, id, id, id, id, fun v => by cases v <;> exact id, fun other => absurd rfl other, fun _ => id,
        fun _ => id⟩
    exact finish (stepped.trans (.judgeCalls _))
  · exact refl s

end Ends

/-! ## Orders and frames -/

/-- A valid message heard, and handed to its owner where it is accepted (R77, R78). -/
def routedMessage (source destination : Nat) (k : MessageKind) (body : List Byte) (reads : StartReadings) (s : State) :
    State :=
  match acceptedAs (lineHeard s) destination with
  | some a => routeAccepted source a k body reads (lineHeard s)
  | none => lineHeard s

/-- The standing rules are tested at the end of ALONE, with what the message brought (R127). -/
theorem validMessage_eq (source destination : Nat) (k : MessageKind) (body : List Byte) (reads : StartReadings) (s : State) :
    validMessage source destination k body reads s =
      if s.isCurrent .alone && (routedMessage source destination k body reads s).working then
        settle (routedMessage source destination k body reads s)
      else routedMessage source destination k body reads s := rfl

namespace Keeps

variable {c : Instr} {s t u : State}

theorem performOrder {o : Order} {reads : StartReadings} {s : State} (onLine : s.onLine = true)
    (wf : c.wellFormed = true → o = .restart → reads.wf = true) : Keeps c s (performOrder o reads s) := by
  cases o with
  | hand d => exact orderHand d s
  | auto => exact orderAuto s
  | accept => exact acceptAlarms s
  | restart => exact stationRestart s fun wellFormed => wf wellFormed rfl
  | lineReset => exact orderLineReset s
  | quiet => exact orderQuiet s
  | talk => exact orderTalk onLine
  | accountRequest p => exact offerMessage onLine rfl
  | statusRequest => exact offerMessage onLine rfl

theorem judgeOrder (a : Address) {o : Order} {reads : StartReadings} (s : State)
    (wf : c.wellFormed = true → o = .restart → reads.wf = true) : Keeps c s (judgeOrder a o reads s) := by
  unfold Machine.judgeOrder
  split
  · next onLine =>
    split
    · exact performOrder onLine wf
    · exact refuseOrder s
  · exact refl s

theorem takeOrderBody (a : Address) (body : List Byte) {reads : StartReadings} (s : State)
    (wf : c.wellFormed = true → reads.wf = true) : Keeps c s (takeOrderBody a body reads s) := by
  unfold Machine.takeOrderBody
  split
  · exact judgeOrder a s fun wellFormed _ => wf wellFormed
  · exact refuseOrder s

theorem routeAccepted (source : Nat) (a : Address) (k : MessageKind) (body : List Byte) {reads : StartReadings} (s : State)
    (other : isEntry c = false) (wf : c.wellFormed = true → reads.wf = true) :
    Keeps c s (routeAccepted source a k body reads s) := by
  unfold Machine.routeAccepted
  split
  · next holder =>
    cases k with
    | report =>
      dsimp only
      split
      · next working => exact reportArrival holder working other body
      · exact refl s
    | order => exact refuseOrder s
    | account => exact refl s
    | status => exact refl s
  · split
    · cases k with
      | order => exact takeOrderBody a body s wf
      | report => exact refl s
      | account => exact refl s
      | status => exact refl s
    · exact receiver _ _ s

theorem routedMessage (source destination : Nat) (k : MessageKind) (body : List Byte) {reads : StartReadings} (s : State)
    (other : isEntry c = false) (wf : c.wellFormed = true → reads.wf = true) :
    Keeps c s (routedMessage source destination k body reads s) := by
  unfold Machine.routedMessage
  split
  · exact (lineHeard s).trans (routeAccepted source _ k body _ other wf)
  · exact lineHeard s

theorem validMessage (source destination : Nat) (k : MessageKind) (body : List Byte) {reads : StartReadings} (s : State)
    (other : isEntry c = false) (wf : c.wellFormed = true → reads.wf = true) :
    Keeps c s (validMessage source destination k body reads s) := by
  have routed := routedMessage (c := c) source destination k body s other wf
  rw [validMessage_eq]
  split
  · exact routed.trans (settle _)
  · exact routed

theorem receiveFrame (chars : List LineChar) {reads : StartReadings} (s : State) (other : isEntry c = false)
    (wf : c.wellFormed = true → reads.wf = true) : Keeps c s (receiveFrame chars reads s) := by
  unfold Machine.receiveFrame
  split
  · exact setInFrame true s
  · exact (setInFrame false s).trans (countAborted _)
  · exact (setInFrame true s).trans (countBadFrame _)
  · refine (setInFrame false s).trans ?_
    unfold judgeClosed
    split
    · exact countBadFrame _
    · exact countCheckFail _
    · exact validMessage _ _ _ _ _ other wf

end Keeps

namespace Ends

variable {c : Instr} {s t u : State}

theorem orderHanded (a : Address) (o : Order) (reads : StartReadings) (s : State)
    (wf : c.wellFormed = true → o = .restart → reads.wf = true) : Ends c s (orderHanded a o reads s) :=
  finish (.judgeOrder a s wf)

theorem frameHeard (chars : List LineChar) {reads : StartReadings} (s : State) (other : isEntry c = false)
    (wf : c.wellFormed = true → reads.wf = true) : Ends c s (frameHeard chars reads s) := by
  unfold Machine.frameHeard
  split
  · exact finish (.receiveFrame chars s other wf)
  · exact refl s

theorem enterListen (key : Option KeyPosition) (s : State) : Ends (.entryToListen key) s (enterListen key s) := by
  unfold Machine.enterListen
  split
  · next ready => exact finish (.enterListen key ready)
  · exact refl s

theorem listenExpired (s : State) : Ends c s (listenExpired s) := by
  unfold Machine.listenExpired
  split
  · next ready => exact finish (.enterRun ready.1)
  · exact refl s

theorem loseSupply (s : State) : Ends c s (loseSupply s) := by
  have torn : Keeps c s (Machine.loseSupply s) :=
    (Keeps.tearWrite s).trans ⟨rfl, id, id, id, id, id, id, fun _ => id, fun _ => id, fun _ => id, fun _ => id⟩
  refine still torn ?_
  unfold Machine.loseSupply Machine.tearWrite
  dsimp only
  split <;> rfl

/-- Every command keeps every law that holds block by block. -/
theorem leaves (c : Instr) (s : State) : Ends c s (leaves c s) := by
  have both : ∀ {a b : Bool}, (a && b) = true → a = true ∧ b = true := fun h => (Bool.and_eq_true _ _).mp h
  cases c with
  | powerOn r => exact start (.tearWrite s) id
  | entryToListen key => exact powered (enterListen key s)
  | listenTimerExpiry => exact powered (listenExpired s)
  | retainedWriteComplete back r => exact powered (writeDone (c := .retainedWriteComplete back r) (fun wf => both wf) s)
  | inputSample i x => exact powered (sampleInput i x s)
  | holdTimerExpiry i => exact powered (holdExpired i s)
  | meterPulse m => exact powered (countPulse m s)
  | minuteImpulse => exact powered (minuteImpulse rfl s)
  | impulseTimerExpiry => exact powered (selfCount rfl s)
  | absorbWindowExpiry => exact powered (still (.ofIni _ id id id) rfl)
  | synchronisingImpulse => exact powered (synchronise rfl s)
  | keyPositionTaken p => exact powered (takeKey p s)
  | acceptButtonPress => exact pressButton s
  | acceptButtonHeld r => exact powered (buttonHeld id s)
  | endSwitchChange v e m => exact endSwitch v e m s
  | travelTimerExpiry v => exact powered (travelExpired v s)
  | reckoning => exact powered (reckonExpired s)
  | carrierOnLine => exact powered (carrierHeard s)
  | lineIdle b => exact powered (lineFellIdle b s)
  | frameReceived chars r => exact powered (frameHeard (c := .frameReceived chars r) chars s rfl fun wf => (both wf).2)
  | frameCompletion => exact powered (frameDone s)
  | collision => exact powered (frameCollided s)
  | backOffTimerExpiry => exact powered (backOffExpired s)
  | blockedTimerExpiry => exact powered (blockedExpired s)
  | reportTimerExpiry => exact powered (reportExpired s)
  | staleExpiry n => exact powered (staleExpired n s)
  | removalExpiry n => exact powered (removalExpired n s)
  | clashTimerExpiry => exact powered (clashExpired s)
  | silenceTimerExpiry => exact powered (silenceExpired s)
  | callReleaseTimerExpiry r k => exact powered (callExpired r k s)
  | joinDelayExpiry r => exact powered (delayExpired r s)
  | dwellTimerExpiry r => exact powered (dwellExpired r s)
  | relearnHoldTimerExpiry => exact powered (relearnExpired s)
  | stepTimerExpiry => exact powered (stepExpired s)
  | restart a r => exact powered (orderHanded a .restart r s fun wf _ => wf)
  | hand a d => exact powered (orderHanded a (.hand d) noReadings s fun _ order => (by cases order))
  | auto a => exact powered (orderHanded a .auto noReadings s fun _ order => (by cases order))
  | accept a => exact powered (orderHanded a .accept noReadings s fun _ order => (by cases order))
  | lineReset a => exact powered (orderHanded a .lineReset noReadings s fun _ order => (by cases order))
  | quiet a => exact powered (orderHanded a .quiet noReadings s fun _ order => (by cases order))
  | talk a => exact powered (orderHanded a .talk noReadings s fun _ order => (by cases order))
  | accountRequest a p => exact powered (orderHanded a (.accountRequest p) noReadings s fun _ order => (by cases order))
  | statusRequest a => exact powered (orderHanded a .statusRequest noReadings s fun _ order => (by cases order))
  | lossOfSupply => exact powered (loseSupply s)
  | acceptButtonRelease => exact still (.button false none s) rfl

/-- So does the passing of time. -/
theorem tick (s : State) : Ends c s (tick s) := powered ⟨.tickWork s, id⟩

end Ends

/-- What a step keeps: of a millisecond, or of the command at the front on the rest of the queue. -/
theorem step_ends {s t : State} (h : step s = .next t) :
    (s.pending = [] ∧ ∀ c, Ends c s t) ∨
      ∃ c rest, s.pending = c :: rest ∧ t.pending = rest ∧ Ends c { s with pending := rest } t := by
  rcases step_cases h with ⟨empty, rfl⟩ | ⟨c, rest, front, rfl⟩
  · exact .inl ⟨empty, fun _ => .tick s⟩
  · have ends := Ends.leaves c { s with pending := rest }
    exact .inr ⟨c, rest, front, ends.keeps.pending, ends⟩

/-- A law of a state that does not speak of its queue, kept by every command, is kept by every step. -/
theorem step_keeps {P : State → Prop} {s t : State} (h : step s = .next t)
    (unqueued : ∀ rest, P s → P { s with pending := rest }) (kept : ∀ {c : Instr} {q : State}, Ends c q t → P q → P t) :
    P s → P t := by
  rcases step_ends h with ⟨-, ends⟩ | ⟨c, rest, -, -, ends⟩
  · exact kept (ends .reckoning)
  · exact fun law => kept ends (unqueued rest law)

/-! ## The statements -/

/-- Settles O53: the alarm law is kept, and a current kind is then latched, which closes the contact. -/
theorem everyStepKeepsTheAlarmLaw : Obligations.EveryStepKeepsTheAlarmLaw := by
  intro s t h before
  have law : alarmLaw t := step_keeps (P := alarmLaw) h (fun _ => id) (fun ends => ends.keeps.alarm) before
  have closed : t.contactClosed = true ↔ t.oau.latched ≠ 0#16 := by simp [State.contactClosed]
  refine ⟨law, closed, fun k current => ?_⟩
  have latched := isLatched_of_isCurrent law current
  refine ⟨latched, closed.2 fun empty => ?_⟩
  rw [State.isLatched, empty] at latched
  simp [hasAlarm] at latched

/-- Settles O54: the queue's bounds by the operations, the line's law by the end of the event. -/
theorem everyStepKeepsTheQueueLaw : Obligations.EveryStepKeepsTheQueueLaw := fun _ _ h =>
  ⟨step_keeps (P := queueLaw) h (fun _ => id) fun ends => ends.keeps.queue,
    step_keeps (P := lineLaw) h (fun _ => id) fun ends => ends.line⟩

/-- Settles O55: the station's and the table's law are kept together. -/
theorem everyStepKeepsThePeerTable : Obligations.EveryStepKeepsThePeerTable := fun s _ h station table =>
  step_keeps (P := fun q => stationLaw q ∧ tableLaw q) (s := s) h (fun _ => id) (fun ends => ends.keeps.table)
    ⟨station, table⟩

/-- Settles O3: the queue is kept by every command, and without supply only the pins move. -/
theorem everyCommandAnswersNext : Obligations.EveryCommandAnswersNext :=
  ⟨fun c s => ⟨_, exec_eq_leaves c s, (Ends.leaves c s).keeps.pending⟩,
    fun c s off other => ⟨_, exec_eq_leaves c s, leaves_of_none off other⟩⟩

/-! ## The entry to LISTEN: the first reckoning (R24, R171) -/

/-- What the account unit has taken of a record, before the meter-silent check. -/
def recordTaken (s : State) : State :=
  let s1 := takeMeters s
  let a := recordFigured (dutyOf s1.holdsTake s1.holdsGive) s1.srk.record s1.acu
  { s1 with acu := openOnRecord s1.srk.record a }

theorem accountRecord_eq (s : State) : accountRecord s = countSilentWindow (recordTaken s) := rfl

theorem Keeps.recordTaken {c : Instr} (s : State) : Keeps c s (recordTaken s) := by
  let q := Machine.takeMeters s
  let p : State := { q with acu := recordFigured (dutyOf q.holdsTake q.holdsGive) q.srk.record q.acu }
  have figured : Keeps c q p := .recordFigures _ _ q
  have opened : Keeps c p { p with acu := Machine.openOnRecord q.srk.record p.acu } := .openOnRecord _ p
  exact (Keeps.takeMeters s).trans (figured.trans opened)

/-- The first record is the opening stock that a cleared store awaits (R171). -/
theorem recordTaken_openingDue (s : State) : (recordTaken s).acu.openingDue = false := by
  unfold recordTaken openOnRecord
  dsimp only
  split
  · rfl
  · next none => simpa using none

theorem reckon_graded (s : State) : (reckon s).srk.graded = true := by
  unfold reckon
  dsimp only
  split
  · rw [signalGrade_srk]
  · rfl

/-- From the first reckoning on an entry to LISTEN keeps what every other command keeps. -/
theorem Keeps.afterRecord (s : State) : Keeps .reckoning (Machine.recordTaken (Machine.reckon s)) (Machine.workRecord s) :=
  (Keeps.countSilentWindow _).trans ((Keeps.movementRecord _).trans ((Keeps.regrade _).trans
    ((Keeps.settle _).trans (.beginWrite _))))

theorem workRecord_books {key : Option KeyPosition} {s : State} (law : booksMid (.entryToListen key) s) :
    booksMid .reckoning (workRecord s) := by
  have taken : Keeps (.entryToListen key) s (recordTaken (reckon s)) := (Keeps.reckon s).trans (.recordTaken _)
  obtain ⟨wf, store, empty, -⟩ := taken.books rfl law
  refine (Keeps.afterRecord s).books rfl ⟨wf, store, empty, fun _ due => ?_⟩
  rw [recordTaken_openingDue] at due
  cases due

theorem workRecord_graded (s : State) : gradedMid (workRecord s) :=
  (Keeps.afterRecord s).graded rfl fun _ => reckon_graded s

/-- What the books' laws are between two events. -/
theorem booksMid_iff {c : Instr} {s : State} (other : isEntry c = false) :
    booksMid c s ↔ storeLaw s ∧ accountLaw s := by
  constructor
  · rintro ⟨wf, store, empty, stopped⟩
    exact ⟨store, wf, fun due => ⟨empty due, stopped other due⟩⟩
  · rintro ⟨store, wf, due⟩
    exact ⟨wf, store, fun awaits => (due awaits).1, fun _ awaits => (due awaits).2⟩

theorem booksMid_of_laws {c : Instr} {s : State} (law : storeLaw s ∧ accountLaw s) : booksMid c s :=
  ⟨law.2.1, law.1, fun awaits => (law.2.2 awaits).1, fun _ awaits => (law.2.2 awaits).2⟩

/-- The station at the first reckoning of an entry to LISTEN (R170, R180). -/
def listening (key : Option KeyPosition) (s : State) : State :=
  enterStart (dropStartPulses (listenTimers { s with station := .listen, stepsDone := false, ini := initialKey key s.ini }))

theorem enterListen_of_ready {key : Option KeyPosition} {s : State} (ready : s.station = .start ∧ s.stepsDone = true) :
    enterListen key s = finish (workRecord (listening key s)) := if_pos ready

theorem Keeps.listening {key : Option KeyPosition} {s : State} (ready : s.station = .start ∧ s.stepsDone = true) :
    Keeps (.entryToListen key) s (listening key s) :=
  (Keeps.listenBegins ready.1 ready.2).trans ((Keeps.dropStartPulses _).trans (.enterStart _))

/-- The books and the grade at the end of an entry to LISTEN (R24, R171). -/
theorem enterListen_laws (key : Option KeyPosition) (s : State) :
    (storeLaw s ∧ accountLaw s → storeLaw (enterListen key s) ∧ accountLaw (enterListen key s)) ∧
      (gradedMid s → gradedMid (enterListen key s)) := by
  by_cases ready : s.station = .start ∧ s.stepsDone = true
  · rw [enterListen_of_ready ready]
    have ended : Keeps .reckoning (workRecord (listening key s)) (finish (workRecord (listening key s))) := .finish _
    refine ⟨fun laws => ?_, fun _ => ended.graded rfl (workRecord_graded _)⟩
    exact (booksMid_iff rfl).1
      (ended.books rfl (workRecord_books ((Keeps.listening ready).books rfl (booksMid_of_laws laws))))
  · rw [enterListen, if_neg ready]
    exact ⟨id, id⟩

/-- The books' and the grade's laws are kept by every command, an entry to LISTEN with its first reckoning. -/
theorem leaves_books {c : Instr} {s : State} (wf : c.wellFormed = true) (laws : storeLaw s ∧ accountLaw s) :
    storeLaw (leaves c s) ∧ accountLaw (leaves c s) := by
  cases entry : isEntry c with
  | false => exact (booksMid_iff entry).1 ((Ends.leaves c s).keeps.books wf (booksMid_of_laws laws))
  | true =>
    cases c with
    | entryToListen key =>
      exact powered_cases (P := fun x => storeLaw x ∧ accountLaw x) laws ((enterListen_laws key s).1 laws)
    | _ => cases entry

theorem leaves_graded {c : Instr} {s : State} (graded : gradedMid s) : gradedMid (leaves c s) := by
  cases entry : isEntry c with
  | false => exact (Ends.leaves c s).keeps.graded entry graded
  | true =>
    cases c with
    | entryToListen key => exact powered_cases (P := gradedMid) graded ((enterListen_laws key s).2 graded)
    | _ => cases entry

/-- Settles O59: the books' laws by the commands, the queue's by what is left of it. -/
theorem everyStepKeepsTheAccounts : Obligations.EveryStepKeepsTheAccounts := by
  intro s t h pending store account
  rcases step_cases h with ⟨empty, rfl⟩ | ⟨c, rest, front, rfl⟩
  · have ends : Ends .reckoning s (tick s) := .tick s
    refine ⟨?_, (booksMid_iff rfl).1 (ends.keeps.books rfl (booksMid_of_laws ⟨store, account⟩))⟩
    unfold pendingLaw
    rw [ends.keeps.pending]
    exact pending
  · let q : State := { s with pending := rest }
    refine ⟨?_, leaves_books (s := q) (pending c (front ▸ List.mem_cons_self)) ⟨store, account⟩⟩
    unfold pendingLaw
    rw [(Ends.leaves c q).keeps.pending]
    exact fun d waits => pending d (front ▸ List.mem_cons_of_mem _ waits)

/-- Settles O60: the inputs and the settings by the operations, the grade of an entry to LISTEN by its first reckoning. -/
theorem everyStepKeepsTheInputsAndThePlant : Obligations.EveryStepKeepsTheInputsAndThePlant := by
  intro s t h
  refine ⟨step_keeps (P := inputLaw) h (fun _ => id) fun ends => ends.keeps.input, fun law => ?_⟩
  obtain ⟨valid, used, height, graded⟩ := law
  obtain ⟨valid, used, height⟩ :=
    step_keeps (P := plantMid) h (fun _ => id) (fun ends => ends.keeps.plant) ⟨valid, used, height⟩
  refine ⟨valid, used, height, ?_⟩
  rcases step_cases h with ⟨-, rfl⟩ | ⟨c, rest, -, rfl⟩
  · exact (Ends.tick (c := .reckoning) s).keeps.graded rfl graded
  · exact leaves_graded (s := { s with pending := rest }) graded

end Sys2Proof.Machine
end

section
/-! SUPPORT. What the settling pass establishes (log 10): abilities, roles, the forced give, commands and mode, each in terms
of the station it leaves. -/

namespace Sys2Proof.Machine

/-! ## The role set chosen (R109, R117 to R125) -/

theorem changeRole_held (r : Role) (held : Option Cause) (s : State) : ((changeRole r held s).ysu.role r).held = held := by
  simp [changeRole, restartTimers, updateRole]

theorem changeRole_able (r : Role) (held : Option Cause) (s : State) :
    ((changeRole r held s).ysu.role r).able = (s.ysu.role r).able := by
  simp [changeRole, restartTimers, updateRole]

/-- What the standing rules can do to their role: nothing, a join of an able non-member where it is permitted, or a leave of
an AUTOMATIC member (R117 to R119, R122). -/
theorem standingRules_held_cases (r : Role) (s : State) :
    ((standingRules r s).ysu.role r).held = (s.ysu.role r).held ∨
      ((s.ysu.role r).held = none ∧ (s.ysu.role r).able = true ∧
        ((standingRules r s).ysu.role r).held = some .automatic) ∨
      ((s.ysu.role r).held = some .automatic ∧ ((standingRules r s).ysu.role r).held = none) := by
  have nonMember : s.ableNonMember r = true → (s.ysu.role r).held = none ∧ (s.ysu.role r).able = true := by
    intro both
    simp only [State.ableNonMember, State.holds, Bool.and_eq_true, Bool.not_eq_true'] at both
    exact ⟨by simpa using both.2, both.1⟩
  unfold standingRules
  split
  · split
    · next join =>
      simp only [noMemberJoin, Bool.and_eq_true] at join
      obtain ⟨free, able⟩ := nonMember join.1.1
      exact .inr (.inl ⟨free, able, changeRole_held _ _ _⟩)
    · split
      · next call =>
        simp only [callJoin, Bool.and_eq_true] at call
        obtain ⟨free, able⟩ := nonMember call.1.1
        unfold startDelay
        split
        · exact .inr (.inl ⟨free, able, changeRole_held _ _ _⟩)
        · exact .inl (by rw [updateRole_role])
      · split
        · next leave =>
          simp only [releaseLeave, Bool.and_eq_true, beq_iff_eq] at leave
          exact .inr (.inr ⟨leave.1.2, changeRole_held _ _ _⟩)
        · exact .inl rfl
  · exact .inl rfl

theorem standingRules_able (r : Role) (s : State) : ((standingRules r s).ysu.role r).able = (s.ysu.role r).able := by
  unfold standingRules
  split
  · split
    · exact changeRole_able _ _ _
    · split
      · unfold startDelay
        split
        · exact changeRole_able _ _ _
        · rw [updateRole_role]
      · split
        · exact changeRole_able _ _ _
        · rfl
  · rfl

/-- A claim upon one role rests on the role itself and on terms that no claim moves. -/
theorem claimOf_applyClaim {q r : Role} (other : r ≠ q) (s : State) : claimOf (applyClaim q s) r = claimOf s r := by
  have own : ownClaim (applyClaim q s) r = ownClaim s r := by
    unfold ownClaim
    rw [(applyClaim_same q s).effective, (applyClaim_same q s).order, applyClaim_other other]
  have clash : (applyClaim q s).isCurrent .numberClash = s.isCurrent .numberClash := by simp [State.isCurrent]
  have forced : forcedLimit (applyClaim q s) r = forcedLimit s r := by simp [forcedLimit]
  unfold claimOf
  rw [suppressed_applyClaim, own, clash, forced, applyClaim_station, applyClaim_ini]

theorem applyClaims_held (r : Role) (s : State) : ((applyClaims s).ysu.role r).held = claimOf s r := by
  cases r with
  | take => rw [applyClaims, applyClaim_other (by decide), applyClaim_held]
  | give => rw [applyClaims, applyClaim_held, claimOf_applyClaim (by decide)]

/-- The claim on a role in the settling pass, the request and the abilities judged. -/
def claimed (s : State) (r : Role) : Option Cause := claimOf (judgeAbilities (judgeRequest s)) r

theorem chooseRoles_able (r : Role) (s : State) : ((chooseRoles s).ysu.role r).able = canHold s r := by
  let c := judgeCalls (applyClaims (judgeAbilities (judgeRequest s)))
  have judged : (c.ysu.role r).able = canHold s r := by
    rw [(judgeCalls_held_able r _).2, applyClaims, applyClaim_able, applyClaim_able]
    cases r <;> rfl
  have chosen : chooseRoles s = standingRules .give (standingRules .take c) := rfl
  rw [chosen]
  cases r with
  | take => rw [standingRules_other (by decide), standingRules_able, judged]
  | give => rw [standingRules_able, standingRules_other (by decide), judged]

/-- What the choice leaves of a role: its claim; or a join of what no claim leaves and the station can hold; or a leave of what
claims 7 and 8 left AUTOMATIC (R109, R117 to R122). -/
theorem chooseRoles_held_cases (r : Role) (s : State) :
    ((chooseRoles s).ysu.role r).held = claimed s r ∨
      (claimed s r = none ∧ canHold s r = true ∧ ((chooseRoles s).ysu.role r).held = some .automatic) ∨
      (claimed s r = some .automatic ∧ ((chooseRoles s).ysu.role r).held = none) := by
  let c := judgeCalls (applyClaims (judgeAbilities (judgeRequest s)))
  have held : (c.ysu.role r).held = claimed s r := (judgeCalls_held_able r _).1.trans (applyClaims_held r _)
  have able : (c.ysu.role r).able = canHold s r := by
    rw [(judgeCalls_held_able r _).2, applyClaims, applyClaim_able, applyClaim_able]
    cases r <;> rfl
  have chosen : chooseRoles s = standingRules .give (standingRules .take c) := rfl
  cases r with
  | take =>
    have cases_ := standingRules_held_cases .take c
    rw [chosen, standingRules_other (by decide)]
    rwa [held, able] at cases_
  | give =>
    have cases_ := standingRules_held_cases .give (standingRules .take c)
    rw [standingRules_other (r := .take) (q := .give) (by decide), held, able] at cases_
    rwa [chosen]

/-! ## The claims in the terms of the laws (R57, R109, R124, R125) -/

/-- R57's request. -/
def forcedNow (s : State) : Bool :=
  s.mvc.zone == .top && s.station == .run && s.ini.key != .outOfService && s.vdu.outlet.state != .fault

theorem forcedNow_iff (s : State) : forcedNow s = true ↔ s.station = .run ∧ s.mvc.zone = .top ∧
    s.ini.key ≠ .outOfService ∧ s.vdu.outlet.state ≠ .fault := by
  simp [forcedNow]
  tauto

/-- What stands of a role's claim, by R109's order. -/
theorem claimed_eq (s : State) (r : Role) : claimed s r =
    if s.station ≠ .run ∨ s.ini.key = .outOfService then none
    else if s.ini.key = .handRest ∨ s.isCurrent .numberClash = true then
      (if r == .give && forcedNow s then some .limit else none)
    else if suppressed s r then none
    else if r == .give && forcedNow s then some .limit
    else ownClaim s r := by
  have own : ownClaim (judgeAbilities (judgeRequest s)) r = ownClaim s r := by cases r <;> rfl
  have sup : suppressed (judgeAbilities (judgeRequest s)) r = suppressed s r := by cases r <;> rfl
  unfold claimed claimOf
  rw [own, sup]
  rfl

/-- Claims 7 and 8 leave no LIMIT. -/
theorem ownClaim_ne_limit (s : State) (r : Role) : ownClaim s r ≠ some .limit := by
  unfold ownClaim
  split
  · split <;> simp
  · cases (s.ysu.role r).held <;> simp

theorem claimed_of_stopped {s : State} (stopped : s.station ≠ .run ∨ s.ini.key = .outOfService) (r : Role) :
    claimed s r = none := by
  rw [claimed_eq, if_pos stopped]

/-- A claim holds a role only where it is not suppressed, but for the forced give (R109). -/
theorem suppressed_of_claimed {s : State} {r : Role} (held : claimed s r ≠ none) :
    suppressed s r = false ∨ (r = .give ∧ forcedNow s = true) := by
  rw [claimed_eq] at held
  split at held
  · exact absurd rfl held
  · split at held
    · split at held
      · next forced => exact .inr (by simpa using forced)
      · exact absurd rfl held
    · split at held
      · exact absurd rfl held
      · next free => exact .inl (by simpa using free)

/-- A forced give is not suppressed: TOP is neither LANDED nor LOW, and the outlet is not in FAULT. -/
theorem suppressed_of_forced {s : State} (forced : forcedNow s = true) : suppressed s .give = false := by
  obtain ⟨-, top, -, fault⟩ := (forcedNow_iff s).1 forced
  simp [suppressed, top, fault]

/-- GIVE is claimed with cause LIMIT exactly on the request (R125). -/
theorem claimed_limit_iff (s : State) : claimed s .give = some .limit ↔ forcedNow s = true := by
  rw [claimed_eq]
  constructor
  · intro held
    split at held
    · cases held
    · split at held
      · split at held
        · next forced => simpa using forced
        · cases held
      · split at held
        · cases held
        · split at held
          · next forced => simpa using forced
          · exact absurd held (ownClaim_ne_limit _ _)
  · intro forced
    obtain ⟨run, -, key, -⟩ := (forcedNow_iff s).1 forced
    rw [if_neg (by simp [run, key]), suppressed_of_forced forced]
    simp [forced]

/-- An able role is not suppressed, under R22 (R110, R111, R124). -/
theorem suppressed_of_canHold {s : State} (grade : gradeLaw s) {r : Role} (able : canHold s r = true) :
    suppressed s r = false := by
  cases r with
  | take =>
    obtain ⟨-, -, status, zone, fault, -⟩ := (canTake_iff s).1 able
    have matching : s.isCurrent .liftMismatch = false := by
      rcases status with valid | ⟨-, free⟩
      · exact Bool.eq_false_iff.2 fun current => grade current valid
      · exact free
    have known : s.srk.record.status ≠ .invalid := by
      rcases status with valid | ⟨doubtful, -⟩
      · simp [valid]
      · simp [doubtful]
    rcases zone with zone | zone | zone <;> simp [suppressed, zone, fault, matching, known]
  | give =>
    obtain ⟨-, -, -, zone, fault, -⟩ := (canGive_iff s).1 able
    rcases zone with zone | zone | zone <;> simp [suppressed, zone, fault]

theorem running_of_canHold {s : State} {r : Role} (able : canHold s r = true) :
    s.station = .run ∧ s.ini.key = .auto := by
  cases r with
  | take => exact ⟨((canTake_iff s).1 able).1, ((canTake_iff s).1 able).2.1⟩
  | give => exact ⟨((canGive_iff s).1 able).1, ((canGive_iff s).1 able).2.1⟩

/-- A role chosen is held in RUN with the key not at OUT OF SERVICE, and is not suppressed (R109, R124). -/
theorem chosen_allowed {s : State} (grade : gradeLaw s) {r : Role} (held : ((chooseRoles s).ysu.role r).held ≠ none) :
    s.station = .run ∧ s.ini.key ≠ .outOfService ∧ suppressed s r = false := by
  have ofClaim : claimed s r ≠ none → s.station = .run ∧ s.ini.key ≠ .outOfService ∧ suppressed s r = false := by
    intro some_
    have allowed : ¬ (s.station ≠ .run ∨ s.ini.key = .outOfService) := fun stopped => some_ (claimed_of_stopped stopped r)
    have running : s.station = .run ∧ s.ini.key ≠ .outOfService := by simpa using allowed
    refine ⟨running.1, running.2, ?_⟩
    rcases suppressed_of_claimed some_ with free | ⟨rfl, forced⟩
    · exact free
    · exact suppressed_of_forced forced
  rcases chooseRoles_held_cases r s with claim | ⟨-, able, -⟩ | ⟨claim, -⟩
  · exact ofClaim (claim ▸ held)
  · obtain ⟨run, auto⟩ := running_of_canHold able
    exact ⟨run, by simp [auto], suppressed_of_canHold grade able⟩
  · exact ofClaim (by simp [claim])

/-- GIVE is chosen with cause LIMIT exactly on the request (R57, R125). -/
theorem chosen_limit_iff (s : State) : ((chooseRoles s).ysu.role .give).held = some .limit ↔ forcedNow s = true := by
  rw [← claimed_limit_iff]
  rcases chooseRoles_held_cases .give s with claim | ⟨free, -, joined⟩ | ⟨claim, left⟩
  · rw [claim]
  · simp [free, joined]
  · simp [claim, left]

/-! ## The settling pass, term by term -/

theorem settleFrom_held (old : State) (r : Role) (s : State) :
    ((settleFrom old s).ysu.role r).held = ((chooseRoles s).ysu.role r).held := by
  rw [settleFrom, (judgeCalls_held_able r _).1]
  simp

theorem settleFrom_able (old : State) (r : Role) (s : State) : ((settleFrom old s).ysu.role r).able = canHold s r := by
  rw [settleFrom, (judgeCalls_held_able r _).2, ← chooseRoles_able]
  simp

theorem handOn_zone (old s : State) : (handOn old s).mvc.zone = s.mvc.zone ∧
    (handOn old s).mvc.forcedGive = s.mvc.forcedGive := by
  unfold handOn
  split
  · exact ⟨rfl, rfl⟩
  · dsimp only
    rw [trigger_mvc]
    split <;> split <;> exact ⟨rfl, rfl⟩

theorem endLanding_zone (s : State) : (endLanding s).mvc.zone = s.mvc.zone ∧
    (endLanding s).mvc.forcedGive = s.mvc.forcedGive := by
  simp [endLanding]

theorem judgeLossWindow_mvc (s : State) :
    (judgeLossWindow s).mvc = { s.mvc with window := (judgeLossWindow s).mvc.window } := by
  unfold judgeLossWindow
  split
  · split <;> rfl
  · rfl

theorem giveCommand_mvc (d : Side) (c : DriveCommand) (s : State) :
    (giveCommand d c s).mvc = { s.mvc with window := (giveCommand d c s).mvc.window } := by
  unfold giveCommand
  split
  · rfl
  · by_cases moves : (Drive.take s.travelMs c (s.vdu.drive d)).state = (s.vdu.drive d).state
    · simp [putDrive, moves]
    · rw [putDrive_of_quiet moves (take_fault _ _ _) (fun h => moves (h.trans (take_closed _ _ _ h).symm)),
        judgeSilentWindow_mvc, judgeLossWindow_mvc]
      split <;> rfl

theorem deriveCommands_mvc (s : State) :
    (deriveCommands s).mvc = { s.mvc with window := (deriveCommands s).mvc.window } := by
  unfold deriveCommands
  rw [giveCommand_mvc, giveCommand_mvc .inlet]

/-- The settling pass judges the request and leaves the zone (R57). -/
theorem settleFrom_mvc (old s : State) : (settleFrom old s).mvc.zone = s.mvc.zone ∧
    (settleFrom old s).mvc.forcedGive = forcedNow s := by
  have derived : (settleFrom old s).mvc = (deriveCommands (handOn old (chooseRoles s))).mvc := by simp [settleFrom]
  rw [derived, deriveCommands_mvc]
  dsimp only
  rw [(handOn_zone _ _).1, (handOn_zone _ _).2, chooseRoles]
  simp [judgeRequest, forcedNow]

theorem giveCommand_fault (d v : Side) (c : DriveCommand) (s : State) :
    ((giveCommand d c s).vdu.drive v).state = .fault ↔ (s.vdu.drive v).state = .fault := by
  by_cases own : v = d
  · subst own
    rw [giveCommand_drive]
    split
    · rfl
    · exact take_fault _ _ _
  · rw [giveCommand_other _ _ _ _ own]

/-- The settling pass brings no drive into FAULT or out of it (R43). -/
theorem settleFrom_fault (old : State) (v : Side) (s : State) :
    ((settleFrom old s).vdu.drive v).state = .fault ↔ (s.vdu.drive v).state = .fault := by
  have derived : (settleFrom old s).vdu.drive v = (deriveCommands (handOn old (chooseRoles s))).vdu.drive v := by
    simp [settleFrom]
  rw [derived, deriveCommands, giveCommand_fault, giveCommand_fault]
  simp

theorem inletCommand_congr {s t : State} (station : t.station = s.station) (key : t.ini.key = s.ini.key)
    (take : t.holdsTake = s.holdsTake) (zone : t.mvc.zone = s.mvc.zone)
    (status : t.srk.record.status = s.srk.record.status) : inletCommand t = inletCommand s := by
  unfold inletCommand
  rw [station, key, take, zone, status]

theorem outletCommand_congr {s t : State} (station : t.station = s.station) (key : t.ini.key = s.ini.key)
    (give : t.holdsGive = s.holdsGive) (zone : t.mvc.zone = s.mvc.zone) : outletCommand t = outletCommand s := by
  unfold outletCommand
  rw [station, key, give, zone]

theorem giveCommand_zone (d : Side) (c : DriveCommand) (s : State) : (giveCommand d c s).mvc.zone = s.mvc.zone := by
  rw [giveCommand_mvc]

theorem deriveCommands_zone (s : State) : (deriveCommands s).mvc.zone = s.mvc.zone := by rw [deriveCommands_mvc]

/-- Both commands derived are the table's, in the state they leave (R55, R56). -/
theorem deriveCommands_command (s : State) :
    (deriveCommands s).vdu.inlet.command = inletCommand s ∧ (deriveCommands s).vdu.outlet.command = outletCommand s := by
  let q := giveCommand .inlet (inletCommand s) s
  have same : outletCommand q = outletCommand s :=
    outletCommand_congr (by simp [q]) (by simp [q]) (by simp [q, State.holdsGive]) (giveCommand_zone _ _ _)
  have inlet : (deriveCommands s).vdu.drive .inlet = q.vdu.drive .inlet :=
    giveCommand_other .outlet .inlet _ _ (by decide)
  have outlet : ((deriveCommands s).vdu.drive .outlet).command = outletCommand s :=
    giveCommand_command .outlet (outletCommand s) q
  exact ⟨(congrArg Drive.command inlet).trans (giveCommand_command .inlet (inletCommand s) s), outlet⟩

/-- The settled station has the commands of the table (R55, R56). -/
theorem settleFrom_command (old s : State) :
    (settleFrom old s).vdu.inlet.command = inletCommand (settleFrom old s) ∧
      (settleFrom old s).vdu.outlet.command = outletCommand (settleFrom old s) := by
  let q := handOn old (chooseRoles s)
  let t := settleFrom old s
  have drive : ∀ v, t.vdu.drive v = (deriveCommands q).vdu.drive v := by intro v; simp [t, settleFrom, q]
  have zone : t.mvc.zone = q.mvc.zone := by
    have derived : t.mvc = (deriveCommands q).mvc := by simp [t, settleFrom, q]
    rw [derived, deriveCommands_zone]
  have take : t.holdsTake = q.holdsTake := by
    rw [holdsTake_eq, settleFrom_held, holdsTake_eq, handOn_ysu]
  have give : t.holdsGive = q.holdsGive := by
    rw [holdsGive_eq, settleFrom_held, holdsGive_eq, handOn_ysu]
  have station : t.station = q.station := by simp [t, settleFrom, q]
  have key : t.ini.key = q.ini.key := by simp [t, settleFrom, q]
  have status : t.srk.record.status = q.srk.record.status := by simp [t, settleFrom, q]
  constructor
  · rw [inletCommand_congr station key take zone status, ← (deriveCommands_command q).1]
    exact congrArg Drive.command (drive .inlet)
  · rw [outletCommand_congr station key give zone, ← (deriveCommands_command q).2]
    exact congrArg Drive.command (drive .outlet)

theorem judgeMode_mode (s : State) : (judgeMode s).pgv.mode = modeOf s := by
  unfold judgeMode
  dsimp only
  split
  · next same => exact same.symm
  · split
    · next released => exact released.symm
    · split <;> rfl

theorem modeOf_congr {s t : State} (station : t.station = s.station) (ini : t.ini = s.ini)
    (give : t.holdsGive = s.holdsGive) (outlet : t.outletOpen = s.outletOpen) : modeOf t = modeOf s := by
  unfold modeOf
  rw [station, ini, give, outlet]

/-- R138's table is the mode that duty sharing judges. -/
theorem modeTable_eq (s : State) : modeTable s = modeOf s := by
  unfold modeTable modeOf
  split
  · rfl
  · cases held : s.holdsGive with
    | false => rfl
    | true =>
      simp only [Bool.not_true, Bool.false_eq_true, if_false, reduceCtorEq]
      by_cases opened : s.vdu.outlet.state = .isOpen
      · simp [State.outletOpen, opened]
      · simp [State.outletOpen, opened]

/-- The settled station has the mode of the table (R138). -/
theorem settleFrom_mode (old s : State) : (settleFrom old s).pgv.mode = modeTable (settleFrom old s) := by
  let q := deriveCommands (handOn old (chooseRoles s))
  let t := settleFrom old s
  have judged : t.pgv.mode = modeOf q := by
    have same : t.pgv = (judgeMode q).pgv := by simp [t, settleFrom, q]
    rw [same, judgeMode_mode]
  have outlet : t.vdu.drive .outlet = q.vdu.drive .outlet := by simp [t, settleFrom, q]
  have give : t.holdsGive = q.holdsGive := by
    rw [holdsGive_eq, settleFrom_held, holdsGive_eq, deriveCommands_ysu, handOn_ysu]
  rw [modeTable_eq]
  refine judged.trans (modeOf_congr ?_ ?_ give ?_).symm
  · simp [t, settleFrom, q]
  · simp [t, settleFrom, q]
  · have state : t.vdu.outlet.state = q.vdu.outlet.state := congrArg Drive.state outlet
    unfold State.outletOpen
    rw [state]

/-! ## The laws of a settled station -/

/-- What a settled station meets whatever came before: abilities, the forced give, commands and mode; and its roles, where its
record is graded by R22. -/
structure Settled (t : State) : Prop where
  ability : abilityLaw t
  limit : limitLaw t
  command : commandLaw t
  mode : t.pgv.mode = modeTable t
  role : gradeLaw t → roleLaw t

theorem commandLaw_iff (s : State) :
    commandLaw s ↔ s.vdu.inlet.command = inletCommand s ∧ s.vdu.outlet.command = outletCommand s := Iff.rfl

theorem canTake_congr {s t : State} (station : t.station = s.station) (key : t.ini.key = s.ini.key)
    (status : t.srk.record.status = s.srk.record.status) (zone : t.mvc.zone = s.mvc.zone)
    (fault : t.vdu.inlet.state = .fault ↔ s.vdu.inlet.state = .fault) (current : t.oau.current = s.oau.current) :
    canTake t = canTake s := by
  have same : (t.vdu.inlet.state != .fault) = (s.vdu.inlet.state != .fault) := by
    rw [Bool.eq_iff_iff]
    simp [fault]
  unfold canTake State.isCurrent
  rw [station, key, status, zone, same, current]

theorem canGive_congr {s t : State} (station : t.station = s.station) (ini : t.ini = s.ini)
    (status : t.srk.record.status = s.srk.record.status) (zone : t.mvc.zone = s.mvc.zone)
    (fault : t.vdu.outlet.state = .fault ↔ s.vdu.outlet.state = .fault) (current : t.oau.current = s.oau.current) :
    canGive t = canGive s := by
  have same : (t.vdu.outlet.state != .fault) = (s.vdu.outlet.state != .fault) := by
    rw [Bool.eq_iff_iff]
    simp [fault]
  unfold canGive State.isCurrent
  rw [station, ini, status, zone, same, current]

theorem settled_settleFrom (old s : State) : Settled (settleFrom old s) := by
  have station : (settleFrom old s).station = s.station := by simp [settleFrom]
  have ini : (settleFrom old s).ini = s.ini := by simp [settleFrom]
  have srk : (settleFrom old s).srk = s.srk := by simp [settleFrom]
  have oau := settleFrom_oau old s
  obtain ⟨zone, forced⟩ := settleFrom_mvc old s
  have fault : ∀ v, ((settleFrom old s).vdu.drive v).state = .fault ↔ _ := fun v => settleFrom_fault old v s
  have held : ∀ r, ((settleFrom old s).ysu.role r).held = _ := fun r => settleFrom_held old r s
  have able : ∀ r, ((settleFrom old s).ysu.role r).able = _ := fun r => settleFrom_able old r s
  have command := settleFrom_command old s
  have mode := settleFrom_mode old s
  generalize settleFrom old s = t at *
  have inlet : t.vdu.inlet.state = .fault ↔ s.vdu.inlet.state = .fault := fault .inlet
  have outlet : t.vdu.outlet.state = .fault ↔ s.vdu.outlet.state = .fault := fault .outlet
  have wanted : forcedNow s = true ↔ t.station = .run ∧ t.mvc.zone = .top ∧ t.ini.key ≠ .outOfService ∧
      t.vdu.outlet.state ≠ .fault := by
    rw [forcedNow_iff, station, zone, ini, ne_eq, ne_eq, ne_eq, outlet]
  refine { ability := ⟨?canTake, ?canGive⟩, limit := ⟨?forced, ?limited⟩, command := command, mode := mode,
           role := fun grade => ?role }
  case canTake =>
    rw [← canTake_iff, canTake_congr station (by rw [ini]) (by rw [srk]) zone inlet (by rw [oau])]
    exact Bool.eq_iff_iff.1 (able .take)
  case canGive =>
    rw [← canGive_iff, canGive_congr station ini (by rw [srk]) zone outlet (by rw [oau])]
    exact Bool.eq_iff_iff.1 (able .give)
  case forced => rw [forced, wanted]
  case limited =>
    rw [← wanted, ← chosen_limit_iff]
    exact iff_of_eq (congrArg (· = some Cause.limit) (held .give))
  case role =>
    have gradeS : gradeLaw s := by
      unfold gradeLaw State.isCurrent at *
      rw [← oau, ← srk]
      exact grade
    have allowed : ∀ r, (t.ysu.role r).held.isSome = true →
        s.station = .run ∧ s.ini.key ≠ .outOfService ∧ suppressed s r = false := by
      intro r isHeld
      refine chosen_allowed gradeS ?_
      rw [← held]
      exact Option.isSome_iff_ne_none.1 isHeld
    refine ⟨fun either => ?_, fun take => ?_, fun give => ?_⟩
    · rw [station, ini]
      rcases either with take | give
      · exact ⟨(allowed .take take).1, (allowed .take take).2.1⟩
      · exact ⟨(allowed .give give).1, (allowed .give give).2.1⟩
    · obtain ⟨-, -, free⟩ := allowed .take take
      simp only [suppressed, Bool.or_eq_false_iff, beq_eq_false_iff_ne] at free
      obtain ⟨⟨⟨⟨high, top⟩, fault⟩, matching⟩, known⟩ := free
      refine ⟨zone ▸ high, zone ▸ top, (not_congr inlet).2 fault, ?_, srk ▸ known⟩
      rw [State.isCurrent, oau]
      exact matching
    · obtain ⟨-, -, free⟩ := allowed .give give
      simp only [suppressed, Bool.or_eq_false_iff, beq_eq_false_iff_ne] at free
      obtain ⟨⟨landed, low⟩, fault⟩ := free
      exact ⟨zone ▸ landed, zone ▸ low, (not_congr outlet).2 fault⟩

/-! ## A station outside RUN that shares no duty -/

/-- START and FAULT: no role, no ability, no request, no command and a released governor. -/
structure Idle (t : State) : Prop where
  station : t.station ≠ .run
  roles : ∀ r, (t.ysu.role r).held = none ∧ (t.ysu.role r).able = false
  forced : t.mvc.forcedGive = false
  commands : ∀ v, (t.vdu.drive v).command = .none
  mode : t.pgv.mode = .released

theorem Idle.settled {t : State} (h : Idle t) : Settled t := by
  have take : t.ysu.take.held = none ∧ t.ysu.take.able = false := h.roles .take
  have give : t.ysu.give.held = none ∧ t.ysu.give.able = false := h.roles .give
  have inlet : t.vdu.inlet.command = .none := h.commands .inlet
  have outlet : t.vdu.outlet.command = .none := h.commands .outlet
  have stopped : t.station ≠ .run ∨ t.ini.key = .outOfService := .inl h.station
  have noForce : ∀ {p : Prop}, ¬ (t.station = .run ∧ p) := fun both => h.station both.1
  have limit : t.ysu.give.held ≠ some .limit := by simp [give.1]
  refine { ability := ⟨?canTake, ?canGive⟩, limit := ⟨?forced, ?limited⟩, command := (commandLaw_iff t).2 ⟨?inlet, ?outlet⟩,
           mode := ?mode, role := fun _ => ⟨fun held => ?held, fun held => ?take, fun held => ?give⟩ }
  case canTake => exact iff_of_false (by simp [take.2]) noForce
  case canGive => exact iff_of_false (by simp [give.2]) noForce
  case forced => exact iff_of_false (by simp [h.forced]) noForce
  case limited => exact iff_of_false limit noForce
  case inlet => rw [inlet, inletCommand, if_pos stopped]
  case outlet => rw [outlet, outletCommand, if_pos stopped]
  case mode => rw [h.mode, modeTable, if_pos stopped]
  case held => simp [State.holdsTake, State.holdsGive, take.1, give.1] at held
  case take => simp [State.holdsTake, take.1] at held
  case give => simp [State.holdsGive, give.1] at held

end Sys2Proof.Machine
end

section
/-! SUPPORT. What leaves the terms of duty sharing as they are, what the work of a record leaves of the station, and how every
command ends for duty sharing: on the terms it found, or settled. -/

namespace Sys2Proof.Machine

/-! ## The terms of the laws of duty sharing -/

/-- The terms that the laws of duty sharing speak of stand: the key counts in RUN alone. -/
structure SameTerms (s t : State) : Prop where
  station : t.station = s.station
  key : s.station = .run → t.ini.key = s.ini.key
  district : t.ini.district.value = s.ini.district.value
  zone : t.mvc.zone = s.mvc.zone
  forced : t.mvc.forcedGive = s.mvc.forcedGive
  status : t.srk.record.status = s.srk.record.status
  mismatch : t.isCurrent .liftMismatch = s.isCurrent .liftMismatch
  clash : t.isCurrent .numberClash = s.isCurrent .numberClash
  roles : ∀ r, (t.ysu.role r).held = (s.ysu.role r).held ∧ (t.ysu.role r).able = (s.ysu.role r).able
  drives : ∀ v, (t.vdu.drive v).command = (s.vdu.drive v).command ∧ (t.vdu.drive v).state = (s.vdu.drive v).state
  mode : t.pgv.mode = s.pgv.mode

namespace SameTerms

variable {s t u : State}

theorem refl (s : State) : SameTerms s s :=
  ⟨rfl, fun _ => rfl, rfl, rfl, rfl, rfl, rfl, rfl, fun _ => ⟨rfl, rfl⟩, fun _ => ⟨rfl, rfl⟩, rfl⟩

theorem trans (h : SameTerms s t) (k : SameTerms t u) : SameTerms s u where
  station := k.station.trans h.station
  key run := (k.key (h.station.trans run)).trans (h.key run)
  district := k.district.trans h.district
  zone := k.zone.trans h.zone
  forced := k.forced.trans h.forced
  status := k.status.trans h.status
  mismatch := k.mismatch.trans h.mismatch
  clash := k.clash.trans h.clash
  roles r := ⟨(k.roles r).1.trans (h.roles r).1, (k.roles r).2.trans (h.roles r).2⟩
  drives v := ⟨(k.drives v).1.trans (h.drives v).1, (k.drives v).2.trans (h.drives v).2⟩
  mode := k.mode.trans h.mode

theorem grade (h : SameTerms s t) (law : gradeLaw s) : gradeLaw t := by
  unfold gradeLaw
  rw [h.mismatch, h.status]
  exact law

/-- In RUN every term stands, and outside RUN the key is no term. -/
theorem running (h : SameTerms s t) {p : KeyPosition → Prop} :
    (t.station = .run ∧ p t.ini.key) ↔ (s.station = .run ∧ p s.ini.key) := by
  rw [h.station]
  exact and_congr_right fun run => by rw [h.key run]

theorem free (h : SameTerms s t) :
    (t.station ≠ .run ∨ t.ini.key = .outOfService) ↔ (s.station ≠ .run ∨ s.ini.key = .outOfService) := by
  have running := h.running (p := (· ≠ .outOfService))
  tauto

theorem holds (h : SameTerms s t) : t.holdsTake = s.holdsTake ∧ t.holdsGive = s.holdsGive := by
  rw [holdsTake_eq, holdsGive_eq, holdsTake_eq, holdsGive_eq, (h.roles .take).1, (h.roles .give).1]
  exact ⟨rfl, rfl⟩

theorem command (h : SameTerms s t) (law : commandLaw s) : commandLaw t := by
  obtain ⟨inlet, outlet⟩ := (commandLaw_iff s).1 law
  obtain ⟨take, give⟩ := h.holds
  have inletSame : t.vdu.inlet.command = s.vdu.inlet.command := (h.drives .inlet).1
  have outletSame : t.vdu.outlet.command = s.vdu.outlet.command := (h.drives .outlet).1
  refine (commandLaw_iff t).2 ⟨?_, ?_⟩
  · rw [inletSame, inlet]
    unfold inletCommand
    simp only [h.free, take, h.zone, h.status]
  · rw [outletSame, outlet]
    unfold outletCommand
    simp only [h.free, give, h.zone]

theorem table (h : SameTerms s t) (law : s.pgv.mode = modeTable s) : t.pgv.mode = modeTable t := by
  have outlet : t.vdu.outlet.state = s.vdu.outlet.state := (h.drives .outlet).2
  rw [h.mode, law]
  unfold modeTable
  simp only [h.free, h.holds.2, outlet, h.district]

theorem ability (h : SameTerms s t) (law : abilityLaw s) : abilityLaw t := by
  obtain ⟨take, give⟩ := law
  have takeAble : t.ysu.take.able = s.ysu.take.able := (h.roles .take).2
  have giveAble : t.ysu.give.able = s.ysu.give.able := (h.roles .give).2
  have inlet : t.vdu.inlet.state = s.vdu.inlet.state := (h.drives .inlet).2
  have outlet : t.vdu.outlet.state = s.vdu.outlet.state := (h.drives .outlet).2
  have auto := h.running (p := (· = .auto))
  constructor
  · rw [takeAble, take, ← and_assoc, ← and_assoc (a := t.station = .run), auto, h.status, h.mismatch, h.zone, inlet, h.clash]
  · rw [giveAble, give, ← and_assoc, ← and_assoc (a := t.station = .run), auto, h.status, h.zone, outlet, h.district,
      h.clash]

theorem limit (h : SameTerms s t) (law : limitLaw s) : limitLaw t := by
  have outlet : t.vdu.outlet.state = s.vdu.outlet.state := (h.drives .outlet).2
  have give : t.ysu.give.held = s.ysu.give.held := (h.roles .give).1
  have key := h.running (p := (· ≠ .outOfService))
  have same : (t.station = .run ∧ t.mvc.zone = .top ∧ t.ini.key ≠ .outOfService ∧ t.vdu.outlet.state ≠ .fault) ↔
      (s.station = .run ∧ s.mvc.zone = .top ∧ s.ini.key ≠ .outOfService ∧ s.vdu.outlet.state ≠ .fault) := by
    rw [outlet, h.zone]
    tauto
  exact ⟨by rw [h.forced]; exact law.1.trans same.symm, by rw [give]; exact law.2.trans same.symm⟩

theorem role (h : SameTerms s t) (law : roleLaw s) : roleLaw t := by
  obtain ⟨running, take, give⟩ := law
  have inlet : t.vdu.inlet.state = s.vdu.inlet.state := (h.drives .inlet).2
  have outlet : t.vdu.outlet.state = s.vdu.outlet.state := (h.drives .outlet).2
  have key := h.running (p := (· ≠ .outOfService))
  unfold roleLaw
  rw [h.holds.1, h.holds.2, h.zone, h.mismatch, h.status, inlet, outlet]
  exact ⟨fun held => key.2 (running held), take, give⟩

theorem settled (h : SameTerms s t) (k : Settled s) : Settled t where
  ability := h.ability k.ability
  limit := h.limit k.limit
  command := h.command k.command
  mode := h.table k.mode
  role law := h.role (k.role (by
    unfold gradeLaw at *
    rw [← h.mismatch, ← h.status]
    exact law))

/-! ## What leaves every term -/

/-- No block with a term is moved. -/
theorem ofBlocks (station : t.station = s.station) (ini : t.ini = s.ini) (srk : t.srk = s.srk) (mvc : t.mvc = s.mvc)
    (vdu : t.vdu = s.vdu) (ysu : t.ysu = s.ysu) (pgv : t.pgv = s.pgv)
    (current : ∀ k, k = .liftMismatch ∨ k = .numberClash → t.isCurrent k = s.isCurrent k) : SameTerms s t where
  station := station
  key _ := by rw [ini]
  district := by rw [ini]
  zone := by rw [mvc]
  forced := by rw [mvc]
  status := by rw [srk]
  mismatch := current _ (.inl rfl)
  clash := current _ (.inr rfl)
  roles _ := by rw [ysu]; exact ⟨rfl, rfl⟩
  drives _ := by rw [vdu]; exact ⟨rfl, rfl⟩
  mode := by rw [pgv]

/-- The line, the accounts and the store have no terms. -/
theorem ofPapers (y : Yli) (a : Acu) (r : Rst) (s : State) : SameTerms s { s with yli := y, acu := a, rst := r } :=
  ofBlocks rfl rfl rfl rfl rfl rfl rfl fun _ _ => rfl

theorem ofYli (y : Yli) (s : State) : SameTerms s { s with yli := y } := ofPapers y s.acu s.rst s
theorem ofRst (r : Rst) (s : State) : SameTerms s { s with rst := r } := ofPapers s.yli s.acu r s

/-- The instrument interface but for the key in RUN and the district pressure. -/
theorem ofIni (n : Ini) (s : State) (key : s.station = .run → n.key = s.ini.key)
    (district : n.district.value = s.ini.district.value) : SameTerms s { s with ini := n } :=
  ⟨rfl, key, district, rfl, rfl, rfl, rfl, rfl, fun _ => ⟨rfl, rfl⟩, fun _ => ⟨rfl, rfl⟩, rfl⟩

theorem ofIni_same (n : Ini) (s : State) (key : n.key = s.ini.key) (district : n.district = s.ini.district) :
    SameTerms s { s with ini := n } := ofIni n s (fun _ => key) (by rw [district])

theorem finish (s : State) : SameTerms s (finish s) := by
  refine ofBlocks ?_ ?_ ?_ ?_ ?_ ?_ ?_ ?_ <;> simp [State.isCurrent]

theorem latch (k : AlarmKind) (s : State) : SameTerms s (latch k s) := by
  refine ofBlocks ?_ ?_ ?_ ?_ ?_ ?_ ?_ ?_ <;> simp [isCurrent_latch]

theorem trigger (s : State) : SameTerms s (trigger s) := by
  refine ofBlocks ?_ ?_ ?_ ?_ ?_ ?_ ?_ ?_ <;> simp [State.isCurrent]

theorem beginWrite (s : State) : SameTerms s (beginWrite s) := by
  refine ofBlocks ?_ ?_ ?_ ?_ ?_ ?_ ?_ ?_ <;> simp [State.isCurrent]

theorem offerMessage (m : Message) (s : State) : SameTerms s (offerMessage m s) := by
  refine ofBlocks ?_ ?_ ?_ ?_ ?_ ?_ ?_ ?_ <;> simp [State.isCurrent]

theorem afterFrame (s : State) : SameTerms s (afterFrame s) := by
  refine ofBlocks ?_ ?_ ?_ ?_ ?_ ?_ ?_ ?_ <;> simp [State.isCurrent]

theorem acceptAlarms (s : State) : SameTerms s (acceptAlarms s) :=
  ofBlocks rfl rfl rfl rfl rfl rfl rfl fun _ _ => rfl

/-- A kind that is no term raised or ceased. -/
theorem raise {k : AlarmKind} (other : k ≠ .liftMismatch ∧ k ≠ .numberClash) (s : State) : SameTerms s (raise k s) := by
  refine ofBlocks ?_ ?_ ?_ ?_ ?_ ?_ ?_ ?_
  case refine_8 =>
    intro j term
    have apart : j ≠ k := by rcases term with rfl | rfl <;> [exact other.1.symm; exact other.2.symm]
    simp [isCurrent_raise, apart]
  all_goals simp

theorem cease {k : AlarmKind} (other : k ≠ .liftMismatch ∧ k ≠ .numberClash) (s : State) : SameTerms s (cease k s) := by
  refine ofBlocks rfl rfl rfl rfl rfl rfl rfl fun j term => ?_
  have apart : j ≠ k := by rcases term with rfl | rfl <;> [exact other.1.symm; exact other.2.symm]
  simp [isCurrent_cease, apart]

theorem makeEntry (e : EventKind) (s : State) : SameTerms s (makeEntry e s) := by
  refine ofBlocks ?_ ?_ ?_ ?_ ?_ ?_ ?_ ?_ <;> simp [isCurrent_makeEntry]

theorem raiseWithEntry {k : AlarmKind} (e : EventKind) (other : k ≠ .liftMismatch ∧ k ≠ .numberClash) (s : State) :
    SameTerms s (raiseWithEntry k e s) := by
  unfold Machine.raiseWithEntry
  split
  · exact refl s
  · exact (raise other s).trans (makeEntry e _)

theorem judgeCalls (s : State) : SameTerms s (judgeCalls s) := by
  constructor <;> simp [State.isCurrent, judgeCalls_held_able]

/-- A unit of duty sharing with its roles and abilities kept. -/
theorem ofYsu (y : Ysu) (s : State) (take : y.take = s.ysu.take) (give : y.give = s.ysu.give) :
    SameTerms s { s with ysu := y } := by
  refine ⟨rfl, fun _ => rfl, rfl, rfl, rfl, rfl, rfl, rfl, fun r => ?_, fun _ => ⟨rfl, rfl⟩, rfl⟩
  cases r with
  | take => exact ⟨by rw [Ysu.role, take]; rfl, by rw [Ysu.role, take]; rfl⟩
  | give => exact ⟨by rw [Ysu.role, give]; rfl, by rw [Ysu.role, give]; rfl⟩

theorem lineHeard (s : State) : SameTerms s (lineHeard s) := by
  unfold Machine.lineHeard
  split
  · have restarted : SameTerms s { s with ysu := { s.ysu with silence := some (5 * s.intervalMs) } } :=
      ofYsu _ s rfl rfl
    exact restarted.trans (cease (k := .alone) (by decide) _)
  · exact refl s

theorem emptyLine (s : State) : SameTerms s (emptyLine s) := (ofYli _ s).trans (cease (k := .txBlocked) (by decide) _)

/-- A close moves the governor's lowest pressure and nothing else of it (R148, R167). -/
theorem closePeriod (n : Nat) (cause : CloseCause) (next : Nat) (s : State) : SameTerms s (closePeriod n cause next s) := by
  have kept := closePeriod_kept n cause next s
  have mode : (Machine.closePeriod n cause next s).pgv.mode = s.pgv.mode := by
    rw [closePeriod_eq]
    simp only [beginWrite_pgv, trigger_pgv, openNext, offerAccount, offerMessage_pgv]
    unfold judgeBalance
    split <;> simp [raiseMomentary]
  refine ⟨kept.station, fun _ => by rw [kept.ini], by rw [kept.ini], by rw [kept.mvc], by rw [kept.mvc], by rw [kept.srk],
    by rw [State.isCurrent, kept.current]; rfl, by rw [State.isCurrent, kept.current]; rfl, fun _ => by rw [kept.ysu]; exact ⟨rfl, rfl⟩,
    fun _ => by rw [kept.vdu]; exact ⟨rfl, rfl⟩, mode⟩

theorem passMinutes (minutes : List Nat) (s : State) : SameTerms s (passMinutes minutes s) := by
  have served : ∀ b, SameTerms s (servedAs b s) := fun b => ofPapers s.yli _ s.rst s
  obtain ⟨b, stands | ⟨n, closes⟩⟩ := passMinutes_cases minutes s
  · rw [stands]
    exact served b
  · rw [closes]
    exact (served b).trans (closePeriod _ _ _ _)

theorem peerPeriod (p : Nat) (s : State) : SameTerms s (peerPeriod p s) := by
  unfold Machine.peerPeriod
  split
  · exact refl s
  · split
    · exact ofPapers s.yli _ s.rst s
    · split
      · exact closePeriod _ _ _ s
      · exact refl s

end SameTerms

/-! ## What the work of a record leaves of the station (R52, R153 to R160) -/

theorem testSilentWindow_frame (w : SilentWindow) (s : State) : testSilentWindow w s =
    { s with yli := (testSilentWindow w s).yli, acu := (testSilentWindow w s).acu, oau := (testSilentWindow w s).oau } := by
  unfold testSilentWindow
  dsimp only
  split
  · apply State.eq_of_fields <;> simp
  · rfl

theorem judgeSilentWindow_frame (s : State) : judgeSilentWindow s = { s with acu := (judgeSilentWindow s).acu } := by
  apply State.eq_of_fields <;> simp

theorem countSilentWindow_frame (s : State) : countSilentWindow s =
    { s with yli := (countSilentWindow s).yli, acu := (countSilentWindow s).acu, oau := (countSilentWindow s).oau } := by
  unfold countSilentWindow
  split
  · split
    · rw [judgeSilentWindow_frame]
    · dsimp only
      split
      · rw [testSilentWindow_frame]
      · rfl
  · rw [judgeSilentWindow_frame]

/-- The account unit's work on a record (R154). -/
theorem accountRecord_frame (s : State) : accountRecord s = { s with
    ini := { s.ini with inletCount := 0, outletCount := 0 }, yli := (accountRecord s).yli, acu := (accountRecord s).acu,
    oau := (accountRecord s).oau } := by
  rw [accountRecord_eq, countSilentWindow_frame]
  rfl

theorem judgeLimitGuard_frame (s : State) : judgeLimitGuard s = { s with
    yli := (judgeLimitGuard s).yli, acu := (judgeLimitGuard s).acu, oau := (judgeLimitGuard s).oau } := by
  apply State.eq_of_fields <;> simp

theorem judgeLossWindow_frame (s : State) : judgeLossWindow s = { s with mvc := (judgeLossWindow s).mvc } := by
  apply State.eq_of_fields <;> simp

theorem raiseWithEntry_frame (k : AlarmKind) (e : EventKind) (s : State) : raiseWithEntry k e s = { s with
    yli := (raiseWithEntry k e s).yli, acu := (raiseWithEntry k e s).acu, oau := (raiseWithEntry k e s).oau } := by
  apply State.eq_of_fields <;> simp

theorem liftCheck_frame (s : State) : liftCheck s = { s with
    mvc := (liftCheck s).mvc, yli := (liftCheck s).yli, acu := (liftCheck s).acu, oau := (liftCheck s).oau } := by
  unfold liftCheck
  split
  · split
    · dsimp only
      split <;> rfl
    · dsimp only
      split
      · rw [raiseWithEntry_frame]
      · rfl
  · rfl

theorem testLossWindow_frame (w : LossWindow) (s : State) : testLossWindow w s = { s with
    mvc := (testLossWindow w s).mvc, yli := (testLossWindow w s).yli, acu := (testLossWindow w s).acu,
    oau := (testLossWindow w s).oau } := by
  unfold testLossWindow
  dsimp only
  split
  · rw [raiseWithEntry_frame]
  · rfl

theorem countLossWindow_frame (s : State) : countLossWindow s = { s with
    mvc := (countLossWindow s).mvc, yli := (countLossWindow s).yli, acu := (countLossWindow s).acu,
    oau := (countLossWindow s).oau } := by
  unfold countLossWindow
  split
  · split
    · rw [judgeLossWindow_frame]
    · dsimp only
      split
      · rw [testLossWindow_frame]
      · rfl
  · rw [judgeLossWindow_frame]

theorem countCycle_frame (s : State) : countCycle s = { s with mvc := (countCycle s).mvc } := by
  unfold countCycle
  split
  · rfl
  · split
    · rfl
    · split <;> rfl

theorem countRest_frame (s : State) : countRest s = { s with mvc := (countRest s).mvc } := by
  unfold countRest
  split
  · split <;> rfl
  · rfl

theorem judgeTurnover_frame (s : State) : judgeTurnover s = { s with mvc := (judgeTurnover s).mvc } := by
  unfold judgeTurnover
  split <;> rfl

/-- No block but the movement controller, the line, the accounts and the alarm sets is moved. -/
def MovesRecord (s t : State) : Prop := ∃ m y a o, t = { s with mvc := m, yli := y, acu := a, oau := o }

theorem MovesRecord.trans {s t u : State} (h : MovesRecord s t) (k : MovesRecord t u) : MovesRecord s u := by
  obtain ⟨m, y, a, o, rfl⟩ := h
  obtain ⟨m', y', a', o', rfl⟩ := k
  exact ⟨m', y', a', o', rfl⟩

theorem MovesRecord.of_frame {s t : State} {m : Mvc} {y : Yli} {a : Acu} {o : Oau}
    (frame : t = { s with mvc := m, yli := y, acu := a, oau := o }) : MovesRecord s t := ⟨m, y, a, o, frame⟩

/-- The movement controller's work on a record (R52). -/
theorem movementRecord_frame (s : State) : movementRecord s = { s with
    mvc := (movementRecord s).mvc, yli := (movementRecord s).yli, acu := (movementRecord s).acu,
    oau := (movementRecord s).oau } := by
  have moved : MovesRecord s (movementRecord s) :=
    (MovesRecord.of_frame (y := s.yli) (a := s.acu) (o := s.oau) rfl).trans
      ((MovesRecord.of_frame (liftCheck_frame _)).trans
      ((MovesRecord.of_frame (judgeLimitGuard_frame _)).trans ((MovesRecord.of_frame (countLossWindow_frame _)).trans
      ((MovesRecord.of_frame (countCycle_frame _)).trans ((MovesRecord.of_frame (countRest_frame _)).trans
      (MovesRecord.of_frame (judgeTurnover_frame _)))))))
  obtain ⟨m, y, a, o, frame⟩ := moved
  rw [frame]

@[simp] theorem movementRecord_station (s : State) : (movementRecord s).station = s.station := by rw [movementRecord_frame]
@[simp] theorem movementRecord_ini (s : State) : (movementRecord s).ini = s.ini := by rw [movementRecord_frame]
@[simp] theorem movementRecord_vdu (s : State) : (movementRecord s).vdu = s.vdu := by rw [movementRecord_frame]
@[simp] theorem movementRecord_ysu (s : State) : (movementRecord s).ysu = s.ysu := by rw [movementRecord_frame]
@[simp] theorem movementRecord_pgv (s : State) : (movementRecord s).pgv = s.pgv := by rw [movementRecord_frame]
@[simp] theorem movementRecord_rst (s : State) : (movementRecord s).rst = s.rst := by rw [movementRecord_frame]
@[simp] theorem movementRecord_plug (s : State) : (movementRecord s).plug = s.plug := by rw [movementRecord_frame]
@[simp] theorem movementRecord_number (s : State) : (movementRecord s).number = s.number := by rw [movementRecord_frame]
@[simp] theorem accountRecord_station (s : State) : (accountRecord s).station = s.station := by rw [accountRecord_frame]
@[simp] theorem accountRecord_vdu (s : State) : (accountRecord s).vdu = s.vdu := by rw [accountRecord_frame]
@[simp] theorem accountRecord_mvc (s : State) : (accountRecord s).mvc = s.mvc := by rw [accountRecord_frame]
@[simp] theorem accountRecord_ysu (s : State) : (accountRecord s).ysu = s.ysu := by rw [accountRecord_frame]
@[simp] theorem accountRecord_pgv (s : State) : (accountRecord s).pgv = s.pgv := by rw [accountRecord_frame]
@[simp] theorem accountRecord_rst (s : State) : (accountRecord s).rst = s.rst := by rw [accountRecord_frame]
@[simp] theorem accountRecord_plug (s : State) : (accountRecord s).plug = s.plug := by rw [accountRecord_frame]
@[simp] theorem accountRecord_number (s : State) : (accountRecord s).number = s.number := by rw [accountRecord_frame]
@[simp] theorem accountRecord_ini (s : State) :
    (accountRecord s).ini = { s.ini with inletCount := 0, outletCount := 0 } := by rw [accountRecord_frame]

/-! ## The grade (R22) -/

/-- No grade is VALID while the lifts mismatch (R20). -/
theorem gradeOf_ne_valid (crown : InputStatus) (subs : Substitutions) : gradeOf crown true subs ≠ .valid := by
  cases crown <;> simp [gradeOf]

theorem gradeLaw_of_gradeNow {s : State} (status : s.srk.record.status = gradeNow s) : gradeLaw s := by
  intro current
  rw [status, gradeNow, current]
  exact gradeOf_ne_valid _ _

theorem isCurrent_signalGrade_other {k : AlarmKind} (other : k ≠ .stockInvalid) (st : StockStatus) (s : State) :
    (signalGrade st s).isCurrent k = s.isCurrent k := by
  cases st <;> simp [signalGrade, isCurrent_makeEntry, isCurrent_raise, isCurrent_cease, other]

theorem isCurrent_regrade_other {k : AlarmKind} (other : k ≠ .stockInvalid) (s : State) :
    (regrade s).isCurrent k = s.isCurrent k := by
  unfold regrade
  split
  · dsimp only
    split
    · rfl
    · have windows : ∀ q : State, (judgeSilentWindow (judgeLossWindow q)).isCurrent k = q.isCurrent k := by
        intro q
        simp [State.isCurrent]
      rw [windows, isCurrent_signalGrade_other other]
      rfl
  · rfl

/-- A re-grade in LISTEN and RUN grades the record by R22, whatever its grade was. -/
theorem gradeLaw_regraded {s : State} (working : s.working = true) (graded : s.srk.graded = true) :
    gradeLaw (regrade s) := by
  intro current
  rw [isCurrent_regrade_other (by decide)] at current
  rw [regrade_status working graded, gradeNow, current]
  exact gradeOf_ne_valid _ _

/-- A re-grade leaves a record graded by R22. -/
theorem gradeLaw_regrade {s : State} (law : gradeLaw s) : gradeLaw (regrade s) := by
  by_cases graded : s.working = true ∧ s.srk.graded = true
  · exact gradeLaw_regraded graded.1 graded.2
  · have still : regrade s = s := if_neg graded
    rwa [still]

/-- The settling pass leaves the grade and the kinds. -/
theorem gradeLaw_settleFrom {old s : State} (law : gradeLaw s) : gradeLaw (settleFrom old s) := by
  have srk : (settleFrom old s).srk = s.srk := by simp [settleFrom]
  unfold gradeLaw State.isCurrent at *
  rw [settleFrom_oau, srk]
  exact law

theorem gradeLaw_settle {s : State} (law : gradeLaw s) : gradeLaw (settle s) := by
  rw [settle]
  exact gradeLaw_settleFrom law

/-- The work of a record, before the re-grade (R4, R52). -/
def recordWorked (s : State) : State := movementRecord (accountRecord (reckon s))

theorem workRecord_eq (s : State) : workRecord s = beginWrite (settle (regrade (recordWorked s))) := rfl

theorem recordWorked_station (s : State) : (recordWorked s).station = s.station := by
  rw [recordWorked, movementRecord_station, accountRecord_station, reckon_station]

theorem recordWorked_srk (s : State) : (recordWorked s).srk = (reckon s).srk := by
  rw [recordWorked, movementRecord_srk, accountRecord_srk]

/-- The record of LISTEN and RUN is graded by R22 when a reckoning has been worked. -/
theorem gradeLaw_workRecord {s : State} (working : s.working = true) : gradeLaw (workRecord s) := by
  have on : (recordWorked s).working = true := by
    rw [State.working, recordWorked_station]
    exact working
  have graded : (recordWorked s).srk.graded = true := by
    rw [recordWorked_srk]
    exact reckon_graded s
  have regraded : gradeLaw (regrade (recordWorked s)) := gradeLaw_regraded on graded
  have settled : gradeLaw (settle (regrade (recordWorked s))) := gradeLaw_settle regraded
  rw [workRecord_eq]
  exact (SameTerms.beginWrite _).grade settled

/-! ## How a command ends for duty sharing -/

/-- A command keeps R22, and ends on the terms it found or settled. -/
structure Shares (s t : State) : Prop where
  grade : gradeLaw s → gradeLaw t
  ends : SameTerms s t ∨ Settled t

namespace Shares

variable {s t u : State}

theorem same (h : SameTerms s t) : Shares s t := ⟨h.grade, .inl h⟩

theorem refl (s : State) : Shares s s := same (.refl s)

theorem then_same (h : Shares s t) (k : SameTerms t u) : Shares s u :=
  ⟨k.grade ∘ h.grade, h.ends.imp (fun terms => terms.trans k) k.settled⟩

theorem finish (h : Shares s t) : Shares s (finish t) := h.then_same (.finish t)

theorem settleFrom (grade : gradeLaw s → gradeLaw t) (old : State) : Shares s (settleFrom old t) :=
  ⟨fun law => gradeLaw_settleFrom (grade law), .inr (settled_settleFrom old t)⟩

theorem settle (grade : gradeLaw s → gradeLaw t) : Shares s (settle t) := settleFrom grade t

theorem idle (grade : gradeLaw s → gradeLaw t) (stopped : Idle t) : Shares s t := ⟨grade, .inr stopped.settled⟩

theorem powered {f : State → State} (works : Shares s (f s)) : Shares s (powered f s) :=
  powered_cases (P := Shares s) (refl s) works

end Shares

end Sys2Proof.Machine
end

section
/-! SUPPORT. Every command's end for duty sharing, and the statements on roles, commands and drives that rest on it. -/

namespace Sys2Proof.Machine

/-! ## FAULT (R180) -/

theorem deriveCommands_command_drive (v : Side) (s : State) :
    ((deriveCommands s).vdu.drive v).command = (match v with | .inlet => inletCommand s | .outlet => outletCommand s) := by
  cases v with
  | inlet => exact (deriveCommands_command s).1
  | outlet => exact (deriveCommands_command s).2

/-- The entry to FAULT before CONFIG FAULT is raised (R180). -/
def faultEntered (s : State) : State :=
  releaseGovernor (deriveCommands (cease .alone (cease .numberClash (faultBlocks s))))

theorem enterFault_eq (s : State) : enterFault s = raise .configFault (faultEntered s) := rfl

@[simp] theorem enterFault_station (s : State) : (enterFault s).station = .fault := by
  rw [enterFault_eq, raise_station, faultEntered, releaseGovernor_station, deriveCommands_station]
  rfl
@[simp] theorem enterFault_srk (s : State) : (enterFault s).srk = { s.srk with timer := none } := by
  rw [enterFault_eq, raise_srk, faultEntered, releaseGovernor_srk, deriveCommands_srk]
  rfl
@[simp] theorem enterFault_ysu (s : State) : (enterFault s).ysu = s.ysu.stopped := by
  rw [enterFault_eq, raise_ysu, faultEntered, releaseGovernor_ysu, deriveCommands_ysu]
  rfl
@[simp] theorem enterFault_ini (s : State) : (enterFault s).ini = s.ini := by
  rw [enterFault_eq, raise_ini, faultEntered, releaseGovernor_ini, deriveCommands_ini]
  rfl
theorem enterFault_forced (s : State) : (enterFault s).mvc.forcedGive = false := by
  rw [enterFault_eq, raise_mvc, faultEntered, releaseGovernor_mvc, deriveCommands_mvc]
  rfl
theorem enterFault_mode (s : State) : (enterFault s).pgv.mode = .released := by
  rw [enterFault_eq, raise_pgv]
  rfl

/-- Both valves are released in FAULT (R55, R180). -/
theorem enterFault_command (v : Side) (s : State) : ((enterFault s).vdu.drive v).command = .none := by
  let q := cease .alone (cease .numberClash (faultBlocks s))
  have stopped : q.station ≠ .run ∨ q.ini.key = .outOfService := .inl (by simp [q, faultBlocks])
  have same : (enterFault s).vdu.drive v = (deriveCommands q).vdu.drive v := by
    rw [enterFault_eq, raise_vdu]
    cases v <;> rfl
  rw [same, deriveCommands_command_drive]
  cases v with
  | inlet => exact if_pos stopped
  | outlet => exact if_pos stopped

theorem idle_enterFault (s : State) : Idle (enterFault s) where
  station := by simp
  roles r := by
    rw [enterFault_ysu]
    cases r <;> exact ⟨rfl, rfl⟩
  forced := enterFault_forced s
  commands v := enterFault_command v s
  mode := enterFault_mode s

/-- A kind in FAULT is CONFIG FAULT or was current before, and is neither ALONE nor NUMBER CLASH nor TX BLOCKED (R91, R180). -/
theorem isCurrent_enterFault (k : AlarmKind) (s : State) : (enterFault s).isCurrent k =
    (decide (k = .configFault) ||
      (s.isCurrent k && decide (k ≠ .txBlocked) && decide (k ≠ .numberClash) && decide (k ≠ .alone))) := by
  have entered : (faultEntered s).isCurrent k = (cease .alone (cease .numberClash (cease .txBlocked s))).isCurrent k := by
    unfold faultEntered State.isCurrent
    rw [releaseGovernor_oau, deriveCommands_oau]
    rfl
  rw [enterFault_eq, isCurrent_raise, entered, isCurrent_cease, isCurrent_cease, isCurrent_cease, Bool.or_comm]

theorem gradeLaw_enterFault {s : State} (law : gradeLaw s) : gradeLaw (enterFault s) := by
  unfold gradeLaw
  rw [isCurrent_enterFault, enterFault_srk]
  simpa using law

/-! ## START (R180 to R186) -/

/-- A station as START's steps find it, and leave it when they pass: no duty, and a record of the start. -/
structure Fresh (s : State) : Prop where
  station : s.station = .start
  roles : ∀ r, (s.ysu.role r).held = none ∧ (s.ysu.role r).able = false
  forced : s.mvc.forcedGive = false
  commands : ∀ v, (s.vdu.drive v).command = .none
  mode : s.pgv.mode = .released
  status : s.srk.record.status = .invalid

theorem Fresh.idle {s : State} (h : Fresh s) : Idle s :=
  ⟨by simp [h.station], h.roles, h.forced, h.commands, h.mode⟩

theorem fresh_startBlocks (k : StartKind) (s : State) : Fresh (startBlocks k s) := by
  rw [startBlocks_frame]
  exact ⟨rfl, fun r => by cases r <;> exact ⟨rfl, rfl⟩, rfl, fun v => by cases v <;> rfl, rfl, rfl⟩

/-- The figures that START's steps take, and what the store fills, are no terms of duty sharing. -/
theorem Fresh.steps {s t : State} (h : Fresh s) (station : t.station = s.station) (ysu : t.ysu = s.ysu)
    (forced : t.mvc.forcedGive = s.mvc.forcedGive) (vdu : t.vdu = s.vdu) (mode : t.pgv.mode = s.pgv.mode)
    (srk : t.srk = s.srk) : Fresh t :=
  ⟨station.trans h.station, ysu ▸ h.roles, forced.trans h.forced, vdu ▸ h.commands, mode.trans h.mode, srk ▸ h.status⟩

/-- What a start comes to: the start's values, or FAULT on them. -/
def StartsFresh (t : State) : Prop := Fresh t ∨ ∃ q, Fresh q ∧ t = enterFault q

theorem StartsFresh.fault {s : State} (h : Fresh s) : StartsFresh (enterFault s) := .inr ⟨s, h, rfl⟩

theorem Fresh.clearStore {s : State} (h : Fresh s) (back : ReadBack) : StartsFresh (clearStore back s) := by
  unfold Machine.clearStore
  dsimp only
  split
  · refine .inl (h.steps ?_ ?_ ?_ ?_ ?_ ?_) <;> simp [stepsFinished, raiseMomentary, takeContents]
  · exact .fault (h.steps rfl rfl rfl rfl rfl rfl)

theorem Fresh.storeCheck {s : State} (h : Fresh s) (back : ReadBack) : StartsFresh (storeCheck back s) := by
  unfold Machine.storeCheck
  split
  · exact .inl (h.steps rfl rfl rfl rfl rfl rfl)
  · exact h.clearStore back

/-- START's steps end with the start's values, or in FAULT on them (R181 to R183, R185). -/
theorem Fresh.startSteps {s : State} (h : Fresh s) (reads : StartReadings) : StartsFresh (startSteps reads s) := by
  have numbered : Fresh { s with number := reads.straps } := h.steps rfl rfl rfl rfl rfl rfl
  have plugged : Fresh { s with number := reads.straps, plugSum := plugCheckWord reads.plug, plug := plugTaken reads.plug } :=
    h.steps rfl rfl rfl rfl rfl rfl
  unfold Machine.startSteps
  dsimp only
  split
  · exact .fault numbered
  · split
    · exact .fault plugged
    · split
      · exact .fault plugged
      · exact plugged.storeCheck _

theorem start_cases (k : StartKind) (reads : StartReadings) (s : State) :
    StartsFresh (start k reads s) := (fresh_startBlocks k s).startSteps reads

theorem idle_start (k : StartKind) (reads : StartReadings) (s : State) : Idle (start k reads s) := by
  rcases start_cases k reads s with fresh | ⟨q, -, fault⟩
  · exact fresh.idle
  · rw [fault]
    exact idle_enterFault q

theorem start_status (k : StartKind) (reads : StartReadings) (s : State) :
    (start k reads s).srk.record.status = .invalid := by
  rcases start_cases k reads s with fresh | ⟨q, fresh, fault⟩
  · exact fresh.status
  · rw [fault, enterFault_srk]
    exact fresh.status

theorem gradeLaw_start (k : StartKind) (reads : StartReadings) (s : State) : gradeLaw (start k reads s) := by
  intro _
  rw [start_status]
  decide

/-! ## Drive records (R49) -/

theorem isCurrent_putDrive_other {k : AlarmKind} (other : k ≠ .inletValveFault ∧ k ≠ .outletValveFault ∧ k ≠ .limitGuard)
    (d : Side) (x : Drive) (s : State) : (putDrive d x s).isCurrent k = s.isCurrent k := by
  have windows : ∀ q : State, (judgeSilentWindow (judgeLossWindow q)).isCurrent k = q.isCurrent k := by
    intro q
    simp [State.isCurrent]
  have guards : ∀ q : State, (endLanding q).isCurrent k = q.isCurrent k := by
    intro q
    unfold endLanding judgeLimitGuard
    split
    · rw [isCurrent_raiseWithEntry, decide_eq_false other.2.2, Bool.or_false]
      rfl
    · rw [isCurrent_cease, decide_eq_true other.2.2, Bool.and_true]
      rfl
  have apart : k ≠ valveFaultKind d := by cases d <;> [exact other.1; exact other.2.1]
  have signals : ∀ (before after : DriveState) (q : State), (signalDrive d before after q).isCurrent k = q.isCurrent k := by
    intro before after q
    unfold signalDrive
    split
    · simp [isCurrent_makeEntry, isCurrent_raise, apart]
    · split
      · simp [isCurrent_cease, apart]
      · rfl
  unfold putDrive
  dsimp only
  split
  · rfl
  · rw [windows]
    split
    · rw [guards, signals]
      split <;> rfl
    · rw [signals]
      split <;> rfl

theorem gradeLaw_putDrive {d : Side} {x : Drive} {s : State} (law : gradeLaw s) : gradeLaw (putDrive d x s) := by
  unfold gradeLaw
  rw [isCurrent_putDrive_other (by decide), putDrive_srk]
  exact law

/-! ## Every command -/

/-- RUN entered, its roles taken over and not yet settled (R134, R171). -/
def running (s : State) : State :=
  { s with station := .run, listenTimer := none, ysu := adoptRoles s,
           acu := { s.acu with period := { s.acu.period with number := some (s.acu.period.number.getD 1) } } }

theorem enterRun_eq (s : State) : enterRun s = settleFrom s (running s) := rfl

namespace Shares

variable {s t u : State}

/-- An alarm kind that is no lift mismatch, and anything but the stock record, leaves the grade. -/
theorem gradeLaw_of_same {s t : State} (srk : t.srk = s.srk) (mismatch : t.isCurrent .liftMismatch = s.isCurrent .liftMismatch)
    (law : gradeLaw s) : gradeLaw t := by
  unfold gradeLaw
  rw [mismatch, srk]
  exact law

theorem start (k : StartKind) (reads : StartReadings) (t : State) : Shares s (start k reads t) :=
  idle (fun _ => gradeLaw_start k reads t) (idle_start k reads t)

theorem enterFault (grade : gradeLaw s → gradeLaw t) : Shares s (enterFault t) :=
  idle (fun law => gradeLaw_enterFault (grade law)) (idle_enterFault t)

theorem stationRestart (reads : StartReadings) (h : SameTerms s t) : Shares s (stationRestart reads t) := by
  unfold Machine.stationRestart
  split
  · exact same (h.trans (.ofRst _ t))
  · exact start _ _ t

theorem writeDone (back : ReadBack) (reads : StartReadings) (s : State) : Shares s (writeDone back reads s) := by
  unfold Machine.writeDone
  split
  · exact refl s
  · next w _ =>
    split
    · split
      · exact start _ _ _
      · have kept : SameTerms s (writeKept w s) := .ofRst _ s
        refine finish (same (kept.trans ?_))
        unfold writeAgain
        split
        · exact (SameTerms.ofRst _ _).trans (.beginWrite _)
        · exact .refl _
    · split
      · exact start _ _ _
      · exact finish (enterFault (t := { s with rst := { s.rst.setHalf w.half _ with writing := none } }) id)

/-- The work of a record settles the station it finds in LISTEN and RUN. -/
theorem workRecord (working : t.working = true) : Shares s (workRecord t) :=
  ⟨fun _ => gradeLaw_workRecord working, .inr ((SameTerms.beginWrite _).settled (settled_settleFrom _ _))⟩

theorem enterListen (key : Option KeyPosition) (s : State) : Shares s (enterListen key s) := by
  by_cases ready : s.station = .start ∧ s.stepsDone = true
  · rw [enterListen_of_ready ready]
    exact finish (workRecord rfl)
  · rw [Machine.enterListen, if_neg ready]
    exact refl s

theorem listenExpired (s : State) : Shares s (listenExpired s) := by
  unfold Machine.listenExpired
  split
  · rw [enterRun_eq]
    have begun : gradeLaw s → gradeLaw (running s) := id
    exact finish (settleFrom begun s)
  · exact refl s

theorem reckonExpired (s : State) : Shares s (reckonExpired s) := by
  unfold Machine.reckonExpired
  split
  · next ready => exact finish (workRecord ready.1)
  · exact refl s

/-! ## Instruments -/

theorem inputReaders {i : InputId} (other : i ≠ .district → i ≠ .crown → SameTerms s t) (grade : gradeLaw s → gradeLaw t) :
    Shares s (inputReaders i t) := by
  cases i with
  | crown => exact settle fun law => gradeLaw_regrade (grade law)
  | district => exact settle grade
  | inletMain => exact same ((other (by decide) (by decide)).trans (.judgeCalls _))
  | gauge | gasTemp | barometer => exact same (other (by decide) (by decide))

/-- An input that is neither crown height nor district pressure is no term. -/
theorem setInput {i : InputId} (r : InputRecord) (s : State) (other : i ≠ .district) :
    SameTerms s { s with ini := s.ini.setInput i r } := by
  cases i with
  | district => exact absurd rfl other
  | crown | gauge | inletMain | gasTemp | barometer => exact .ofIni_same _ s rfl rfl

theorem sampleInput (i : InputId) (x : Int) (s : State) : Shares s (sampleInput i x s) := by
  have oau : (sampleFollowed i (sampled i x s)).oau = s.oau := by
    cases i with
    | district => exact followLowest_oau _
    | crown | gauge | inletMain | gasTemp | barometer => rfl
  have srk : (sampleFollowed i (sampled i x s)).srk = s.srk := sampleFollowed_srk i _
  have unfollowed : i ≠ .district → sampleFollowed i (sampled i x s) = sampled i x s := by
    intro other
    cases i with
    | district => exact absurd rfl other
    | crown | gauge | inletMain | gasTemp | barometer => rfl
  have terms : i ≠ .district → SameTerms s (sampleFollowed i (sampled i x s)) := by
    intro other
    rw [unfollowed other]
    exact setInput _ s other
  rw [sampleInput_eq]
  exact finish (inputReaders (fun other _ => terms other)
    (gradeLaw_of_same srk (by rw [State.isCurrent, oau]; rfl)))

theorem holdExpired (i : InputId) (s : State) : Shares s (holdExpired i s) := by
  unfold Machine.holdExpired
  split
  · exact finish (inputReaders (fun notDistrict _ => setInput _ s notDistrict) (gradeLaw_of_same rfl rfl))
  · exact refl s

theorem countPulse (m : Side) (s : State) : Shares s (countPulse m s) := by
  unfold Machine.countPulse
  split
  · cases m <;> exact same (.ofIni_same _ s rfl rfl)
  · exact refl s

theorem impulseHeard (absorb : Timer) (s : State) : SameTerms s (impulseHeard absorb s) := by
  have heard : SameTerms s { s with ini := { s.ini with absorb := absorb, selfRun := 0, impulse := some Config.impulseTime } } :=
    .ofIni_same _ s rfl rfl
  exact heard.trans (.cease (k := .clockLost) (by decide) _)

theorem stepMinute (s : State) : SameTerms s (stepMinute s) := by
  have minute : SameTerms s { s with ini := { s.ini with minute := (s.ini.minute + 1) % 1440 } } := .ofIni_same _ s rfl rfl
  exact minute.trans ((SameTerms.passMinutes _ _).trans (.judgeCalls _))

theorem minuteImpulse (s : State) : Shares s (minuteImpulse s) := by
  unfold Machine.minuteImpulse
  split
  · split
    · exact finish (same (impulseHeard none s))
    · exact finish (same ((impulseHeard none s).trans (stepMinute _)))
  · exact refl s

theorem selfCount (s : State) : Shares s (selfCount s) := by
  unfold Machine.selfCount
  split
  · let q : State := { s with ini := { s.ini with
        selfRun := min (s.ini.selfRun + 1) 3, absorb := some Config.absorbTime, impulse := some Config.impulseTime } }
    have counted : SameTerms s q := .ofIni_same _ s rfl rfl
    have judged : ∀ p : State, SameTerms p (judgeRun p) := by
      intro p
      unfold judgeRun
      split
      · exact .raiseWithEntry _ (by decide) p
      · exact .refl p
    exact finish (same (counted.trans ((stepMinute q).trans (judged _))))
  · exact refl s

theorem judgeJump (m : Nat) (s : State) : SameTerms s (judgeJump m s) := by
  unfold Machine.judgeJump
  split
  · exact .refl s
  · split
    · exact .passMinutes _ s
    · unfold jumpBack
      split
      · split
        · exact .ofPapers s.yli _ s.rst s
        · exact .refl s
      · exact .refl s

theorem synchronise (s : State) : Shares s (synchronise s) := by
  unfold Machine.synchronise
  split
  · let q := Machine.impulseHeard (some Config.absorbTime) s
    have set : SameTerms q { q with ini := { q.ini with minute := 360, synced := true } } := .ofIni_same _ q rfl rfl
    exact finish (same ((impulseHeard _ s).trans (set.trans ((judgeJump _ _).trans (.judgeCalls _)))))
  · exact refl s

/-- The initial key is taken before LISTEN alone, where it is no term (R39). -/
theorem takeKey (p : KeyPosition) {s : State} (law : stationLaw s) : Shares s (takeKey p s) := by
  unfold Machine.takeKey
  split
  · next untaken =>
    refine same (.ofIni _ s (fun run => ?_) rfl)
    have taken := (law.2.1 (by simp [State.working, run])).2
    simp [taken] at untaken
  · split
    · exact refl s
    · refine finish (settle (gradeLaw_of_same ?_ ?_))
      · rw [makeEntry_srk]
      · rw [isCurrent_makeEntry]
        rfl

theorem pressButton (s : State) : Shares s (if s.ini.button then s else Machine.powered pressButton (closeButton s)) := by
  split
  · exact refl s
  · have closed : SameTerms s (closeButton s) := .ofIni_same _ s rfl rfl
    have held : SameTerms (Machine.acceptAlarms (closeButton s)) (Machine.pressButton (closeButton s)) :=
      .ofIni_same _ _ rfl rfl
    exact powered_cases (P := Shares s) (same closed) (same (closed.trans ((SameTerms.acceptAlarms _).trans held)))

theorem buttonHeld (reads : StartReadings) (s : State) : Shares s (buttonHeld reads s) := by
  unfold Machine.buttonHeld
  split
  · exact stationRestart reads (.ofIni_same _ s rfl rfl)
  · exact refl s

theorem endSwitch (v : Side) (e : SwitchEnd) (made : Bool) (s : State) : Shares s (endSwitch v e made s) := by
  unfold Machine.endSwitch
  split
  · exact refl s
  · have switched : SameTerms s (setSwitch v e made s) := by cases v <;> exact .ofIni_same _ s rfl rfl
    exact powered_cases (P := Shares s) (same switched) (finish (settle fun law => gradeLaw_putDrive (switched.grade law)))

theorem travelExpired (v : Side) (s : State) : Shares s (travelExpired v s) := by
  unfold Machine.travelExpired
  split
  · exact finish (settle gradeLaw_putDrive)
  · exact refl s

/-! ## The line -/

theorem lineFellIdle (openTaken : Bool) (s : State) : Shares s (lineFellIdle openTaken s) := by
  unfold Machine.lineFellIdle
  split
  · exact refl s
  · dsimp only
    split
    · exact finish (same ((SameTerms.ofYli _ s).trans (.ofYli _ _)))
    · exact finish (same (.ofYli _ s))

theorem frameDone (s : State) : Shares s (frameDone s) := by
  unfold Machine.frameDone
  split
  · refine finish (same ?_)
    unfold completeFrame
    split
    · let q : State := { s with yli := { s.yli with inFlight := none, attempt := 0 } }
      have landed : SameTerms s q := .ofYli _ s
      exact landed.trans ((SameTerms.cease (k := .txBlocked) (by decide) q).trans (.afterFrame _))
    · exact .refl s
  · exact refl s

theorem frameCollided (s : State) : Shares s (frameCollided s) := by
  unfold Machine.frameCollided
  split
  · refine finish (same ?_)
    unfold collide
    split
    · dsimp only
      split
      · exact (SameTerms.ofYli _ s).trans (.afterFrame _)
      · split
        · exact (SameTerms.ofYli _ s).trans (.afterFrame _)
        · exact .ofYli _ s
    · exact .refl s
  · exact refl s

theorem backOffExpired (s : State) : Shares s (backOffExpired s) := by
  unfold Machine.backOffExpired
  split
  · exact finish (same ((SameTerms.ofYli _ s).trans (.afterFrame _)))
  · exact refl s

theorem blockedExpired (s : State) : Shares s (blockedExpired s) := by
  unfold Machine.blockedExpired
  split
  · have stopped : SameTerms s { s with yli := { s.yli with blocked := none } } := .ofYli _ s
    exact finish (same (stopped.trans (.raise (k := .txBlocked) (by decide) _)))
  · exact refl s

theorem reportExpired (s : State) : Shares s (reportExpired s) := by
  unfold Machine.reportExpired
  split
  · exact finish (same (.trigger s))
  · exact refl s

/-! ## Duty sharing -/

theorem changeTable (t : List PeerEntry) (s : State) : gradeLaw s → gradeLaw (changeTable t s) :=
  gradeLaw_of_same (changeTable_srk t s) (by rw [State.isCurrent, changeTable_oau]; rfl)

theorem staleExpired (n : Nat) (s : State) : Shares s (staleExpired n s) := by
  unfold Machine.staleExpired
  split
  · exact finish (settle (changeTable _ s))
  · exact refl s

theorem removalExpired (n : Nat) (s : State) : Shares s (removalExpired n s) := by
  unfold Machine.removalExpired
  split
  · exact finish (settle (changeTable _ s))
  · exact refl s

theorem clashExpired (s : State) : Shares s (clashExpired s) := by
  unfold Machine.clashExpired
  split
  · refine finish (settle (gradeLaw_of_same rfl ?_))
    rw [isCurrent_cease]
    simp [State.isCurrent]
  · exact refl s

theorem silenceExpired (s : State) : Shares s (silenceExpired s) := by
  unfold Machine.silenceExpired
  split
  · refine finish (settle (gradeLaw_of_same (by rw [raiseWithEntry_srk]) ?_))
    rw [isCurrent_raiseWithEntry]
    simp [State.isCurrent]
  · exact refl s

theorem updateRole (r : Role) (f : RoleState → RoleState) (s : State) : gradeLaw s → gradeLaw (updateRole r f s) :=
  gradeLaw_of_same rfl rfl

theorem callExpired (r : Role) (k : CallKind) (s : State) : Shares s (callExpired r k s) := by
  unfold Machine.callExpired
  split
  · exact finish (settle (updateRole r _ s))
  · exact refl s

theorem delayExpired (r : Role) (s : State) : Shares s (delayExpired r s) := by
  unfold Machine.delayExpired
  split
  · refine finish (settleFrom (gradeLaw_of_same ?_ ?_) _)
    · unfold endDelay
      dsimp only
      split <;> rfl
    · unfold endDelay
      dsimp only
      split <;> rfl
  · exact refl s

theorem dwellExpired (r : Role) (s : State) : Shares s (dwellExpired r s) := by
  unfold Machine.dwellExpired
  split
  · exact finish (settle (updateRole r _ s))
  · exact refl s

theorem relearnExpired (s : State) : Shares s (relearnExpired s) := by
  unfold Machine.relearnExpired
  split
  · exact finish (settle (gradeLaw_of_same rfl rfl))
  · exact refl s

theorem stepExpired (s : State) : Shares s (stepExpired s) := by
  unfold Machine.stepExpired
  split
  · let q := governorStep { s with pgv := { s.pgv with step := some Config.stepTime } }
    have stepped : SameTerms s q :=
      ⟨rfl, fun _ => rfl, rfl, rfl, rfl, rfl, rfl, rfl, fun _ => ⟨rfl, rfl⟩, fun v => by cases v <;> exact ⟨rfl, rfl⟩, rfl⟩
    exact finish (same (stepped.trans (.judgeCalls q)))
  · exact refl s

/-! ## Orders and messages -/

theorem performOrder {o : Order} {reads : StartReadings} (h : SameTerms s t) : Shares s (performOrder o reads t) := by
  have entered : ∀ y : Ysu, gradeLaw s → gradeLaw (Machine.makeEntry .handOrder { t with ysu := y }) := fun y law =>
    gradeLaw_of_same (makeEntry_srk _ _) (isCurrent_makeEntry _ _ _) (h.grade law)
  cases o with
  | hand d =>
    show Shares s (orderHand d t)
    unfold orderHand
    exact settle (entered _)
  | auto =>
    show Shares s (orderAuto t)
    unfold orderAuto
    exact settle (entered _)
  | accept => exact same (h.trans (.acceptAlarms t))
  | restart => exact stationRestart reads h
  | lineReset =>
    have emptied : gradeLaw s → gradeLaw (Machine.emptyLine t) := ((h.trans (.emptyLine t))).grade
    show Shares s (orderLineReset t)
    unfold orderLineReset
    exact settle fun law => changeTable [] _ (gradeLaw_of_same (s := Machine.emptyLine t) rfl rfl (emptied law))
  | quiet =>
    refine same (h.trans ?_)
    show SameTerms t (orderQuiet t)
    unfold orderQuiet
    split <;> exact .ofYli _ t
  | talk => exact same (h.trans (.ofYli _ t))
  | accountRequest p => exact same (h.trans (.offerMessage _ t))
  | statusRequest => exact same (h.trans (.offerMessage _ t))

theorem judgeOrder (a : Address) {o : Order} {reads : StartReadings} (h : SameTerms s t) :
    Shares s (judgeOrder a o reads t) := by
  unfold Machine.judgeOrder
  split
  · split
    · exact performOrder h
    · exact same (h.trans (.ofYli _ t))
  · exact same h

theorem reportArrival (peer : Nat) (body : List Byte) (h : SameTerms s t) : Shares s (reportArrival peer body t) := by
  unfold Machine.reportArrival
  split
  · refine settle fun law => gradeLaw_of_same (s := t) (by rw [raiseWithEntry_srk]) ?_ (h.grade law)
    rw [isCurrent_raiseWithEntry]
    simp [State.isCurrent]
  · exact settle fun law => (SameTerms.peerPeriod _ _).grade (changeTable _ t (h.grade law))

theorem routeAccepted (source : Nat) (a : Address) (k : MessageKind) (body : List Byte) (reads : StartReadings)
    (h : SameTerms s t) : Shares s (routeAccepted source a k body reads t) := by
  unfold Machine.routeAccepted
  split
  · cases k with
    | report =>
      dsimp only
      split
      · exact reportArrival source body h
      · exact same h
    | order => exact same (h.trans (.ofYli _ t))
    | account => exact same h
    | status => exact same h
  · split
    · cases k with
      | order =>
        show Shares s (takeOrderBody a body reads t)
        unfold takeOrderBody
        split
        · exact judgeOrder a h
        · exact same (h.trans (.ofYli _ t))
      | report => exact same h
      | account => exact same h
      | status => exact same h
    · exact same (h.trans (.ofYli _ t))

theorem validMessage (source destination : Nat) (k : MessageKind) (body : List Byte) (reads : StartReadings)
    (h : SameTerms s t) : Shares s (validMessage source destination k body reads t) := by
  have heard : SameTerms s (lineHeard t) := h.trans (.lineHeard t)
  have routed : Shares s (routedMessage source destination k body reads t) := by
    unfold routedMessage
    split
    · exact routeAccepted source _ k body reads heard
    · exact same heard
  rw [validMessage_eq]
  split
  · exact settle routed.grade
  · exact routed

theorem frameHeard (chars : List LineChar) (reads : StartReadings) (s : State) : Shares s (frameHeard chars reads s) := by
  have placed : ∀ b, SameTerms s (setInFrame b s) := fun b => .ofYli _ s
  unfold Machine.frameHeard
  split
  · refine finish ?_
    unfold receiveFrame
    split
    · exact same (placed true)
    · exact same ((placed false).trans (.ofYli _ _))
    · exact same ((placed true).trans (.ofYli _ _))
    · unfold judgeClosed
      split
      · exact same ((placed false).trans (.ofYli _ _))
      · exact same ((placed false).trans (.ofYli _ _))
      · exact validMessage _ _ _ _ reads (placed false)
  · exact refl s

theorem loseSupply (s : State) : Shares s (loseSupply s) := by
  have torn : SameTerms s (tearWrite s) := by
    unfold tearWrite
    split
    · exact .ofRst _ s
    · exact .refl s
  exact same (torn.trans (.ofBlocks rfl rfl rfl rfl rfl rfl rfl fun _ _ => rfl))

theorem orderHanded (a : Address) (o : Order) (reads : StartReadings) (s : State) : Shares s (orderHanded a o reads s) :=
  finish (judgeOrder a (.refl s))

/-- Every command ends for duty sharing on the terms it found, or settled. -/
theorem leaves (c : Instr) {s : State} (law : stationLaw s) : Shares s (leaves c s) := by
  cases c with
  | powerOn r => exact start _ r _
  | entryToListen key => exact powered (enterListen key s)
  | listenTimerExpiry => exact powered (listenExpired s)
  | retainedWriteComplete back r => exact powered (writeDone back r s)
  | inputSample i x => exact powered (sampleInput i x s)
  | holdTimerExpiry i => exact powered (holdExpired i s)
  | meterPulse m => exact powered (countPulse m s)
  | minuteImpulse => exact powered (minuteImpulse s)
  | impulseTimerExpiry => exact powered (selfCount s)
  | absorbWindowExpiry => exact powered (same (.ofIni_same _ s rfl rfl))
  | synchronisingImpulse => exact powered (synchronise s)
  | keyPositionTaken p => exact powered (takeKey p law)
  | acceptButtonPress => exact pressButton s
  | acceptButtonHeld r => exact powered (buttonHeld r s)
  | endSwitchChange v e m => exact endSwitch v e m s
  | travelTimerExpiry v => exact powered (travelExpired v s)
  | reckoning => exact powered (reckonExpired s)
  | carrierOnLine => exact powered (same (.ofYli _ s))
  | lineIdle b => exact powered (lineFellIdle b s)
  | frameReceived chars r => exact powered (frameHeard chars r s)
  | frameCompletion => exact powered (frameDone s)
  | collision => exact powered (frameCollided s)
  | backOffTimerExpiry => exact powered (backOffExpired s)
  | blockedTimerExpiry => exact powered (blockedExpired s)
  | reportTimerExpiry => exact powered (reportExpired s)
  | staleExpiry n => exact powered (staleExpired n s)
  | removalExpiry n => exact powered (removalExpired n s)
  | clashTimerExpiry => exact powered (clashExpired s)
  | silenceTimerExpiry => exact powered (silenceExpired s)
  | callReleaseTimerExpiry r k => exact powered (callExpired r k s)
  | joinDelayExpiry r => exact powered (delayExpired r s)
  | dwellTimerExpiry r => exact powered (dwellExpired r s)
  | relearnHoldTimerExpiry => exact powered (relearnExpired s)
  | stepTimerExpiry => exact powered (stepExpired s)
  | hand a d => exact powered (orderHanded a (.hand d) noReadings s)
  | auto a => exact powered (orderHanded a .auto noReadings s)
  | accept a => exact powered (orderHanded a .accept noReadings s)
  | restart a r => exact powered (orderHanded a .restart r s)
  | lineReset a => exact powered (orderHanded a .lineReset noReadings s)
  | quiet a => exact powered (orderHanded a .quiet noReadings s)
  | talk a => exact powered (orderHanded a .talk noReadings s)
  | accountRequest a p => exact powered (orderHanded a (.accountRequest p) noReadings s)
  | statusRequest a => exact powered (orderHanded a .statusRequest noReadings s)
  | lossOfSupply => exact powered (loseSupply s)
  | acceptButtonRelease => exact same (.ofIni_same _ s rfl rfl)

/-- A millisecond moves no term. -/
theorem tick (s : State) : Shares s (tick s) := by
  refine powered (same ⟨rfl, fun _ => rfl, rfl, rfl, rfl, rfl, rfl, rfl, fun r => ?_, fun v => ?_, rfl⟩)
  · cases r <;> exact ⟨rfl, rfl⟩
  · cases v <;> exact ⟨rfl, rfl⟩

/-- So does every step. -/
theorem step {s t : State} (h : step s = .next t) (law : stationLaw s) : Shares s t := by
  rcases step_cases h with ⟨-, rfl⟩ | ⟨c, rest, -, rfl⟩
  · exact tick s
  · have rested : SameTerms s { s with pending := rest } := .ofBlocks rfl rfl rfl rfl rfl rfl rfl fun _ _ => rfl
    have shared : Shares { s with pending := rest } _ := leaves c (s := { s with pending := rest }) law
    exact ⟨shared.grade ∘ rested.grade, shared.ends.imp rested.trans id⟩

end Shares

/-! ## The statements -/

/-- Settles O56: every command ends on the terms it found, or settled on a record graded by R22. -/
theorem everyStepKeepsTheRoleLaw : Obligations.EveryStepKeepsTheRoleLaw := by
  intro s t h station grade role ability limit
  obtain ⟨grades, ends⟩ := Shares.step h station
  have gradeT := grades grade
  rcases ends with terms | settled
  · exact ⟨gradeT, terms.role role, terms.ability ability, terms.limit limit⟩
  · exact ⟨gradeT, settled.role gradeT, settled.ability, settled.limit⟩

/-- Settles O57: the commands of the table open no valve in the zones that forbid it. -/
theorem everyStepKeepsTheCommandLaw : Obligations.EveryStepKeepsTheCommandLaw := by
  intro s t h station command
  have law : commandLaw t := (Shares.step h station).ends.elim (fun terms => terms.command command) Settled.command
  obtain ⟨inlet, outlet⟩ := (commandLaw_iff t).1 law
  refine ⟨law, fun opens => ?_, fun opens => ?_⟩
  · rw [inlet, inletCommand] at opens
    split at opens
    · cases opens
    · split at opens
      · next filling =>
        obtain ⟨-, zone, known⟩ := filling
        rcases zone with zone | zone | zone <;> simp [zone, known]
      · cases opens
  · rw [outlet, outletCommand] at opens
    split at opens
    · cases opens
    · split at opens
      · next giving =>
        obtain ⟨-, zone⟩ := giving
        rcases zone with zone | zone | zone <;> simp [zone]
      · cases opens

/-- The governor's part of the mode law, between the operations and at the end of an event. -/
theorem modeLaw_iff (s : State) : openingLaw s ∧ modeLaw s ↔ governorMid s ∧ s.pgv.mode = modeTable s := by
  unfold openingLaw modeLaw governorMid
  tauto

theorem governorLaw_of_mid {s : State} (mid : governorMid s) : governorLaw s := by
  obtain ⟨le, -, released, driven, zero⟩ := mid
  unfold governorLaw
  by_cases mode : s.pgv.mode = .released
  · rw [(released mode).2]
    trivial
  · rw [driven mode]
    exact ⟨le, zero⟩

/-- A governor step in the mode of the table agrees with its output (R139). -/
theorem governorMid_stepExpired {s : State} (mid : governorMid s) (mode : s.pgv.mode = modeTable s) :
    governorMid (stepExpired s) := by
  unfold stepExpired
  split
  · next running =>
    let p : State := { s with pgv := { s.pgv with step := some Config.stepTime } }
    obtain ⟨le, step, -, -, zero⟩ := mid
    have stepped : governorMid (governorStep p) := by
      refine governorMid_governorStep (s := p) le rfl (step.1 running) zero fun governs => ?_
      exact outletOpen_of_governing (s := s) ((modeTable_eq s).symm.trans (mode.symm.trans governs))
    have ended : Keeps .reckoning (governorStep p) (finish (judgeCalls (governorStep p))) :=
      (Keeps.judgeCalls _).trans (.finish _)
    exact ended.governor (by decide) stepped
  · exact mid

/-- The governor agrees with its mode after every command (R139, R142, R145). -/
theorem governorMid_leaves {c : Instr} {s : State} (mid : governorMid s) (mode : s.pgv.mode = modeTable s) :
    governorMid (leaves c s) := by
  by_cases step : c = .stepTimerExpiry
  · subst step
    exact powered_cases (P := governorMid) mid (governorMid_stepExpired mid mode)
  · exact (Ends.leaves c s).keeps.governor step mid

/-- Settles O58: the drives and the governor by the operations, the mode as the other terms of duty sharing. -/
theorem everyStepKeepsTheDriveLaws : Obligations.EveryStepKeepsTheDriveLaws := by
  intro s t h station laws
  obtain ⟨-, opening, modes, inlet, outlet⟩ := laws
  obtain ⟨mid, table⟩ := (modeLaw_iff s).1 ⟨opening, modes⟩
  have drive : ∀ v, driveLaw (s.vdu.drive v) → driveLaw (t.vdu.drive v) := fun v =>
    step_keeps (P := fun q => driveLaw (q.vdu.drive v)) h (fun _ => id) fun ends => ends.keeps.drive v
  have tableT : t.pgv.mode = modeTable t := (Shares.step h station).ends.elim (fun terms => terms.table table) Settled.mode
  have midT : governorMid t := by
    rcases step_cases h with ⟨-, rfl⟩ | ⟨c, rest, -, rfl⟩
    · exact (Ends.tick (c := .reckoning) s).keeps.governor (by decide) mid
    · exact governorMid_leaves (s := { s with pending := rest }) mid table
  obtain ⟨openingT, modesT⟩ := (modeLaw_iff t).2 ⟨midT, tableT⟩
  exact ⟨governorLaw_of_mid midT, openingT, modesT, drive .inlet inlet, drive .outlet outlet⟩

end Sys2Proof.Machine
end

/-! The transmitter at the end of an event (R82, log 8): what it does with no REPORT due, in each of its states; and the
statements about the line's own commands, which rest on it alone. -/

section

namespace Sys2Proof.Machine

/-! ## The transmitter's moves (R82) -/

/-- The head of the queue goes into flight. -/
def Yli.began (m : Message) (rest : List Message) (y : Yli) : Yli :=
  { y with queue := rest, inFlight := some { msg := m, discard := false }, blocked := none, tx := .sending, line := .busy,
           inFrame := false }

/-- The transmitter stands: it sends, backs off, stands by with nothing to send or held, or waits for the line. -/
def txStands (s : State) : Prop :=
  s.yli.tx = .sending ∨ s.yli.tx = .backOff ∨ (s.yli.tx = .standby ∧ (s.yli.queue = [] ∨ s.yli.quiet = true)) ∨
    (s.yli.tx = .waiting ∧ (s.yli.line = .busy ∨ s.yli.queue = []))

theorem txSettle_of_stands {s : State} (stands : txStands s) : txSettle s = s := by
  have waits : standbyToWaiting s = s := by
    refine if_neg fun h => ?_
    obtain ⟨standby, queue, quiet, -⟩ := h
    rcases stands with h | h | ⟨-, h | h⟩ | ⟨h, -⟩ <;> simp_all
  have begins : s.yli.beginFrame = s.yli := by
    unfold Yli.beginFrame
    split
    · rename_i ready
      obtain ⟨waiting, idle⟩ := ready
      have empty : s.yli.queue = [] := by rcases stands with h | h | ⟨h, -⟩ | ⟨-, h | h⟩ <;> simp_all
      rw [empty]
    · rfl
  show ({ standbyToWaiting s with yli := (standbyToWaiting s).yli.beginFrame } : State) = s
  rw [waits, begins]

theorem txSettle_of_offLine {s : State} (standby : s.yli.tx = .standby) (off : s.onLine = false) : txSettle s = s := by
  have waits : standbyToWaiting s = s := if_neg fun h => by simp [off] at h
  have begins : s.yli.beginFrame = s.yli := if_neg fun h => by simp [standby] at h
  show ({ standbyToWaiting s with yli := (standbyToWaiting s).yli.beginFrame } : State) = s
  rw [waits, begins]

theorem txSettle_of_waiting_idle {s : State} {m : Message} {rest : List Message} (waiting : s.yli.tx = .waiting)
    (idle : s.yli.line = .idle) (queue : s.yli.queue = m :: rest) : txSettle s = { s with yli := s.yli.began m rest } := by
  have waits : standbyToWaiting s = s := if_neg fun h => by simp [waiting] at h
  unfold txSettle Yli.beginFrame
  simp only [waits, waiting, idle, queue, and_self, if_true]
  rfl

theorem standbyToWaiting_of_ready {s : State} (standby : s.yli.tx = .standby) (queue : s.yli.queue ≠ [])
    (talk : s.yli.quiet = false) (onLine : s.onLine = true) : standbyToWaiting s = enterWaiting s :=
  if_pos ⟨standby, queue, talk, onLine⟩

theorem txSettle_of_standby_busy {s : State} (standby : s.yli.tx = .standby) (queue : s.yli.queue ≠ [])
    (talk : s.yli.quiet = false) (onLine : s.onLine = true) (busy : s.yli.line = .busy) : txSettle s = enterWaiting s := by
  unfold txSettle Yli.beginFrame
  rw [standbyToWaiting_of_ready standby queue talk onLine]
  simp [enterWaiting, busy]

theorem txSettle_of_standby_idle {s : State} {m : Message} {rest : List Message} (standby : s.yli.tx = .standby)
    (idle : s.yli.line = .idle) (queue : s.yli.queue = m :: rest) (talk : s.yli.quiet = false) (onLine : s.onLine = true) :
    txSettle s = { s with yli := s.yli.began m rest } := by
  unfold txSettle Yli.beginFrame
  rw [standbyToWaiting_of_ready standby (by simp [queue]) talk onLine]
  simp only [enterWaiting, idle, queue, and_self, if_true]
  rfl

/-- The transmitter's move is one of three: none, to WAITING on a BUSY line, or the head of the queue into flight. -/
theorem txSettle_cases (s : State) : txSettle s = s ∨
    (txSettle s = enterWaiting s ∧ s.yli.tx = .standby ∧ s.yli.line = .busy ∧ s.yli.quiet = false) ∨
    (∃ m rest, s.yli.queue = m :: rest ∧ s.yli.line = .idle ∧
      (s.yli.tx = .waiting ∨ (s.yli.tx = .standby ∧ s.yli.quiet = false)) ∧
      txSettle s = { s with yli := s.yli.began m rest }) := by
  cases tx : s.yli.tx with
  | sending => exact .inl (txSettle_of_stands (.inl tx))
  | backOff => exact .inl (txSettle_of_stands (.inr (.inl tx)))
  | waiting =>
    cases line : s.yli.line with
    | busy => exact .inl (txSettle_of_stands (.inr (.inr (.inr ⟨tx, .inl line⟩))))
    | idle =>
      cases queue : s.yli.queue with
      | nil => exact .inl (txSettle_of_stands (.inr (.inr (.inr ⟨tx, .inr queue⟩))))
      | cons m rest => exact .inr (.inr ⟨m, rest, rfl, rfl, .inl rfl, txSettle_of_waiting_idle tx line queue⟩)
  | standby =>
    cases quiet : s.yli.quiet with
    | true => exact .inl (txSettle_of_stands (.inr (.inr (.inl ⟨tx, .inr quiet⟩))))
    | false =>
      cases onLine : s.onLine with
      | false => exact .inl (txSettle_of_offLine tx onLine)
      | true =>
        cases queue : s.yli.queue with
        | nil => exact .inl (txSettle_of_stands (.inr (.inr (.inl ⟨tx, .inl queue⟩))))
        | cons m rest =>
          cases line : s.yli.line with
          | busy => exact .inr (.inl ⟨txSettle_of_standby_busy tx (by simp [queue]) quiet onLine line, rfl, rfl, rfl⟩)
          | idle => exact .inr (.inr ⟨m, rest, rfl, rfl, .inr ⟨rfl, rfl⟩,
              txSettle_of_standby_idle tx line queue quiet onLine⟩)

/-- Where nothing begins, the queue, the message in flight, the line and the receiver stand. -/
theorem txSettle_of_nothingBegins {s : State} (nothing : nothingBegins s) : (txSettle s).yli.queue = s.yli.queue ∧
    (txSettle s).yli.inFlight = s.yli.inFlight ∧ (txSettle s).yli.line = s.yli.line ∧
    (txSettle s).yli.inFrame = s.yli.inFrame := by
  rcases txSettle_cases s with still | ⟨waits, -⟩ | ⟨m, rest, -, idle, ready, -⟩
  · rw [still]; exact ⟨rfl, rfl, rfl, rfl⟩
  · rw [waits]; exact ⟨rfl, rfl, rfl, rfl⟩
  · rcases nothing with h | h | h | ⟨h, quiet⟩ <;> simp_all

/-! ## The end of an event (log 8) -/

/-- A due REPORT offered, and no longer due. -/
def flushed (s : State) : State :=
  { flushReport s with yli := { (flushReport s).yli with reportDue := false } }

theorem finish_eq (s : State) : finish s = txSettle (flushed s) := rfl

theorem flushed_of_notDue {s : State} (notDue : s.yli.reportDue = false) : flushed s = s := by
  have flush : flushReport s = s := if_neg (by simp [notDue])
  unfold flushed
  rw [flush, ← notDue]

theorem finish_of_notDue {s : State} (notDue : s.yli.reportDue = false) : finish s = txSettle s := by
  rw [finish_eq, flushed_of_notDue notDue]

theorem finish_of_stands {s : State} (notDue : s.yli.reportDue = false) (stands : txStands s) : finish s = s :=
  (finish_of_notDue notDue).trans (txSettle_of_stands stands)

/-- Offering the REPORT moves the queue alone, and leaves none empty that was not. -/
theorem flushed_frame (s : State) :
    flushed s = { s with yli := { s.yli with queue := (flushed s).yli.queue, reportDue := false } } ∧
      (s.yli.queue ≠ [] → (flushed s).yli.queue ≠ []) := by
  unfold flushed flushReport
  split
  · obtain ⟨frame, filled⟩ := offerReport_frame (reportBody s) s.yli
    refine ⟨?_, fun _ => filled⟩
    rw [frame]
  · exact ⟨rfl, id⟩

theorem txStands_flushed {s : State} (stands : s.yli.tx = .sending ∨ s.yli.tx = .backOff ∨
    (s.yli.tx = .standby ∧ s.yli.quiet = true) ∨ (s.yli.tx = .waiting ∧ s.yli.line = .busy)) : finish s = flushed s := by
  rw [finish_eq]
  apply txSettle_of_stands
  rw [(flushed_frame s).1]
  rcases stands with h | h | ⟨h, quiet⟩ | ⟨h, busy⟩
  · exact .inl h
  · exact .inr (.inl h)
  · exact .inr (.inr (.inl ⟨h, .inr quiet⟩))
  · exact .inr (.inr (.inr ⟨h, .inl busy⟩))

/-- An event that leaves the line's law standing ends with no move of the transmitter. -/
theorem finish_of_lineLaw {s : State} (law : lineLaw s) : finish s = s := by
  obtain ⟨notDue, -, waiting, standby⟩ := law
  refine finish_of_stands notDue ?_
  cases tx : s.yli.tx with
  | sending => exact .inl tx
  | backOff => exact .inr (.inl tx)
  | waiting => exact .inr (.inr (.inr ⟨tx, .inl (waiting tx).1⟩))
  | standby => exact .inr (.inr (.inl ⟨tx, standby tx⟩))

theorem finish_of_nothingBegins {s : State} (notDue : s.yli.reportDue = false) (nothing : nothingBegins s) :
    (finish s).yli.queue = s.yli.queue ∧ (finish s).yli.inFlight = s.yli.inFlight := by
  rw [finish_of_notDue notDue]
  obtain ⟨queue, flight, -, -⟩ := txSettle_of_nothingBegins nothing
  exact ⟨queue, flight⟩

/-- On a BUSY line the receiver stands; and outside a frame it is left there. -/
theorem finish_inFrame (s : State) : (s.yli.line = .busy → (finish s).yli.inFrame = s.yli.inFrame) ∧
    (s.yli.inFrame = false → (finish s).yli.inFrame = false) := by
  have flush := (flushed_frame s).1
  rw [finish_eq]
  rcases txSettle_cases (flushed s) with still | ⟨waits, -⟩ | ⟨m, rest, -, idle, -, began⟩
  · rw [still, flush]; exact ⟨fun _ => rfl, id⟩
  · rw [waits, flush]; exact ⟨fun _ => rfl, id⟩
  · rw [began]
    refine ⟨fun busy => ?_, fun _ => rfl⟩
    rw [flush] at idle
    exact absurd (busy.symm.trans idle) (by decide)

/-! ## The end of a frame sent (R83 to R85) -/

theorem afterFrame_frame (s : State) : afterFrame s = { s with yli := { s.yli with
    tx := (afterFrame s).yli.tx, blocked := (afterFrame s).yli.blocked } } := by
  unfold afterFrame; split <;> rfl

theorem afterFrame_of_more {s : State} (queue : s.yli.queue ≠ []) (talk : s.yli.quiet = false) :
    afterFrame s = enterWaiting s := if_pos ⟨queue, talk⟩

theorem afterFrame_of_none {s : State} (none : s.yli.queue = [] ∨ s.yli.quiet = true) :
    afterFrame s = { s with yli := { s.yli with tx := .standby, blocked := Option.none } } :=
  if_neg fun ⟨queue, talk⟩ => by rcases none with h | h <;> simp_all

/-- After a frame on a BUSY line the transmitter stands as R83 leaves it. -/
theorem finish_afterFrame_of_busy {s : State} (notDue : s.yli.reportDue = false) (busy : s.yli.line = .busy) :
    finish (afterFrame s) = afterFrame s := by
  by_cases more : s.yli.queue ≠ [] ∧ s.yli.quiet = false
  · rw [afterFrame_of_more more.1 more.2]
    exact finish_of_stands notDue (.inr (.inr (.inr ⟨rfl, .inl busy⟩)))
  · have none : s.yli.queue = [] ∨ s.yli.quiet = true := by
      rw [not_and_or, not_not, Bool.not_eq_false] at more
      exact more
    rw [afterFrame_of_none none]
    exact finish_of_stands notDue (.inr (.inr (.inl ⟨rfl, none⟩)))

/-! ## The line's commands -/

/-- BAD FRAME counted for a frame in hand where frames are judged (R76). -/
def badFramesAt (b : Bool) (s : State) : Nat :=
  if (s.yli.inFrame = true ∨ b = true) ∧ s.onLine = true then min (s.yli.counters.badFrame + 1) 65535
  else s.yli.counters.badFrame

/-- The line fallen idle, outside a frame (R74). -/
def fallen (b : Bool) (s : State) : State :=
  { s with yli := { s.yli with
      line := .idle, inFrame := false, counters := { s.yli.counters with badFrame := badFramesAt b s } } }

theorem exec_lineIdle {s : State} (supply : s.supply = true) (silent : s.yli.tx ≠ .sending) (b : Bool) :
    exec (.lineIdle b) s = .next (finish (fallen b s)) := by
  show Host.Outcome.next _ = _
  rw [powered_of_supply supply, lineFellIdle, if_neg silent, fallen, badFramesAt]
  by_cases h : (s.yli.inFrame = true ∨ b = true) ∧ s.onLine = true
  · rw [if_pos (by simpa using h), if_pos h]; rfl
  · rw [if_neg (by simpa using h), if_neg h]

/-- A waiting transmitter begins as the line falls idle; else the line stands IDLE (R74, R82). -/
theorem finish_of_idle {s : State} (idle : s.yli.line = .idle) (silent : s.yli.tx ≠ .sending) :
    ((finish s).yli.tx = .sending → (finish s).yli.line = .busy) ∧
      ((finish s).yli.tx ≠ .sending → (finish s).yli.line = .idle) ∧
      (s.yli.tx = .waiting → s.yli.queue ≠ [] → (finish s).yli.tx = .sending ∧ (finish s).yli.blocked = none) := by
  obtain ⟨flush, filled⟩ := flushed_frame s
  have tx : (flushed s).yli.tx = s.yli.tx := by rw [flush]
  have line : (flushed s).yli.line = .idle := by rw [flush]; exact idle
  rw [finish_eq]
  rcases txSettle_cases (flushed s) with still | ⟨-, -, busy, -⟩ | ⟨m, rest, -, -, -, began⟩
  · refine ⟨fun sends => absurd (by rw [← tx, ← still]; exact sends) silent, fun _ => by rw [still, line],
      fun waiting queue => ?_⟩
    obtain ⟨m, rest, head⟩ := List.exists_cons_of_ne_nil (filled queue)
    rw [txSettle_of_waiting_idle (tx.trans waiting) line head]
    exact ⟨rfl, rfl⟩
  · exact absurd (line.symm.trans busy) (by decide)
  · rw [began]
    exact ⟨fun _ => rfl, fun other => absurd rfl other, fun _ _ => ⟨rfl, rfl⟩⟩

/-- Settles O33. -/
theorem carrierAndIdleMoveTheLine : Obligations.CarrierAndIdleMoveTheLine := by
  refine ⟨fun s supply => ⟨_, congrArg Host.Outcome.next (powered_of_supply supply _), rfl⟩, fun b s supply silent => ?_,
    fun b s supply sends => ?_⟩
  · rw [exec_lineIdle supply silent]
    obtain ⟨sends, idle, begins⟩ := finish_of_idle (s := fallen b s) rfl silent
    exact ⟨_, rfl, finish_frame _, (finish_inFrame _).2 rfl, sends, idle, begins, finish_yli_counters _,
      finish_yli_quiet _, finish_yli_attempt _⟩
  · show Host.Outcome.next _ = _
    rw [powered_of_supply supply, lineFellIdle, if_pos sends]

/-- Settles O34. -/
theorem completionFreesTheTransmitter : Obligations.CompletionFreesTheTransmitter := by
  intro s f supply sends flight busy notDue
  let q := cease .txBlocked { s with yli := { s.yli with inFlight := none, attempt := 0 } }
  have done : exec .frameCompletion s = .next (afterFrame q) := by
    show Host.Outcome.next _ = _
    rw [powered_of_supply supply, frameDone, if_pos sends, completeFrame, flight]
    exact congrArg _ (finish_afterFrame_of_busy notDue busy)
  have free : q.isCurrent .txBlocked = false := by simp [q, isCurrent_cease]
  have frame := afterFrame_frame q
  refine ⟨_, done, by rw [frame]; rfl, by rw [frame]; rfl, ?_, by rw [frame]; rfl, by rw [frame]; rfl, by rw [frame]; rfl,
    fun queue talk => ?_, fun none => ?_, by rw [frame]; rfl⟩
  · rw [State.isCurrent, frame]; exact free
  · rw [afterFrame_of_more (s := q) queue talk]
    exact ⟨rfl, by simp [enterWaiting, blockedStart, free, Config.blockedTime]⟩
  · rw [afterFrame_of_none (s := q) none]
    exact ⟨rfl, rfl⟩

/-- The end of a collision on a BUSY line, by the three ways R84, R85 and R91 give it. -/
theorem exec_collision {s : State} {f : InFlight} (supply : s.supply = true) (sends : s.yli.tx = .sending)
    (flight : s.yli.inFlight = some f) (busy : s.yli.line = .busy) (notDue : s.yli.reportDue = false) :
    exec .collision s = .next (collide s) := by
  show Host.Outcome.next _ = _
  rw [powered_of_supply supply, frameCollided, if_pos sends]
  refine congrArg _ ?_
  simp only [collide, flight]
  split
  · exact finish_afterFrame_of_busy notDue busy
  · split
    · exact finish_afterFrame_of_busy notDue busy
    · exact finish_of_stands notDue (.inr (.inl rfl))

/-- Settles O35. -/
theorem collisionBacksOffOrDrops : Obligations.CollisionBacksOffOrDrops := by
  intro s f supply sends flight busy notDue
  refine ⟨_, exec_collision supply sends flight busy notDue, ?_⟩
  have freed : ∀ y : Yli, y.queue = s.yli.queue → y.quiet = s.yli.quiet →
      (s.yli.queue ≠ [] → s.yli.quiet = false → (afterFrame { s with yli := y }).yli.tx = .waiting) ∧
      (s.yli.queue = [] ∨ s.yli.quiet = true → (afterFrame { s with yli := y }).yli.tx = .standby) := by
    rintro y queue quiet
    rw [← queue, ← quiet]
    refine ⟨fun more talk => ?_, fun none => ?_⟩
    · rw [afterFrame_of_more (s := { s with yli := y }) more talk]; rfl
    · rw [afterFrame_of_none (s := { s with yli := y }) none]
  simp only [collide, flight]
  cases discard : f.discard with
  | true =>
    simp only [if_true]
    refine ⟨by rw [afterFrame_frame], by rw [afterFrame_frame], by rw [afterFrame_frame]; rfl, by simp, by simp,
      fun _ => by rw [afterFrame_frame]; exact ⟨rfl, rfl, rfl⟩, fun _ => freed _ rfl rfl⟩
  | false =>
    by_cases last : 8 ≤ s.yli.attempt + 1
    · rw [if_neg Bool.false_ne_true, if_pos (show Config.maxAttempts ≤ s.yli.attempt + 1 from last)]
      refine ⟨by rw [afterFrame_frame], by rw [afterFrame_frame], by rw [afterFrame_frame]; rfl, by omega,
        fun _ _ => by rw [afterFrame_frame]; exact ⟨rfl, rfl, rfl⟩, by simp, fun _ => freed _ rfl rfl⟩
    · rw [if_neg Bool.false_ne_true, if_neg (show ¬ Config.maxAttempts ≤ s.yli.attempt + 1 from last)]
      refine ⟨rfl, rfl, rfl, fun _ _ => ⟨rfl, rfl, rfl, rfl, fun plain => ?_, fun report newer => ?_⟩, by omega, by simp,
        by simp [last]⟩
      · refine if_neg ?_
        rcases plain with h | h
        · simp [h]
        · simp [show s.yli.queue.any Message.isReport = false from h]
      · refine if_pos ?_
        simp [report, show s.yli.queue.any Message.isReport = true from newer]

/-- Settles O36. -/
theorem backOffAndBlockedExpire : Obligations.BackOffAndBlockedExpire := by
  refine ⟨fun s supply backing running notDue => ?_, fun s supply waiting running busy => ?_⟩
  · let q : State := { s with yli := { s.yli with backOff := none } }
    have done : exec .backOffTimerExpiry s = .next (finish (afterFrame q)) := by
      show Host.Outcome.next _ = _
      rw [powered_of_supply supply, backOffExpired, if_pos ⟨backing, running⟩]
    have frame := finish_frame (afterFrame q)
    refine ⟨_, done, ?_, ?_, ?_, fun queue talk line => ?_, fun queue talk line => ?_, fun quiet => ?_⟩
    · rw [frame, afterFrame_frame q]
    · rw [finish_yli_backOff, afterFrame_frame q]
    · rw [finish_yli_attempt, afterFrame_frame q]
    · rw [finish_afterFrame_of_busy (s := q) notDue line, afterFrame_of_more (s := q) queue talk]
      exact ⟨rfl, rfl, rfl⟩
    · obtain ⟨m, rest, head⟩ := List.exists_cons_of_ne_nil queue
      rw [afterFrame_of_more (s := q) queue talk, finish_of_notDue (s := enterWaiting q) notDue,
        txSettle_of_waiting_idle (s := enterWaiting q) rfl line head, head]
      exact ⟨rfl, rfl, rfl⟩
    · have stands : finish (afterFrame q) = afterFrame q := by
        rw [afterFrame_of_none (s := q) (.inr quiet)]
        exact finish_of_stands notDue (.inr (.inr (.inl ⟨rfl, .inr quiet⟩)))
      rw [stands, afterFrame_of_none (s := q) (.inr quiet)]
      exact ⟨rfl, rfl⟩
  · let q : State := { s with yli := { s.yli with blocked := none } }
    have done : exec .blockedTimerExpiry s = .next (finish (raise .txBlocked q)) := by
      show Host.Outcome.next _ = _
      rw [powered_of_supply supply, blockedExpired, if_pos ⟨waiting, running⟩]
    have raised : raise .txBlocked q = { q with oau := (raise .txBlocked q).oau, yli := (raise .txBlocked q).yli } := by
      apply State.eq_of_fields <;> simp
    have line : (raise .txBlocked q).yli.tx = .waiting ∧ (raise .txBlocked q).yli.line = .busy ∧
        (raise .txBlocked q).yli.blocked = none := by
      unfold raise latch trigger
      split
      · exact ⟨waiting, busy, rfl⟩
      · split
        · exact ⟨waiting, busy, rfl⟩
        · split <;> exact ⟨waiting, busy, rfl⟩
    have stands : finish (raise .txBlocked q) = flushed (raise .txBlocked q) :=
      txStands_flushed (.inr (.inr (.inr ⟨line.1, line.2.1⟩)))
    have flush := (flushed_frame (raise .txBlocked q)).1
    have current : ∀ k, (finish (raise .txBlocked q)).isCurrent k = (s.isCurrent k || decide (k = .txBlocked)) := fun k => by
      rw [State.isCurrent, finish_oau]
      exact isCurrent_raise _ _ q
    refine ⟨_, done, by simp [current], ?_, ?_, fun k other => by simp [current, other], ?_⟩
    · rw [stands, flush]; exact line.1
    · rw [stands, flush]; exact line.2.2
    · rw [finish_frame (raise .txBlocked q), raised]

end Sys2Proof.Machine

end

/-! Orders and frames at the line (R76, R77, R87, R173), the store's writes (R184), and the clock's own impulses
(R36, R37, R161). -/

section

namespace Sys2Proof.Machine

/-! ## Orders handed to the order and alarm unit (R173) -/

/-- The row of an order is the order handed on, and the end of the event (log 2). -/
theorem exec_orderRow {s : State} (supply : s.supply = true) (a : Address) (o : Order) (r : StartReadings) :
    exec (orderRow a o r) s = .next (finish (judgeOrder a o r s)) := by
  cases o <;> exact congrArg Host.Outcome.next (powered_of_supply supply _)

theorem judgeOrder_of_taken {s : State} {a : Address} {o : Order} (onLine : s.onLine = true)
    (taken : orderTaken s a o = true) (r : StartReadings) : judgeOrder a o r s = performOrder o r s := by
  rw [judgeOrder, if_pos onLine, if_pos taken]

theorem judgeOrder_of_refused {s : State} {a : Address} {o : Order} (onLine : s.onLine = true)
    (refused : orderTaken s a o = false) (r : StartReadings) : judgeOrder a o r s = refuseOrder s := by
  rw [judgeOrder, if_pos onLine, if_neg (by simp [refused])]

theorem orderTaken_own {s : State} (working : s.working = true) (o : Order) : orderTaken s .own o = true := by
  simp [orderTaken, working]

/-- An order to the own number in LISTEN or RUN acts (R173). -/
theorem exec_ownOrder {s : State} (supply : s.supply = true) (working : s.working = true) (o : Order) (r : StartReadings) :
    exec (orderRow .own o r) s = .next (finish (performOrder o r s)) := by
  rw [exec_orderRow supply, judgeOrder_of_taken (onLine_of_working working) (orderTaken_own working o)]

/-! ## QUIET and TALK (R87) -/

theorem orderQuiet_frame (s : State) : orderQuiet s = { s with yli := { s.yli with
    quiet := true, tx := (orderQuiet s).yli.tx, blocked := (orderQuiet s).yli.blocked } } := by
  unfold orderQuiet; split <;> rfl

/-- Under QUIET the transmitter stands by, or ends what it does (R87). -/
theorem orderQuiet_tx (s : State) :
    (s.yli.tx = .standby ∨ s.yli.tx = .waiting → (orderQuiet s).yli.tx = .standby ∧ (orderQuiet s).yli.blocked = none) ∧
      (s.yli.tx = .sending ∨ s.yli.tx = .backOff → (orderQuiet s).yli.tx = s.yli.tx) := by
  unfold orderQuiet
  split
  · exact ⟨fun _ => ⟨rfl, rfl⟩, fun h => by rename_i w; rcases h with h | h <;> simp_all⟩
  · exact ⟨fun h => absurd h ‹_›, fun _ => rfl⟩

theorem finish_orderQuiet (s : State) : finish (orderQuiet s) = flushed (orderQuiet s) := by
  obtain ⟨idle, busy⟩ := orderQuiet_tx s
  refine txStands_flushed ?_
  cases tx : s.yli.tx with
  | sending => exact .inl ((busy (.inl tx)).trans tx)
  | backOff => exact .inr (.inl ((busy (.inr tx)).trans tx))
  | standby => exact .inr (.inr (.inl ⟨(idle (.inl tx)).1, by rw [orderQuiet_frame]⟩))
  | waiting => exact .inr (.inr (.inl ⟨(idle (.inr tx)).1, by rw [orderQuiet_frame]⟩))

/-- What QUIET leaves at the event's end: only the queue takes a due REPORT. -/
theorem finish_orderQuiet_yli (s : State) : (finish (orderQuiet s)).yli =
    { s.yli with quiet := true, tx := (orderQuiet s).yli.tx, blocked := (orderQuiet s).yli.blocked, reportDue := false,
                 queue := (flushed (orderQuiet s)).yli.queue } := by
  rw [finish_orderQuiet]
  conv_lhs => rw [(flushed_frame (orderQuiet s)).1, orderQuiet_frame]
  rw [orderQuiet_frame]

/-- Settles O50. -/
theorem quietAndTalkGateTheTransmitter : Obligations.QuietAndTalkGateTheTransmitter := by
  refine ⟨fun s supply working => ?_, fun s supply working notDue => ?_⟩
  · have done : exec (.quiet .own) s = .next (finish (orderQuiet s)) := exec_ownOrder supply working .quiet noReadings
    have yli := finish_orderQuiet_yli s
    obtain ⟨idle, busy⟩ := orderQuiet_tx s
    refine ⟨_, done, by rw [yli], fun h => ?_, fun h => ?_, fun notDue => ?_, by rw [yli], by rw [yli], ?_⟩
    · rw [yli]; exact idle h
    · rw [yli]; exact ⟨busy h, rfl⟩
    · have still : flushed (orderQuiet s) = orderQuiet s := flushed_of_notDue (by rw [orderQuiet_frame]; exact notDue)
      rw [yli, still, orderQuiet_frame]
    · rw [finish_frame (orderQuiet s), orderQuiet_frame s]
  · have done : exec (.talk .own) s = .next (finish (orderTalk s)) := exec_ownOrder supply working .talk noReadings
    have settles : finish (orderTalk s) = txSettle (orderTalk s) := finish_of_notDue notDue
    have onLine : (orderTalk s).onLine = true := onLine_of_working working
    refine ⟨_, done, finish_yli_quiet _, fun tx queue busy => ?_, fun tx idle m rest queue => ?_, fun still => ?_,
      fun tx queue => ?_, finish_yli_counters _, finish_frame (orderTalk s)⟩
    · rw [settles, txSettle_of_standby_busy (s := orderTalk s) tx queue rfl onLine busy]
      exact ⟨rfl, rfl, rfl⟩
    · rw [settles, txSettle_of_standby_idle (s := orderTalk s) tx idle queue rfl onLine]
      exact ⟨rfl, rfl, rfl⟩
    · refine finish_of_nothingBegins (s := orderTalk s) notDue ?_
      rcases still with h | h | h
      · exact .inl h
      · exact .inr (.inl h)
      · exact .inr (.inr (.inl h))
    · rw [settles, txSettle_of_stands (s := orderTalk s) (.inr (.inr (.inl ⟨tx, .inl queue⟩)))]
      exact tx

/-! ## Orders refused (R173) -/

/-- The order of a row that R173 refuses to all, or in FAULT. -/
theorem refused_row {s : State} {c : Instr} {r : StartReadings} {d : Duty} {p : Nat}
    (h : c ∈ [Instr.hand .all d, .auto .all, .restart .all r, .quiet .all, .talk .all, .accountRequest .all p,
          .statusRequest .all] ∨
      (s.station = .fault ∧ c ∈ [Instr.hand .own d, .auto .own, .accept .own, .accept .all, .lineReset .own,
          .lineReset .all, .quiet .own, .talk .own, .accountRequest .own p])) :
    ∃ a o, c = orderRow a o r ∧ orderTaken s a o = false := by
  rcases h with all | ⟨fault, own⟩
  · simp only [List.mem_cons, List.not_mem_nil, or_false] at all
    rcases all with rfl | rfl | rfl | rfl | rfl | rfl | rfl
    · exact ⟨.all, .hand d, rfl, by simp [orderTaken]⟩
    · exact ⟨.all, .auto, rfl, by simp [orderTaken]⟩
    · exact ⟨.all, .restart, rfl, by simp [orderTaken]⟩
    · exact ⟨.all, .quiet, rfl, by simp [orderTaken]⟩
    · exact ⟨.all, .talk, rfl, by simp [orderTaken]⟩
    · exact ⟨.all, .accountRequest p, rfl, by simp [orderTaken]⟩
    · exact ⟨.all, .statusRequest, rfl, by simp [orderTaken]⟩
  · have stopped : s.working = false := by simp [State.working, fault]
    simp only [List.mem_cons, List.not_mem_nil, or_false] at own
    rcases own with rfl | rfl | rfl | rfl | rfl | rfl | rfl | rfl | rfl
    · exact ⟨.own, .hand d, rfl, by simp [orderTaken, stopped]⟩
    · exact ⟨.own, .auto, rfl, by simp [orderTaken, stopped]⟩
    · exact ⟨.own, .accept, rfl, by simp [orderTaken, stopped]⟩
    · exact ⟨.all, .accept, rfl, by simp [orderTaken, stopped]⟩
    · exact ⟨.own, .lineReset, rfl, by simp [orderTaken, stopped]⟩
    · exact ⟨.all, .lineReset, rfl, by simp [orderTaken, stopped]⟩
    · exact ⟨.own, .quiet, rfl, by simp [orderTaken, stopped]⟩
    · exact ⟨.own, .talk, rfl, by simp [orderTaken, stopped]⟩
    · exact ⟨.own, .accountRequest p, rfl, by simp [orderTaken, stopped]⟩

/-- Settles O52. -/
theorem refusedOrdersAreCounted : Obligations.RefusedOrdersAreCounted := by
  intro s c r d p supply onLine h
  obtain ⟨a, o, rfl, refused⟩ := refused_row h
  refine ⟨_, exec_orderRow supply a o r, ?_⟩
  rw [judgeOrder_of_refused onLine refused]
  exact ⟨finish_frame (refuseOrder s), finish_yli_quiet _, finish_yli_counters _,
    fun notDue nothing => finish_of_nothingBegins (s := refuseOrder s) notDue nothing,
    fun law _ => by rw [finish_of_lineLaw (s := refuseOrder s) law]; rfl⟩

/-! ## Frames that are only counted (R76, R77) -/

/-- The receiver in a frame or not, with its counters. -/
def received (inFrame : Bool) (c : LineCounters) (s : State) : State :=
  { s with yli := { s.yli with inFrame := inFrame, counters := c } }

/-- What a frame that is only counted leaves at the event's end. -/
theorem finish_received (b : Bool) (c : LineCounters) (s : State) :
    lineFrame s (finish (received b c s)) ∧ (finish (received b c s)).yli.counters = c ∧
      (b = false → (finish (received b c s)).yli.inFrame = false) ∧
      (s.yli.line = .busy → (finish (received b c s)).yli.inFrame = b) ∧
      (lineLaw s → finish (received b c s) = { s with yli := { s.yli with
        inFrame := (finish (received b c s)).yli.inFrame, counters := (finish (received b c s)).yli.counters } }) := by
  obtain ⟨busy, outside⟩ := finish_inFrame (received b c s)
  refine ⟨finish_frame (received b c s), finish_yli_counters _, outside, busy, fun law => ?_⟩
  rw [finish_of_lineLaw (s := received b c s) law]
  rfl

theorem exec_frameReceived {s : State} (supply : s.supply = true) (onLine : s.onLine = true)
    (silent : s.yli.tx ≠ .sending) (chars : List LineChar) (r : StartReadings) :
    exec (.frameReceived chars r) s = .next (finish (receiveFrame chars r s)) := by
  show Host.Outcome.next _ = _
  rw [powered_of_supply supply, frameHeard, if_pos ⟨onLine, silent⟩]

/-- Settles O39. -/
theorem endedFramesAreCountedOnce : Obligations.EndedFramesAreCountedOnce := by
  intro chars r s supply onLine silent
  refine ⟨_, exec_frameReceived supply onLine silent chars r, ?_⟩
  rcases gathered : gather chars with ⟨data, bad, ending⟩
  let c := s.yli.counters
  have only : ∀ b n, receiveFrame chars r s = received b n s →
      lineFrame s (finish (receiveFrame chars r s)) ∧ (finish (receiveFrame chars r s)).yli.counters = n ∧
      (b = false → (finish (receiveFrame chars r s)).yli.inFrame = false) ∧
      (s.yli.line = .busy → (finish (receiveFrame chars r s)).yli.inFrame = b) ∧
      (lineLaw s → finish (receiveFrame chars r s) = { s with yli := { s.yli with
        inFrame := (finish (receiveFrame chars r s)).yli.inFrame,
        counters := (finish (receiveFrame chars r s)).yli.counters } }) := by
    rintro b n h
    rw [h]
    exact finish_received b n s
  cases ending with
  | none =>
    obtain ⟨frame, counters, -, busy, law⟩ := only true c (by simp only [receiveFrame, gathered]; rfl)
    simp only [reduceCtorEq, false_implies, true_implies, ne_eq, not_false_eq_true, true_or, true_and]
    exact ⟨⟨frame, busy, counters⟩, fun h _ => law h⟩
  | some e =>
    cases e with
    | abort =>
      obtain ⟨frame, counters, outside, -, law⟩ := only false { c with aborted := min (c.aborted + 1) 65535 }
        (by simp only [receiveFrame, gathered]; rfl)
      simp only [reduceCtorEq, false_implies, true_implies, ne_eq, not_false_eq_true, true_or, true_and,
        Option.some.injEq]
      exact ⟨⟨frame, outside rfl, counters⟩, fun h _ => law h⟩
    | opened =>
      obtain ⟨frame, counters, -, busy, law⟩ := only true { c with badFrame := min (c.badFrame + 1) 65535 }
        (by simp only [receiveFrame, gathered]; rfl)
      simp only [reduceCtorEq, false_implies, true_implies, ne_eq, not_false_eq_true, true_or, true_and,
        Option.some.injEq]
      exact ⟨⟨frame, busy, counters⟩, fun h _ => law h⟩
    | close =>
      simp only [reduceCtorEq, false_implies, true_implies, ne_eq, not_true_eq_false, false_or, true_and,
        Option.some.injEq]
      cases judged : judgeFrame false bad data with
      | badFrame =>
        obtain ⟨frame, counters, outside, -, law⟩ := only false { c with badFrame := min (c.badFrame + 1) 65535 }
          (by simp only [receiveFrame, gathered, judgeClosed, judged]; rfl)
        exact ⟨fun _ => ⟨frame, outside rfl, counters⟩, fun h => (by cases h), fun _ h _ => law h⟩
      | checkFail =>
        obtain ⟨frame, counters, outside, -, law⟩ := only false { c with checkFail := min (c.checkFail + 1) 65535 }
          (by simp only [receiveFrame, gathered, judgeClosed, judged]; rfl)
        exact ⟨fun h => (by cases h), fun _ => ⟨frame, outside rfl, counters⟩, fun _ h _ => law h⟩
      | valid source destination k body =>
        exact ⟨fun h => (by cases h), fun h => (by cases h), fun h => by rcases h with h | h <;> cases h⟩

/-! ## The retained store's writes (R184) -/

theorem setHalf_half (r : Rst) (h : HalfId) (x : Option StoreHalf) : (r.setHalf h x).half h = x := by cases h <;> rfl

theorem setHalf_other (r : Rst) (h : HalfId) (x : Option StoreHalf) : (r.setHalf h x).half h.other = r.half h.other := by
  cases h <;> rfl

theorem setHalf_frame (r : Rst) (h : HalfId) (x : Option StoreHalf) :
    (r.setHalf h x).newest = r.newest ∧ (r.setHalf h x).again = r.again ∧
      (r.setHalf h x).restartDue = r.restartDue ∧ (r.setHalf h x).writing = r.writing := by cases h <;> exact ⟨rfl, rfl, rfl, rfl⟩

/-- A write read back as written, with no restart waiting. -/
theorem exec_writeKept {s : State} {w : StoreWrite} (supply : s.supply = true) (writing : s.rst.writing = some w)
    (stays : s.rst.restartDue = false) (r : StartReadings) :
    exec (.retainedWriteComplete .asWritten r) s = .next (finish (writeAgain (writeKept w s))) := by
  show Host.Outcome.next _ = _
  rw [powered_of_supply supply, writeDone]
  simp only [writing, stays, Bool.false_eq_true, if_false]

/-- The half written, the other half and the newer copy, however the rest of the store is set. -/
theorem writeKept_halves (w : StoreWrite) (s : State) : (writeKept w s).rst.half w.half = some w.image ∧
    (writeKept w s).rst.half w.half.other = s.rst.half w.half.other ∧ (writeKept w s).rst.newest = w.half ∧
    (writeKept w s).rst.writing = none ∧ (writeKept w s).rst.again = s.rst.again := by
  unfold writeKept
  cases w.half <;> exact ⟨rfl, rfl, rfl, rfl, rfl⟩

/-- Settles O11. -/
theorem writeKeepsOneCopy : Obligations.WriteKeepsOneCopy := by
  refine ⟨fun r s w supply writing stays once => ?_, fun r s w supply working writing stays again => ?_,
    fun s supply => ?_⟩
  · obtain ⟨written, other, newest, free, more⟩ := writeKept_halves w s
    have last : writeAgain (writeKept w s) = writeKept w s := if_neg (by simp [more, once])
    refine ⟨_, exec_writeKept supply writing stays r, ?_⟩
    rw [last, finish_rst]
    exact ⟨written, other, newest, free, finish_frame (writeKept w s)⟩
  · obtain ⟨written, other, newest, free, more⟩ := writeKept_halves w s
    let q : State := { writeKept w s with rst := { (writeKept w s).rst with again := false } }
    let next : StoreWrite := { half := w.half.other, image := StoreHalf.make (retainedContents s) (nextWriteCount w.image.writeCount) }
    have begins : writeAgain (writeKept w s) = { q with rst := { q.rst with writing := some next } } := by
      have half : q.rst.half q.rst.newest = some w.image := by
        show (writeKept w s).rst.half (writeKept w s).rst.newest = _
        rw [newest, written]
      have busy : q.rst.writing.isSome = false := by
        show (writeKept w s).rst.writing.isSome = false
        rw [free]; rfl
      have target : q.rst.newest.other = w.half.other := congrArg HalfId.other newest
      have on : q.working = true := working
      rw [writeAgain, if_pos (more.trans again)]
      show beginWrite q = _
      unfold beginWrite
      simp only [on, busy, half, target, Bool.not_true, Bool.false_eq_true, if_false]
      rfl
    refine ⟨_, exec_writeKept supply writing stays r, ?_⟩
    have frame := finish_frame (writeAgain (writeKept w s))
    rw [finish_rst]
    rw [begins] at frame ⊢
    exact ⟨written, other, newest, rfl, rfl, frame⟩
  · refine ⟨loseSupply s, congrArg Host.Outcome.next (powered_of_supply supply _), rfl, ?_⟩
    unfold loseSupply tearWrite
    cases writing : s.rst.writing with
    | none => exact ⟨writing, fun _ => rfl, fun w h => (by cases h), rfl⟩
    | some w =>
      refine ⟨rfl, fun h => (by cases h), fun x h => ?_, rfl⟩
      obtain rfl := Option.some.inj h
      exact ⟨setHalf_half _ _ _, setHalf_other _ _ _, (setHalf_frame _ _ _).1⟩

/-! ## The clock's own count and the synchronising impulse (R36, R37) -/

theorem judgeRun_frame (s : State) : (judgeRun s).ini = s.ini ∧ (judgeRun s).station = s.station ∧
    (judgeRun s).srk = s.srk ∧ (judgeRun s).mvc = s.mvc ∧ (judgeRun s).vdu = s.vdu ∧
    ((judgeRun s).isCurrent .clockLost = (s.isCurrent .clockLost || decide (s.ini.selfRun = 3))) := by
  unfold judgeRun
  split
  · rename_i run
    exact ⟨by simp, by simp, by simp, by simp, by simp, by simp [isCurrent_raiseWithEntry, run]⟩
  · rename_i run
    exact ⟨rfl, rfl, rfl, rfl, rfl, by simp [run]⟩

theorem exec_impulseTimerExpiry {s : State} (supply : s.supply = true) (running : s.ini.impulse.isSome = true) :
    exec .impulseTimerExpiry s = .next (finish (judgeRun (stepMinute { s with ini := { s.ini with
      selfRun := min (s.ini.selfRun + 1) 3, absorb := some Config.absorbTime,
      impulse := some Config.impulseTime } }))) := by
  show Host.Outcome.next _ = _
  rw [powered_of_supply supply, selfCount, if_pos running]

/-- Settles O24. -/
theorem impulseTimerExpirySelfCounts : Obligations.ImpulseTimerExpirySelfCounts := by
  refine ⟨fun s supply running => ⟨_, exec_impulseTimerExpiry supply running, ?_⟩,
    fun s supply => ⟨_, congrArg Host.Outcome.next (powered_of_supply supply _), rfl⟩⟩
  let q : State := { s with ini := { s.ini with
    selfRun := min (s.ini.selfRun + 1) 3, absorb := some Config.absorbTime, impulse := some Config.impulseTime } }
  obtain ⟨ini, current, station, srk, mvc, vdu, -, -⟩ := stepMinute_frame q
  obtain ⟨runIni, runStation, runSrk, runMvc, runVdu, lost⟩ := judgeRun_frame (stepMinute q)
  have kind : (finish (judgeRun (stepMinute q))).isCurrent .clockLost =
      (s.isCurrent .clockLost || decide (min (s.ini.selfRun + 1) 3 = 3)) := by
    rw [State.isCurrent, finish_oau]
    refine lost.trans ?_
    rw [State.isCurrent, current, ini]
    rfl
  rw [finish_ini, runIni, finish_station, runStation, finish_srk, runSrk, finish_mvc, runMvc, finish_vdu, runVdu, ini,
    station, srk, mvc, vdu, kind]
  exact ⟨rfl, rfl, rfl, rfl, fun third => by simp [show min (s.ini.selfRun + 1) 3 = 3 from third],
    fun other => by simp [show ¬ min (s.ini.selfRun + 1) 3 = 3 from other], rfl, rfl, rfl, rfl, rfl⟩

/-! ## Minutes passed (R161, R163) -/

/-- The served boundary after some minutes: absent again when it is among them (R163). -/
def servedAfter (minutes : List Nat) (s : State) : Option Nat := s.acu.served.filter (fun b => !minutes.contains b)

/-- A boundary other than the served one lies among some minutes (R161). -/
def boundaryPassed (minutes : List Nat) (s : State) : Prop :=
  ∃ b ∈ s.cfg.boundaries, b ∈ minutes ∧ s.acu.served ≠ some b

theorem servedAs_of_served {s : State} {b : Option Nat} (served : s.acu.served = b) : servedAs b s = s := by
  rw [servedAs, ← served]

theorem passMinutes_eq {minutes : List Nat} {s : State} (working : s.working = true) : passMinutes minutes s =
    match s.acu.period.number with
    | some n =>
      if ((s.cfg.boundaries.filter (fun b => minutes.contains b)).filter (fun b => s.acu.served != some b)).isEmpty then
        servedAs (servedAfter minutes s) s
      else closePeriod n .ownBoundary (nextPeriod n) (servedAs (servedAfter minutes s) s)
    | none => servedAs (servedAfter minutes s) s := by
  unfold passMinutes servedAfter
  rw [if_neg (by simp [working])]
  cases served : s.acu.served with
  | none =>
    rw [Option.filter_none, servedAs_of_served served] <;> rfl
  | some b =>
    by_cases passed : minutes.contains b = true
    · rw [Option.filter_some, if_neg (by simpa using passed)]
      simp only [if_pos passed] <;> rfl
    · rw [Option.filter_some, if_pos (by simpa using passed), servedAs_of_served served]
      simp only [if_neg passed] <;> rfl

theorem passMinutes_of_passed {minutes : List Nat} {s : State} {n : Nat} (working : s.working = true)
    (number : s.acu.period.number = some n) (passed : boundaryPassed minutes s) :
    passMinutes minutes s = closePeriod n .ownBoundary (nextPeriod n) (servedAs (servedAfter minutes s) s) := by
  obtain ⟨b, boundary, among, other⟩ := passed
  rw [passMinutes_eq working, number]
  refine if_neg fun none => ?_
  rw [List.isEmpty_iff] at none
  have due : b ∈ (s.cfg.boundaries.filter (fun b => minutes.contains b)).filter (fun b => s.acu.served != some b) := by
    simp [boundary, among, other]
  rw [none] at due
  cases due

theorem passMinutes_of_none {minutes : List Nat} {s : State} (working : s.working = true)
    (none : ¬ boundaryPassed minutes s) : passMinutes minutes s = servedAs (servedAfter minutes s) s := by
  rw [passMinutes_eq working]
  split
  · refine if_pos ?_
    rw [List.isEmpty_iff, List.eq_nil_iff_forall_not_mem]
    intro b due
    simp only [List.mem_filter, List.contains_iff_mem, bne_iff_ne] at due
    exact none ⟨b, due.1.1, due.1.2, due.2⟩
  · rfl

theorem passMinutes_of_stopped {minutes : List Nat} {s : State} (stopped : s.working = false) : passMinutes minutes s = s :=
  if_pos (by simp [stopped])

theorem jumpBack_frame (s : State) : ∃ b, jumpBack s = servedAs b s := by
  unfold jumpBack
  split
  · split
    · exact ⟨none, rfl⟩
    · exact ⟨s.acu.served, rfl⟩
  · exact ⟨s.acu.served, rfl⟩

/-- The station at 6 o'clock, the impulse heard (R37). -/
def atSix (s : State) : State :=
  { impulseHeard (some Config.absorbTime) s with ini := { s.ini with
      absorb := some Config.absorbTime, selfRun := 0, impulse := some Config.impulseTime, minute := 360, synced := true } }

theorem exec_synchronisingImpulse {s : State} (supply : s.supply = true) (running : s.ini.impulse.isSome = true) :
    exec .synchronisingImpulse s = .next (finish (judgeCalls (judgeJump s.ini.minute (atSix s)))) := by
  show Host.Outcome.next _ = _
  rw [powered_of_supply supply, synchronise, if_pos running]
  rfl

theorem judgeJump_kept (m : Nat) (s : State) : KeptByClose s (judgeJump m s) := by
  unfold judgeJump
  split
  · exact .refl s
  · split
    · exact passMinutes_kept _ _
    · obtain ⟨b, jump⟩ := jumpBack_frame s
      rw [jump]
      exact ⟨rfl, rfl, rfl, rfl, rfl, rfl, rfl⟩

/-- A jump that is none or goes back, or that passes no boundary, moves the served boundary alone (R161, R163). -/
theorem judgeJump_of_none {m : Nat} {s : State}
    (none : minutesTo 360 m = 0 ∨ 720 < minutesTo 360 m ∨ ¬ boundaryPassed (minutesPassed m (minutesTo 360 m)) s) :
    ∃ b, judgeJump m s = servedAs b s := by
  unfold judgeJump
  split
  · exact ⟨s.acu.served, rfl⟩
  · split
    · cases working : s.working with
      | false => exact ⟨s.acu.served, passMinutes_of_stopped working⟩
      | true => exact ⟨_, passMinutes_of_none working (by rcases none with h | h | h; · contradiction
                                                          · omega
                                                          · exact h)⟩
    · exact jumpBack_frame s

/-- Settles O25. -/
theorem synchronisingImpulseSetsSixOClock : Obligations.SynchronisingImpulseSetsSixOClock := by
  intro s supply running
  refine ⟨_, exec_synchronisingImpulse supply running, ?_⟩
  have kept := judgeJump_kept s.ini.minute (atSix s)
  have lost : (finish (judgeCalls (judgeJump s.ini.minute (atSix s)))).isCurrent .clockLost = false := by
    rw [State.isCurrent, finish_oau, judgeCalls_oau, kept.current]
    exact impulseHeard_clockLost _ s
  have books : (∃ b, judgeJump s.ini.minute (atSix s) = servedAs b (atSix s)) →
      (finish (judgeCalls (judgeJump s.ini.minute (atSix s)))).acu.list = s.acu.list ∧
      (finish (judgeCalls (judgeJump s.ini.minute (atSix s)))).acu.period = s.acu.period := by
    rintro ⟨b, jump⟩
    rw [finish_acu, judgeCalls_acu, jump]
    exact ⟨rfl, rfl⟩
  refine ⟨?_, ?_, ?_, ?_, ?_, lost, fun h => books (judgeJump_of_none ?_), fun h => books (judgeJump_of_none ?_), ?_, ?_,
    ?_, ?_⟩
  case refine_6 => exact h.imp_right .inl
  case refine_7 => exact .inr (.inr fun ⟨b, boundary, among, _⟩ => h b boundary among)
  case refine_8 => rw [finish_station, judgeCalls_station, kept.station]; rfl
  case refine_9 => rw [finish_srk, judgeCalls_srk, kept.srk]; rfl
  case refine_10 => rw [finish_mvc, judgeCalls_mvc, kept.mvc]; rfl
  case refine_11 => rw [finish_vdu, judgeCalls_vdu, kept.vdu]; rfl
  all_goals rw [finish_ini, judgeCalls_ini, kept.ini]; rfl

end Sys2Proof.Machine

end

/-! The characters of the bodies (11.2 to 11.4, R187), a frame built and judged (R75 to R77), and the messages offered to the
queue (R81, R89, R169, R175). -/

section

namespace Sys2Proof

/-! ## Fields in characters (R187) -/

theorem fieldAt_skip {i j : Nat} (le : j ≤ i) (n : Nat) (rest : List Byte) (k : Nat) :
    fieldAt (toChars j n ++ rest) i k = fieldAt rest (i - j) k := by
  have skipped := fieldAt_append (toChars j n) rest (i - j) k
  rwa [length_toChars, Nat.add_sub_cancel' le] at skipped

theorem fieldAt_skipSigned {i j : Nat} (le : j ≤ i) (x : Int) (rest : List Byte) (k : Nat) :
    fieldAt (toCharsSigned j x ++ rest) i k = fieldAt rest (i - j) k := fieldAt_skip le _ rest k

theorem fieldAt_toChars_last (k n : Nat) : fieldAt (toChars k n) 0 k = n % 256 ^ k := by
  have read := fieldAt_toChars k n []
  rwa [List.append_nil] at read

theorem fieldAt_toCharsSigned (k : Nat) (x : Int) (rest : List Byte) :
    ((fieldAt (toCharsSigned k x ++ rest) 0 k : Nat) : Int) = x % (256 ^ k : Nat) := by
  have top : (0 : Int) < (256 ^ k : Nat) := by exact_mod_cast Nat.pow_pos (by decide : 0 < 256)
  rw [toCharsSigned, fieldAt_toChars, Int.natCast_mod, Int.toNat_of_nonneg (Int.emod_nonneg _ (ne_of_gt top)), Int.emod_emod]

theorem packBits_lt (bs : List Bool) : packBits bs < 2 ^ bs.length := by
  induction bs with
  | nil => decide
  | cons b bs ih =>
    rw [packBits, List.length_cons, Nat.pow_succ]
    split <;> omega

theorem testBit_packBits (bs : List Bool) (i : Nat) : (packBits bs).testBit i = bs.getD i false := by
  induction bs generalizing i with
  | nil => simp [packBits]
  | cons b bs ih =>
    cases i with
    | zero => cases b <;> simp [packBits, Nat.testBit_zero]
    | succ i =>
      rw [Nat.testBit_succ, List.getD_cons_succ, ← ih]
      congr 1
      cases b
      · simp [packBits]
      · simp [packBits]; omega

/-- A character of up to eight flags reads as they were written. -/
theorem packBits_mod {bs : List Bool} (short : bs.length ≤ 8) : packBits bs % 256 = packBits bs :=
  Nat.mod_eq_of_lt (lt_of_lt_of_le (packBits_lt bs) (Nat.pow_le_pow_right (by decide) short))

theorem StockStatus.code_mod (x : StockStatus) : x.code % 256 = x.code := by cases x <;> rfl
theorem EventKind.code_mod (k : EventKind) : k.code % 256 = k.code := by cases k <;> rfl

/-! ## ACCOUNT bodies (11.3) -/

/-- An event entry's three characters. -/
theorem EventEntry.length_chars (e : EventEntry) : e.chars.length = 3 := by simp [EventEntry.chars]

theorem length_entries (es : List EventEntry) : (es.map EventEntry.chars).flatten.length = 3 * es.length := by
  induction es with
  | nil => rfl
  | cons e es ih => rw [List.map_cons, List.flatten_cons, List.length_append, ih, e.length_chars, List.length_cons]; omega

/-- The fields of the event entry of a place. -/
theorem fieldAt_entries {es : List EventEntry} {i : Nat} {e : EventEntry} (found : es[i]? = some e) :
    fieldAt (es.map EventEntry.chars).flatten (3 * i) 1 = e.kind.code ∧
      fieldAt (es.map EventEntry.chars).flatten (3 * i + 1) 2 = e.minute % 65536 := by
  induction es generalizing i with
  | nil => simp at found
  | cons x es ih =>
    rw [List.map_cons, List.flatten_cons]
    cases i with
    | zero =>
      obtain rfl : x = e := by simpa using found
      refine ⟨?_, ?_⟩
      · simp [EventEntry.chars, List.append_assoc, fieldAt_toChars, EventKind.code_mod]
      · simp [EventEntry.chars, List.append_assoc, fieldAt_skip, fieldAt_toChars]
    | succ i =>
      have skipped : ∀ j k, fieldAt (x.chars ++ (es.map EventEntry.chars).flatten) (3 + j) k =
          fieldAt (es.map EventEntry.chars).flatten j k := fun j k => by
        have read := fieldAt_append x.chars (es.map EventEntry.chars).flatten j k
        rwa [x.length_chars] at read
      obtain ⟨code, minute⟩ := ih (i := i) (by simpa using found)
      rw [show 3 * (i + 1) = 3 + 3 * i by omega, Nat.add_assoc, skipped, skipped]
      exact ⟨code, minute⟩

/-- The 39 characters of an ACCOUNT body before its entries (11.3). -/
def accountHead (status asked cause : Nat) (r : AccountRecord) : List Byte :=
  toChars 1 status ++ (toChars 2 asked ++ (toChars 2 r.number ++ (toChars 1 cause ++ (toChars 2 r.minute ++
    (toChars 3 r.openingStock ++ (toChars 1 r.openingStatus.code ++ (toChars 3 r.closingStock ++
    (toChars 1 r.closingStatus.code ++ (toChars 3 r.makeIn ++ (toChars 3 r.sendOut ++ (toCharsSigned 4 r.unaccounted ++
    (toChars 2 r.minRest ++ (toChars 2 r.minTake ++ (toChars 2 r.minGive ++ (toChars 2 r.minFloat ++ (toChars 2 r.peak ++
    (toChars 2 (r.lowest.getD 65535) ++ toChars 1 r.flags.code)))))))))))))))))

/-- An ACCOUNT body that carries a record. -/
def accountBody (status asked cause : Nat) (r : AccountRecord) : List Byte :=
  accountHead status asked cause r ++ (r.entries.map EventEntry.chars).flatten

theorem accountBody_eq (status asked cause : Nat) (r : AccountRecord) :
    toChars 1 status ++ toChars 2 asked ++ r.chars cause = accountBody status asked cause r := by
  simp [accountBody, accountHead, AccountRecord.chars]

@[simp] theorem length_accountHead (status asked cause : Nat) (r : AccountRecord) :
    (accountHead status asked cause r).length = 39 := by simp [accountHead]

theorem length_accountBody (status asked cause : Nat) (r : AccountRecord) :
    (accountBody status asked cause r).length = 39 + 3 * r.entries.length := by
  rw [accountBody, List.length_append, length_accountHead, length_entries]

/-- A field of the head reads the same before the entries. -/
theorem fieldAt_head {status asked cause : Nat} (r : AccountRecord) {i k : Nat} (inside : i + k ≤ 39) :
    fieldAt (accountBody status asked cause r) i k = fieldAt (accountHead status asked cause r) i k := by
  rw [fieldAt, fieldAt, accountBody, List.drop_append_of_le_length (by simp; omega),
    List.take_append_of_le_length (by simp; omega)]

theorem accountBody_entry {status asked cause : Nat} {r : AccountRecord} {i : Nat} {e : EventEntry}
    (found : r.entries[i]? = some e) : fieldAt (accountBody status asked cause r) (39 + 3 * i) 1 = e.kind.code ∧
      fieldAt (accountBody status asked cause r) (40 + 3 * i) 2 = e.minute % 65536 := by
  have skipped : ∀ j k, fieldAt (accountBody status asked cause r) (39 + j) k =
      fieldAt (r.entries.map EventEntry.chars).flatten j k := fun j k => by
    have read := fieldAt_append (accountHead status asked cause r) (r.entries.map EventEntry.chars).flatten j k
    rwa [length_accountHead] at read
  obtain ⟨code, minute⟩ := fieldAt_entries found
  refine ⟨(skipped _ _).trans code, ?_⟩
  rw [show 40 + 3 * i = 39 + (3 * i + 1) by omega]
  exact (skipped _ _).trans minute

/-- The fields of an ACCOUNT body's head at the offsets of 11.3. -/
theorem accountHead_fields (status asked cause : Nat) (r : AccountRecord) :
    let b := accountHead status asked cause r
    (fieldAt b 0 1 = status % 256 ∧ fieldAt b 1 2 = asked % 65536 ∧ fieldAt b 3 2 = r.number % 65536 ∧
      fieldAt b 5 1 = cause % 256 ∧ fieldAt b 6 2 = r.minute % 65536) ∧
    (fieldAt b 8 3 = r.openingStock % 16777216 ∧ fieldAt b 11 1 = r.openingStatus.code ∧
      fieldAt b 12 3 = r.closingStock % 16777216 ∧ fieldAt b 15 1 = r.closingStatus.code ∧
      fieldAt b 16 3 = r.makeIn % 16777216 ∧ fieldAt b 19 3 = r.sendOut % 16777216 ∧
      (fieldAt b 22 4 : Int) = r.unaccounted % 4294967296) ∧
    fieldAt b 26 2 = r.minRest % 65536 ∧ fieldAt b 28 2 = r.minTake % 65536 ∧ fieldAt b 30 2 = r.minGive % 65536 ∧
    fieldAt b 32 2 = r.minFloat % 65536 ∧ fieldAt b 34 2 = r.peak % 65536 ∧
    fieldAt b 36 2 = r.lowest.getD 65535 % 65536 ∧ fieldAt b 38 1 = r.flags.code := by
  have flags : r.flags.code % 256 = r.flags.code := packBits_mod (by simp)
  simp [accountHead, fieldAt_skip, fieldAt_skipSigned, fieldAt_toChars, fieldAt_toChars_last, fieldAt_toCharsSigned,
    StockStatus.code_mod, flags]

/-- The flags of a period at their character (11.3, offset 38). -/
theorem PeriodFlags.code_bits (f : PeriodFlags) : f.code.testBit 0 = f.stockDoubtful ∧ f.code.testBit 1 = f.balance ∧
    f.code.testBit 2 = f.meterSilent ∧ f.code.testBit 3 = f.eventsLost ∧ f.code.testBit 4 = f.accountsLost ∧ f.code < 32 :=
  ⟨testBit_packBits _ 0, testBit_packBits _ 1, testBit_packBits _ 2, testBit_packBits _ 3, testBit_packBits _ 4,
    packBits_lt [f.stockDoubtful, f.balance, f.meterSilent, f.eventsLost, f.accountsLost]⟩

/-! ## A frame built and heard (R75 to R77) -/

theorem gather_data (cs : List Byte) : gather (cs.map LineChar.data ++ [LineChar.markOf 2]) = (cs, false, some .close) := by
  induction cs with
  | nil => rfl
  | cons c cs ih =>
    rw [List.map_cons, List.cons_append, gather, ih]
    rfl

theorem kindOfCode_code (k : MessageKind) : kindOfCode k.code = some k ∧ k.code < 256 := by cases k <;> exact ⟨rfl, by decide⟩

/-- No body that R187 allows is longer than 64 characters. -/
theorem lengthAllowed_le {k : MessageKind} {len : Nat} (allowed : lengthAllowed false k len = true) : len ≤ 64 := by
  cases k <;> simp [lengthAllowed] at allowed <;> omega

/-- Settles O38. -/
theorem frameBuiltIsFrameJudged : Obligations.FrameBuiltIsFrameJudged := by
  intro source destination k body low high allowed
  let covered := headerAndBody source destination k.code body
  refine ⟨covered ++ toChars 2 (checkWord covered).toNat, gather_data _, ?_⟩
  have short := lengthAllowed_le allowed
  obtain ⟨kind, code⟩ := kindOfCode_code k
  have lenNat : (BitVec.ofNat 8 body.length).toNat = body.length := BitVec.toNat_ofNat _ _ |>.trans (Nat.mod_eq_of_lt (by omega))
  have kindNat : (BitVec.ofNat 8 k.code).toNat = k.code := BitVec.toNat_ofNat _ _ |>.trans (Nat.mod_eq_of_lt code)
  have crc : ofChars (toChars 2 (checkWord covered).toNat) = (checkWord covered).toNat := by
    rw [ofChars_toChars]
    exact Nat.mod_eq_of_lt (checkWord covered).isLt
  have front : covered ++ toChars 2 (checkWord covered).toNat = BitVec.ofNat 8 source :: BitVec.ofNat 8 destination ::
      BitVec.ofNat 8 k.code :: BitVec.ofNat 8 body.length :: (body ++ toChars 2 (checkWord covered).toNat) := rfl
  have whole : (false || decide (64 < body.length) || (body ++ toChars 2 (checkWord covered).toNat).length != body.length + 2) =
      false := by simp [show ¬ 64 < body.length by omega]
  rw [front]
  simp only [judgeFrame, lenNat, kindNat, kind, whole, allowed, Bool.not_true, Bool.false_eq_true, if_false, List.take_left,
    List.drop_left, crc]
  refine (if_pos rfl).trans ?_
  rw [BitVec.toNat_ofNat, BitVec.toNat_ofNat, Nat.mod_eq_of_lt low, Nat.mod_eq_of_lt high]

end Sys2Proof

namespace Sys2Proof.Machine

/-! ## The REPORT and STATUS bodies (11.2, 11.4) -/

theorem length_reportBody (s : State) : (reportBody s).length = 24 := by simp [reportBody]

/-- The REPORT's fields at the offsets of 11.2. -/
theorem reportBody_fields (s : State) :
    let b := reportBody s
    let r := s.srk.record
    (fieldAt b 0 2 = s.acu.period.number.getD 0 % 65536 ∧ fieldAt b 2 2 = s.ini.minute % 65536 ∧
      fieldAt b 4 1 = reportRoles s ∧ fieldAt b 5 1 = reportFlags s ∧ fieldAt b 6 3 = r.stock % 16777216) ∧
    (fieldAt b 9 2 = r.perMille % 65536 ∧ fieldAt b 11 1 = r.status.code ∧ fieldAt b 12 1 = s.mvc.motion.code ∧
      fieldAt b 13 1 = r.liftsByHeight % 256 ∧ fieldAt b 14 2 = r.gaugeUsed % 65536) ∧
    fieldAt b 16 2 = s.mvc.cycles % 65536 ∧ fieldAt b 18 2 = s.pgv.opening % 65536 ∧
    fieldAt b 20 2 = s.acu.rate % 65536 ∧ fieldAt b 22 2 = s.oau.latched.toNat := by
  have roles : reportRoles s % 256 = reportRoles s := packBits_mod (by simp)
  have flags : reportFlags s % 256 = reportFlags s := packBits_mod (by simp)
  have motion : s.mvc.motion.code % 256 = s.mvc.motion.code := by cases s.mvc.motion <;> rfl
  have latched : s.oau.latched.toNat % 65536 = s.oau.latched.toNat := Nat.mod_eq_of_lt s.oau.latched.isLt
  simp [reportBody, List.append_assoc, fieldAt_skip, fieldAt_toChars, fieldAt_toChars_last, StockStatus.code_mod, roles,
    flags, motion, latched]

/-- The roles and abilities of a REPORT (11.2, offset 4). -/
theorem reportRoles_bits (s : State) : (reportRoles s).testBit 0 = s.holdsTake ∧ (reportRoles s).testBit 1 = s.holdsGive ∧
    (reportRoles s).testBit 2 = s.ysu.take.able ∧ (reportRoles s).testBit 3 = s.ysu.give.able ∧ reportRoles s < 16 :=
  ⟨testBit_packBits _ 0, testBit_packBits _ 1, testBit_packBits _ 2, testBit_packBits _ 3,
    packBits_lt [s.holdsTake, s.holdsGive, s.ysu.take.able, s.ysu.give.able]⟩

/-- The flags of a REPORT (11.2, offset 5). -/
theorem reportFlags_bits (s : State) : (reportFlags s).testBit 0 = s.mvc.turnoverDue ∧
    ((reportFlags s).testBit 1 = true ↔ s.ysu.order ≠ .auto) ∧
    ((reportFlags s).testBit 2 = true ↔ s.ini.key = .outOfService) ∧ (reportFlags s).testBit 3 = s.isCurrent .alone ∧
    (reportFlags s).testBit 4 = s.ini.synced ∧ reportFlags s < 32 :=
  ⟨testBit_packBits _ 0, by rw [reportFlags, testBit_packBits]; simp, by rw [reportFlags, testBit_packBits]; simp,
    testBit_packBits _ 3, testBit_packBits _ 4,
    packBits_lt [s.mvc.turnoverDue, s.ysu.order != .auto, s.ini.key == .outOfService, s.isCurrent .alone, s.ini.synced]⟩

theorem length_statusBody (s : State) : (statusBody s).length = 33 := by
  simp [statusBody, counterChars, inputChars]

/-- The hand order's character (11.4, offset 2). -/
theorem statusOrder_bits (y : Ysu) : statusOrder y < 256 ∧ statusOrder y % 8 = y.order.code ∧
    ((statusOrder y).testBit 7 = true ↔ y.order ≠ .auto ∧ y.effective = false) ∧ statusOrder y % 128 < 8 := by
  unfold statusOrder
  cases y.order with
  | auto => cases y.effective <;> decide
  | hand d => cases y.effective <;> cases d <;> decide

theorem InputStatus.code_mod (x : InputStatus) : x.code % 256 = x.code := by cases x <;> rfl
theorem DriveState.code_mod (x : DriveState) : x.code % 256 = x.code := by cases x <;> rfl

/-- The STATUS fields at the offsets of 11.4. -/
theorem statusBody_fields (s : State) :
    let b := statusBody s
    let c := s.yli.counters
    (fieldAt b 0 1 = s.station.code ∧ fieldAt b 1 1 = s.ini.key.code ∧ fieldAt b 2 1 = statusOrder s.ysu ∧
      fieldAt b 3 2 = s.oau.current.toNat ∧ fieldAt b 5 2 = s.oau.latched.toNat) ∧
    (fieldAt b 7 2 = c.checkFail % 65536 ∧ fieldAt b 9 2 = c.badFrame % 65536 ∧ fieldAt b 11 2 = c.aborted % 65536 ∧
      fieldAt b 13 2 = c.collisions % 65536 ∧ fieldAt b 15 2 = c.dropped % 65536 ∧
      fieldAt b 17 2 = c.foreignSource % 65536 ∧ fieldAt b 19 2 = c.ordersRefused % 65536) ∧
    fieldAt b 21 1 = s.yli.freePlaces ∧
    (fieldAt b 22 1 = s.ini.crown.status.code ∧ fieldAt b 23 1 = s.ini.gauge.status.code ∧
      fieldAt b 24 1 = s.ini.inletMain.status.code ∧ fieldAt b 25 1 = s.ini.district.status.code ∧
      fieldAt b 26 1 = s.ini.gasTemp.status.code ∧ fieldAt b 27 1 = s.ini.barometer.status.code) ∧
    fieldAt b 28 1 = s.vdu.inlet.state.code ∧ fieldAt b 29 1 = s.vdu.outlet.state.code ∧
    fieldAt b 30 1 = packBits [s.yli.quiet, s.isCurrent .alone] ∧ fieldAt b 31 2 = s.plugSum % 65536 := by
  have station : s.station.code % 256 = s.station.code := by cases s.station <;> rfl
  have key : s.ini.key.code % 256 = s.ini.key.code := by cases s.ini.key <;> rfl
  have order : statusOrder s.ysu % 256 = statusOrder s.ysu := Nat.mod_eq_of_lt (statusOrder_bits s.ysu).1
  have current : s.oau.current.toNat % 65536 = s.oau.current.toNat := Nat.mod_eq_of_lt s.oau.current.isLt
  have latched : s.oau.latched.toNat % 65536 = s.oau.latched.toNat := Nat.mod_eq_of_lt s.oau.latched.isLt
  have free : s.yli.freePlaces % 256 = s.yli.freePlaces := Nat.mod_eq_of_lt (by unfold Yli.freePlaces; omega)
  have flags : packBits [s.yli.quiet, s.isCurrent .alone] % 256 = packBits [s.yli.quiet, s.isCurrent .alone] :=
    packBits_mod (by simp)
  simp [statusBody, counterChars, inputChars, List.append_assoc, fieldAt_skip, fieldAt_toChars, fieldAt_toChars_last,
    InputStatus.code_mod, DriveState.code_mod, station, key, order, current, latched, free, flags]

/-! ## Messages offered (R81) -/

theorem offerMessage_of_notDue {s : State} (notDue : s.yli.reportDue = false) (m : Message) :
    offerMessage m s = { s with yli := s.yli.offerOther m } := by
  have flush : flushReport s = s := if_neg (by simp [notDue])
  unfold offerMessage
  rw [flush]

theorem offerOther_of_room {y : Yli} (room : y.othersHeld < 3) (m : Message) :
    y.offerOther m = { y with queue := y.queue ++ [m] } := if_pos room

theorem offerOther_of_full {y : Yli} (full : 3 ≤ y.othersHeld) (m : Message) :
    y.offerOther m = { y with counters := { y.counters with dropped := min (y.counters.dropped + 1) 65535 } } :=
  if_neg (by omega)

/-- A reply offered with no REPORT due, at the event's end (R81). -/
theorem finish_offerMessage {s : State} (notDue : s.yli.reportDue = false) (onLine : s.onLine = true) (m : Message) :
    lineFrame s (finish (offerMessage m s)) ∧
    (s.yli.othersHeld < 3 → (finish (offerMessage m s)).yli.counters = s.yli.counters ∧
      (nothingBegins s → (finish (offerMessage m s)).yli.queue = s.yli.queue ++ [m]) ∧
      (s.yli.line = .idle → s.yli.tx = .standby → s.yli.quiet = false → s.yli.queue = [] →
        (finish (offerMessage m s)).yli.tx = .sending ∧
        (finish (offerMessage m s)).yli.inFlight = some { msg := m, discard := false })) ∧
    (3 ≤ s.yli.othersHeld → (nothingBegins s → (finish (offerMessage m s)).yli.queue = s.yli.queue) ∧
      (finish (offerMessage m s)).yli.counters =
        { s.yli.counters with dropped := min (s.yli.counters.dropped + 1) 65535 }) := by
  rw [offerMessage_of_notDue notDue]
  refine ⟨finish_frame { s with yli := s.yli.offerOther m }, fun room => ?_, fun full => ?_⟩
  · rw [offerOther_of_room room]
    let q : State := { s with yli := { s.yli with queue := s.yli.queue ++ [m] } }
    refine ⟨finish_yli_counters q, fun nothing => (finish_of_nothingBegins (s := q) notDue nothing).1,
      fun idle tx talk empty => ?_⟩
    have queue : q.yli.queue = m :: [] := by show s.yli.queue ++ [m] = _; rw [empty]; rfl
    rw [finish_of_notDue (s := q) notDue, txSettle_of_standby_idle (s := q) tx idle queue talk onLine]
    exact ⟨rfl, rfl⟩
  · rw [offerOther_of_full full]
    let q : State := { s with yli := { s.yli with counters := { s.yli.counters with
      dropped := min (s.yli.counters.dropped + 1) 65535 } } }
    exact ⟨fun nothing => (finish_of_nothingBegins (s := q) notDue nothing).1, finish_yli_counters q⟩

/-! ## Requests (R169, R175) -/

theorem accountReplyBody_of_find {p : Nat} {s : State} {q : AccountRecord}
    (found : s.acu.list.find? (fun r => r.number == p) = some q) : accountReplyBody p s = accountClosedBody q := by
  rw [accountReplyBody, found]

theorem accountReplyBody_of_none {p : Nat} {s : State} (none : ∀ q ∈ s.acu.list, q.number ≠ p) :
    accountReplyBody p s =
      if p = 0 ∨ s.acu.period.number = some p then accountOpenBody p s else accountAbsentBody p := by
  have missing : s.acu.list.find? (fun r => r.number == p) = Option.none :=
    List.find?_eq_none.2 fun q mem => by simpa using none q mem
  rw [accountReplyBody, missing]

theorem accountReplyBody_of_unique {p : Nat} {s : State} {q : AccountRecord} (mem : q ∈ s.acu.list) (number : q.number = p)
    (unique : ∀ x ∈ s.acu.list, x.number = p → x = q) : accountReplyBody p s = accountClosedBody q := by
  cases found : s.acu.list.find? (fun r => r.number == p) with
  | none => exact absurd number (by simpa using List.find?_eq_none.1 found q mem)
  | some x =>
    obtain rfl := unique x (List.mem_of_find?_eq_some found) (by simpa using List.find?_some found)
    exact accountReplyBody_of_find found

/-- Settles O51. -/
theorem requestsQueueTheirReplies : Obligations.RequestsQueueTheirReplies := by
  refine ⟨fun p s supply working notDue => ?_, fun s supply onLine notDue => ?_, fun r => ?_, fun p s => ?_, fun s => ?_⟩
  · obtain ⟨frame, room, full⟩ := finish_offerMessage notDue (onLine_of_working working)
      { kind := .account, body := accountReplyBody p s }
    refine ⟨_, exec_ownOrder supply working (.accountRequest p) noReadings, frame, room, full,
      fun q mem number unique => accountReplyBody_of_unique mem number unique, fun q first => ?_,
      fun none open_ => ?_, fun none zero other => ?_⟩
    · rw [List.head?_filter] at first
      exact accountReplyBody_of_find first
    · rw [accountReplyBody_of_none none, if_pos open_]
    · rw [accountReplyBody_of_none none, if_neg (by simp [zero, other])]
  · have taken : orderTaken s .own .statusRequest = true := by
      have order : (Order.statusRequest == Order.statusRequest || Order.statusRequest == Order.restart) = true := by decide
      simp only [State.onLine, Bool.or_eq_true, Bool.and_eq_true] at onLine
      simp only [orderTaken, order, Bool.and_true, Bool.or_eq_true]
      exact onLine.imp_right And.left
    obtain ⟨frame, room, full⟩ := finish_offerMessage notDue onLine { kind := .status, body := statusBody s }
    refine ⟨finish (orderStatus s), ?_, frame, length_statusBody s, room, full⟩
    exact (exec_orderRow supply .own .statusRequest noReadings).trans
      (congrArg (Host.Outcome.next ∘ finish) (judgeOrder_of_taken onLine taken noReadings))
  · have body : accountClosedBody r = accountBody 1 r.number r.cause.code r := accountBody_eq _ _ _ _
    obtain ⟨⟨status, asked, number, cause, minute⟩, ⟨opening, openingStatus, closing, closingStatus, makeIn, sendOut, gas⟩,
      rest, take, give, float, peak, lowest, flags⟩ := accountHead_fields 1 r.number r.cause.code r
    obtain ⟨doubtful, balance, silent, events, accounts, five⟩ := r.flags.code_bits
    have flag : ∀ i, bitAt (accountBody 1 r.number r.cause.code r) 38 i = r.flags.code.testBit i := fun i => by
      rw [bitAt, fieldAt_head r (by decide), flags]
    rw [body]
    simp only [fieldAt_head, Nat.reduceAdd, Nat.reduceLeDiff]
    refine ⟨length_accountBody _ _ _ _, status, asked, number, ?_, minute, opening, ?_, closing, ?_, makeIn, sendOut, gas, rest,
      take, give, float, peak, lowest, (flag 0).trans doubtful, (flag 1).trans balance, (flag 2).trans silent,
      (flag 3).trans events, (flag 4).trans accounts, by rw [flags]; exact five, fun i _ e found => accountBody_entry found,
      by decide⟩
    · rw [cause]; cases r.cause <;> rfl
    · rw [openingStatus]; cases r.openingStatus <;> rfl
    · rw [closingStatus]; cases r.closingStatus <;> rfl
  · let r := s.acu.period.recordWith (s.acu.period.number.getD 0) .ownBoundary s.ini.minute s.srk.record.stock
      s.srk.record.status
    have body : accountOpenBody p s = accountBody 2 p 0 r := accountBody_eq _ _ _ _
    obtain ⟨⟨status, asked, number, cause, minute⟩, ⟨opening, openingStatus, closing, closingStatus, makeIn, sendOut, gas⟩,
      rest, take, give, float, peak, lowest, flags⟩ := accountHead_fields 2 p 0 r
    obtain ⟨doubtful, balance, silent, events, accounts, five⟩ := r.flags.code_bits
    have flag : ∀ i, bitAt (accountBody 2 p 0 r) 38 i = r.flags.code.testBit i := fun i => by
      rw [bitAt, fieldAt_head r (by decide), flags]
    refine ⟨by simp [accountAbsentBody, toChars], by simp [accountOpenBody, toChars], ?_⟩
    rw [body]
    simp only [fieldAt_head, Nat.reduceAdd, Nat.reduceLeDiff]
    refine ⟨length_accountBody _ _ _ _, number, cause, minute, opening, closing, ?_, makeIn, sendOut, gas, rest,
      take, give, float, peak, lowest, (flag 0).trans doubtful, (flag 1).trans balance, (flag 2).trans silent,
      (flag 3).trans events, (flag 4).trans accounts⟩
    rw [closingStatus]
    show s.srk.record.status.code = _
    cases s.srk.record.status <;> rfl
  · obtain ⟨⟨station, key, order, current, latched⟩, counters, free, inputs, inlet, outlet, flags, sum⟩ := statusBody_fields s
    obtain ⟨-, low, pending, seven⟩ := statusOrder_bits s.ysu
    obtain ⟨checkFail, badFrame, aborted, collisions, dropped, foreign, refused⟩ := counters
    obtain ⟨crown, gauge, inletMain, district, gasTemp, barometer⟩ := inputs
    have flag : ∀ i, bitAt (statusBody s) 30 i = (packBits [s.yli.quiet, s.isCurrent .alone]).testBit i := fun i => by
      rw [bitAt, flags]
    refine ⟨length_statusBody s, ?_, ?_, ?_, by rw [bitAt, order]; exact pending, by rw [order]; exact seven, current,
      latched, checkFail, badFrame, aborted, collisions, dropped, foreign, refused, free, ?_, ?_, ?_, ?_, ?_, ?_, ?_, ?_,
      (flag 0).trans (testBit_packBits _ 0), (flag 1).trans (testBit_packBits _ 1), by rw [flags]; exact packBits_lt [_, _], sum⟩
    · rw [station]; cases s.station <;> rfl
    · rw [key]; cases s.ini.key <;> rfl
    · rw [order, low]
      cases s.ysu.order with
      | auto => rfl
      | hand d => cases d <;> rfl
    · rw [crown]; cases s.ini.crown.status <;> rfl
    · rw [gauge]; cases s.ini.gauge.status <;> rfl
    · rw [inletMain]; cases s.ini.inletMain.status <;> rfl
    · rw [district]; cases s.ini.district.status <;> rfl
    · rw [gasTemp]; cases s.ini.gasTemp.status <;> rfl
    · rw [barometer]; cases s.ini.barometer.status <;> rfl
    · rw [inlet]; cases s.vdu.inlet.state <;> rfl
    · rw [outlet]; cases s.vdu.outlet.state <;> rfl

end Sys2Proof.Machine

end

/-! Duty sharing, one role at a time: what its timers, its delay and its dwell are after the settling pass (R108, R116 to
R123), in terms of the record the pass found. -/

section

namespace Sys2Proof.Machine

/-! ## The terms of one role (R112 to R117) -/

theorem holds_take (s : State) : s.holds .take = s.holdsTake := rfl
theorem holds_give (s : State) : s.holds .give = s.holdsGive := rfl

/-- A role's conditions rest on its own part in it, on the table, on the instruments and, for a giver, on its own opening. -/
theorem conditionHolds_congr {s t : State} {r : Role} (station : t.station = s.station) (ini : t.ini = s.ini)
    (plug : t.plug = s.plug) (table : t.ysu.table = s.ysu.table) (holds : t.holds r = s.holds r)
    (opening : r = .give → s.holdsGive = true → t.pgv.opening = s.pgv.opening) (k : CallKind) :
    conditionHolds t r k = conditionHolds s r k := by
  have cfg : t.cfg = s.cfg := by rw [State.cfg, State.cfg, plug]
  have count : t.memberCount r = s.memberCount r := by rw [State.memberCount, State.memberCount, holds, table]
  cases r with
  | take => cases k <;> simp only [conditionHolds, takeCallHolds, takeReleaseHolds, station, ini, cfg, count]
  | give =>
    have give : t.holdsGive = s.holdsGive := holds
    have openings : giverOpenings t = giverOpenings s := by
      unfold giverOpenings
      rw [give, table]
      cases held : s.holdsGive with
      | false => rfl
      | true => simp only [opening rfl held]
    have leg : pressureLeg t = pressureLeg s := by
      unfold pressureLeg State.setPoint
      rw [ini, cfg]
    cases k <;> simp only [conditionHolds, openingLeg, leg, giveReleaseHolds, station, count, openings]

theorem permitted_congr {s t : State} {r : Role} (station : t.station = s.station) (ini : t.ini = s.ini)
    (order : t.ysu.order = s.ysu.order) (relearn : t.ysu.relearn = s.ysu.relearn) (oau : t.oau.current = s.oau.current)
    (dwell : (t.ysu.role r).dwell = (s.ysu.role r).dwell) : permitted t r = permitted s r := by
  unfold permitted State.isCurrent
  rw [station, ini, order, relearn, oau, dwell]

/-- What an automatic change needs (R117). -/
theorem permitted_iff (s : State) (r : Role) : permitted s r = true ↔ s.station = .run ∧ s.ini.key = .auto ∧
    s.ysu.order = .auto ∧ s.isCurrent .alone = false ∧ s.ysu.relearn = none ∧ s.isCurrent .numberClash = false ∧
    (s.ysu.role r).dwell = none := by
  simp [permitted, and_assoc]

/-! ## The calls judged (R116, R120) -/

/-- A role's record with its two timers judged. -/
def timed (s : State) (r : Role) (x : RoleState) : RoleState :=
  { x with call := CallTimer.judge (conditionHolds s r .call) x.call,
           release := CallTimer.judge (conditionHolds s r .release) x.release }

theorem judgeTimers_eq (r : Role) (s : State) : judgeTimers r s = { s with ysu := s.ysu.setRole r (timed s r (s.ysu.role r)) } :=
  rfl

theorem judgeTimers_role (r : Role) (s : State) : (judgeTimers r s).ysu.role r = timed s r (s.ysu.role r) :=
  updateRole_role _ _ _

theorem judgeTimers_other {r q : Role} (other : q ≠ r) (s : State) : (judgeTimers r s).ysu.role q = s.ysu.role q :=
  updateRole_other _ _ _ _ other

/-- Judging the timers of one role leaves the terms of both. -/
theorem conditionHolds_judgeTimers (q r : Role) (k : CallKind) (s : State) :
    conditionHolds (judgeTimers q s) r k = conditionHolds s r k := by
  refine conditionHolds_congr (s := s) (t := judgeTimers q s) rfl rfl rfl (updateRole_same q _ s).table ?_
    (fun _ _ => rfl) k
  cases q <;> cases r <;> rfl

/-- A role's record with its delay judged. -/
def delayJudged (s : State) (r : Role) (x : RoleState) : RoleState :=
  if x.call = .active ∧ (x.able && !x.held.isSome) = true ∧ permitted s r = true then x else { x with delay := none }

theorem judgeDelay_role (r : Role) (s : State) : (judgeDelay r s).ysu.role r = delayJudged s r (s.ysu.role r) := by
  unfold judgeDelay delayJudged
  split
  · rename_i stays
    exact (if_pos stays).symm
  · rename_i stops
    rw [updateRole_role]
    exact (if_neg stops).symm

theorem judgeDelay_other {r q : Role} (other : q ≠ r) (s : State) : (judgeDelay r s).ysu.role q = s.ysu.role q := by
  unfold judgeDelay
  split
  · rfl
  · exact updateRole_other _ _ _ _ other

theorem delayJudged_congr {s t : State} {r : Role} (same : permitted t r = permitted s r) (x : RoleState) :
    delayJudged t r x = delayJudged s r x := by
  unfold delayJudged
  rw [same]

/-- The four timers and the two delays judged, at one role. -/
theorem judgeCalls_role (r : Role) (s : State) :
    (judgeCalls s).ysu.role r = delayJudged s r (timed s r (s.ysu.role r)) := by
  have dwell : ∀ q : Role, ∀ z : State, permitted (judgeTimers q z) r = permitted z r := fun q z => by
    refine permitted_congr rfl rfl (updateRole_same _ _ _).order (updateRole_same _ _ _).relearn rfl ?_
    cases q <;> cases r <;> rfl
  cases r with
  | take =>
    rw [judgeCalls, judgeDelay_other (by decide), judgeDelay_role, delayJudged_congr (dwell _ _), delayJudged_congr (dwell _ _),
      judgeTimers_other (by decide), judgeTimers_role]
  | give =>
    have same : permitted (judgeDelay .take (judgeTimers .give (judgeTimers .take s))) .give = permitted s .give := by
      refine (permitted_congr ?_ ?_ (judgeDelay_same _ _).order (judgeDelay_same _ _).relearn (by simp) ?_).trans
        ((dwell _ _).trans (dwell _ _))
      · exact judgeDelay_station _ _
      · exact judgeDelay_ini _ _
      · rw [judgeDelay_other (by decide)]
    rw [judgeCalls, judgeDelay_role, delayJudged_congr same, judgeDelay_other (by decide), judgeTimers_role,
      judgeTimers_other (by decide)]
    unfold timed
    rw [conditionHolds_judgeTimers, conditionHolds_judgeTimers]

/-- What judging a delay keeps of a role's record. -/
theorem delayJudged_frame (s : State) (r : Role) (x : RoleState) : (delayJudged s r x).call = x.call ∧
    (delayJudged s r x).release = x.release ∧ (delayJudged s r x).dwell = x.dwell ∧ (delayJudged s r x).held = x.held ∧
    (delayJudged s r x).able = x.able ∧ (x.delay = none → (delayJudged s r x).delay = none) ∧
    (x.call ≠ .active → (delayJudged s r x).delay = none) := by
  unfold delayJudged
  split
  · rename_i stays
    exact ⟨rfl, rfl, rfl, rfl, rfl, id, fun idle => absurd stays.1 idle⟩
  · exact ⟨rfl, rfl, rfl, rfl, rfl, fun _ => rfl, fun _ => rfl⟩

theorem judge_restarted (c d : Bool) : CallTimer.judge d (CallTimer.restarted c) = CallTimer.restarted d := by
  cases c <;> cases d <;> rfl

theorem restarted_ne_active (c : Bool) : CallTimer.restarted c ≠ .active := by cases c <;> simp [CallTimer.restarted]

theorem judge_active_iff (c : Bool) (t : CallTimer) : CallTimer.judge c t = .active ↔ c = true ∧ t = .active := by
  cases c <;> cases t <;> simp [CallTimer.judge]

theorem judge_judge (c d : Bool) (t : CallTimer) (h : c = true ∨ d = false ∨ t = .stopped) :
    CallTimer.judge d (CallTimer.judge c t) = CallTimer.judge d t := by
  cases c <;> cases d <;> cases t <;> simp_all [CallTimer.judge]

/-! ## A change of the role set, at its role (R108, R116) -/

/-- A role set for a change, its timers not yet restarted (R108). -/
def roleSet (r : Role) (held : Option Cause) (s : State) : State :=
  updateRole r (fun x => { x with held := held, delay := none, dwell := some Config.dwellTime }) s

theorem changeRole_eq (r : Role) (held : Option Cause) (s : State) :
    changeRole r held s = restartTimers r (roleSet r held s) := rfl

theorem changeRole_role (r : Role) (held : Option Cause) (s : State) : ∃ a b : Bool, (changeRole r held s).ysu.role r =
    { s.ysu.role r with held := held, delay := none, dwell := some Config.dwellTime, call := CallTimer.restarted a,
                        release := CallTimer.restarted b } := by
  rw [changeRole, restartTimers, updateRole_role, updateRole_role]
  exact ⟨_, _, rfl⟩

/-- The claims set: a role whose holding they change has been joined or left, and another has its cause set. -/
theorem applyClaims_role (r : Role) (s : State) :
    ((claimOf s r).isSome = s.holds r ∧ (applyClaims s).ysu.role r = { s.ysu.role r with held := claimOf s r }) ∨
    ((claimOf s r).isSome ≠ s.holds r ∧ ∃ a b : Bool, (applyClaims s).ysu.role r =
      { s.ysu.role r with held := claimOf s r, delay := none, dwell := some Config.dwellTime,
                          call := CallTimer.restarted a, release := CallTimer.restarted b }) := by
  have own : ∀ q : State, claimOf q r = claimOf s r → q.ysu.role r = s.ysu.role r →
      ((claimOf s r).isSome = s.holds r ∧ (applyClaim r q).ysu.role r = { s.ysu.role r with held := claimOf s r }) ∨
      ((claimOf s r).isSome ≠ s.holds r ∧ ∃ a b : Bool, (applyClaim r q).ysu.role r =
        { s.ysu.role r with held := claimOf s r, delay := none, dwell := some Config.dwellTime,
                            call := CallTimer.restarted a, release := CallTimer.restarted b }) := by
    intro q claim role
    have holds : q.holds r = s.holds r := by rw [State.holds, State.holds, role]
    unfold applyClaim
    rw [claim, holds]
    split
    · rename_i same
      exact .inl ⟨same, by rw [updateRole_role, role]⟩
    · rename_i other
      obtain ⟨a, b, changed⟩ := changeRole_role r (claimOf s r) q
      exact .inr ⟨other, a, b, by rw [changed, role]⟩
  cases r with
  | take =>
    rw [applyClaims, applyClaim_other (by decide)]
    exact own s rfl rfl
  | give =>
    rw [applyClaims]
    exact own _ (claimOf_applyClaim (by decide) s) (applyClaim_other (by decide) s)

/-! ## The claims judged, before the standing rules -/

/-- The role set with the request, the abilities, the claims and the calls judged (R57, R109 to R111, R116). -/
def claimsJudged (s : State) : State := judgeCalls (applyClaims (judgeAbilities (judgeRequest s)))

theorem chooseRoles_eq (s : State) : chooseRoles s = standingRules .give (standingRules .take (claimsJudged s)) := rfl

theorem claimsJudged_same (s : State) : SameUnit (claimsJudged s).ysu s.ysu :=
  (judgeCalls_same _).trans ((applyClaim_same .give _).trans ((applyClaim_same .take _).trans (judgeAbilities_same _)))

@[simp] theorem claimsJudged_station (s : State) : (claimsJudged s).station = s.station := by simp [claimsJudged]
@[simp] theorem claimsJudged_ini (s : State) : (claimsJudged s).ini = s.ini := by simp [claimsJudged]
@[simp] theorem claimsJudged_plug (s : State) : (claimsJudged s).plug = s.plug := by simp [claimsJudged]
@[simp] theorem claimsJudged_number (s : State) : (claimsJudged s).number = s.number := by simp [claimsJudged]
@[simp] theorem claimsJudged_srk (s : State) : (claimsJudged s).srk = s.srk := by simp [claimsJudged]
@[simp] theorem claimsJudged_pgv (s : State) : (claimsJudged s).pgv = s.pgv := by simp [claimsJudged]
@[simp] theorem claimsJudged_oau (s : State) : (claimsJudged s).oau = s.oau := by simp [claimsJudged]
theorem claimsJudged_mvc (s : State) : (claimsJudged s).mvc = (judgeRequest s).mvc := by simp [claimsJudged]

theorem claimsJudged_held (r : Role) (s : State) : ((claimsJudged s).ysu.role r).held = claimed s r := by
  rw [claimsJudged, (judgeCalls_held_able r _).1, applyClaims_held]
  rfl

theorem claimsJudged_able (r : Role) (s : State) : ((claimsJudged s).ysu.role r).able = canHold s r := by
  rw [claimsJudged, (judgeCalls_held_able r _).2, applyClaims, applyClaim_able, applyClaim_able]
  cases r <;> rfl

theorem claimsJudged_holds (r : Role) (s : State) : (claimsJudged s).holds r = (claimed s r).isSome := by
  rw [State.holds, claimsJudged_held]

theorem judgedRequest_role (r : Role) (s : State) :
    (judgeAbilities (judgeRequest s)).ysu.role r = { s.ysu.role r with able := canHold s r } := by cases r <;> rfl

/-- A role whose holding its claim keeps: its timers and its delay judged, its dwell as it was. -/
theorem claimsJudged_role_kept {r : Role} {s : State} (kept : (claimed s r).isSome = s.holds r) :
    (claimsJudged s).ysu.role r =
      delayJudged s r (timed s r { s.ysu.role r with able := canHold s r, held := claimed s r }) := by
  let q := judgeAbilities (judgeRequest s)
  have role : q.ysu.role r = { s.ysu.role r with able := canHold s r } := judgedRequest_role r s
  have same : q.holds r = s.holds r := by rw [State.holds, role]; rfl
  rcases applyClaims_role r q with ⟨-, set⟩ | ⟨change, -⟩
  · rw [role] at set
    have unit := (applyClaim_same .give (applyClaim .take q)).trans (applyClaim_same .take q)
    have holds : (applyClaims q).holds r = s.holds r := by rw [State.holds, applyClaims_held]; exact kept
    have condition : ∀ k, conditionHolds (applyClaims q) r k = conditionHolds s r k := fun k =>
      conditionHolds_congr (s := s) (t := applyClaims q) (by simp [q]) (by simp [q]) (by simp [q]) unit.table holds
        (fun _ _ => by simp [q]) k
    have allowed : permitted (applyClaims q) r = permitted s r :=
      permitted_congr (s := s) (t := applyClaims q) (by simp [q]) (by simp [q]) unit.order unit.relearn (by simp [q])
        (by rw [set])
    rw [claimsJudged, judgeCalls_role]
    show delayJudged (applyClaims q) r (timed (applyClaims q) r ((applyClaims q).ysu.role r)) = _
    rw [delayJudged_congr allowed, set]
    unfold timed
    rw [condition, condition]
    rfl
  · exact absurd (kept.trans same.symm) change

/-- A role whose holding its claim changes: joined or left, its dwell begun, its delay ended and its timers restarted. -/
theorem claimsJudged_role_changed {r : Role} {s : State} (changed : (claimed s r).isSome ≠ s.holds r) :
    ∃ a b : Bool, (claimsJudged s).ysu.role r =
      { s.ysu.role r with able := canHold s r, held := claimed s r, delay := none, dwell := some Config.dwellTime,
                          call := CallTimer.restarted a, release := CallTimer.restarted b } := by
  let q := judgeAbilities (judgeRequest s)
  have role : q.ysu.role r = { s.ysu.role r with able := canHold s r } := judgedRequest_role r s
  have same : q.holds r = s.holds r := by rw [State.holds, role]; rfl
  rcases applyClaims_role r q with ⟨keep, -⟩ | ⟨-, a, b, set⟩
  · exact absurd (keep.trans same) changed
  · refine ⟨conditionHolds (applyClaims q) r .call, conditionHolds (applyClaims q) r .release, ?_⟩
    rw [claimsJudged, judgeCalls_role]
    show delayJudged (applyClaims q) r (timed (applyClaims q) r ((applyClaims q).ysu.role r)) = _
    rw [set, role]
    unfold timed delayJudged
    dsimp only
    rw [judge_restarted, judge_restarted, if_neg fun h => restarted_ne_active _ h.1]
    rfl

/-! ## The standing rules at one role (R117 to R122) -/

/-- The rules of one role rest on no part of the other. -/
theorem standingRules_setOther {q r : Role} (other : r ≠ q) (x : RoleState) (s : State) :
    (standingRules r { s with ysu := s.ysu.setRole q x }).ysu.role r = (standingRules r s).ysu.role r := by
  let z : State := { s with ysu := s.ysu.setRole q x }
  have role : z.ysu.role r = s.ysu.role r := role_setRole_other _ _ _ _ other
  have unit : SameUnit z.ysu s.ysu := updateRole_same q (fun _ => x) s
  have holds : z.holds r = s.holds r := by rw [State.holds, State.holds, role]
  have allowed : permitted z r = permitted s r := permitted_congr rfl rfl unit.order unit.relearn rfl (by rw [role])
  have able : z.ableNonMember r = s.ableNonMember r := by rw [State.ableNonMember, State.ableNonMember, role, holds]
  have count : z.memberCount r = s.memberCount r := by rw [State.memberCount, State.memberCount, holds, unit.table]
  have join : z.joinRank r = s.joinRank r := by rw [State.joinRank, State.joinRank, unit.table]; rfl
  have rank : z.memberRank r = s.memberRank r := by rw [State.memberRank, State.memberRank, unit.table]; rfl
  have changes : ∀ held, (changeRole r held z).ysu.role r = (changeRole r held s).ysu.role r := fun held => by
    have sets : ∀ w : State, (roleSet r held w).ysu.role r =
        { w.ysu.role r with held := held, delay := none, dwell := some Config.dwellTime } := fun w => updateRole_role _ _ _
    have condition : ∀ k, conditionHolds (roleSet r held z) r k = conditionHolds (roleSet r held s) r k := fun k => by
      refine conditionHolds_congr (s := roleSet r held s) (t := roleSet r held z) rfl rfl rfl ?_ ?_ (fun _ _ => rfl) k
      · exact (updateRole_same r _ z).table.trans (unit.table.trans (updateRole_same r _ s).table.symm)
      · rw [State.holds, State.holds, sets, sets]
    rw [changeRole_eq, changeRole_eq, restartTimers, restartTimers, updateRole_role, updateRole_role, sets, sets, role,
      condition, condition]
  have rules : (standingRules r z).ysu.role r = (standingRules r s).ysu.role r := by
    unfold standingRules noMemberJoin callJoin releaseLeave startDelay joinRole leaveRole
    rw [allowed, able, count, join, rank, role]
    split
    · split
      · exact changes _
      · split
        · split
          · exact changes _
          · rw [updateRole_role, updateRole_role, role]
        · split
          · exact changes _
          · exact role
    · exact role
  exact rules

/-- The role set chosen, at one role: the standing rules upon the claims judged. -/
theorem chooseRoles_role (r : Role) (s : State) :
    (chooseRoles s).ysu.role r = (standingRules r (claimsJudged s)).ysu.role r := by
  rw [chooseRoles_eq]
  cases r with
  | take => rw [standingRules_other (by decide)]
  | give =>
    have frame : standingRules .take (claimsJudged s) = { claimsJudged s with
        ysu := (claimsJudged s).ysu.setRole .take ((standingRules .take (claimsJudged s)).ysu.role .take) } := by
      have unit := standingRules_same .take (claimsJudged s)
      have give := standingRules_other (r := .take) (q := .give) (by decide) (claimsJudged s)
      have ysu : (standingRules .take (claimsJudged s)).ysu =
          (claimsJudged s).ysu.setRole .take ((standingRules .take (claimsJudged s)).ysu.role .take) := by
        obtain ⟨order, effective, relearn, table, clash, silence⟩ := unit
        generalize (standingRules .take (claimsJudged s)).ysu = y at *
        generalize (claimsJudged s).ysu = z at *
        cases y
        cases z
        simp_all [Ysu.setRole, Ysu.role]
      apply State.eq_of_fields <;> simp
      exact ysu
    rw [frame, standingRules_setOther (by decide)]

/-- Of the standing rules' five ways at a role, each with its terms (R117 to R122). -/
theorem standingRules_cases (r : Role) (s : State) :
    ((standingRules r s).ysu.role r = s.ysu.role r ∧ (permitted s r = true → noMemberJoin s r = false ∧
      callJoin s r = false ∧ releaseLeave s r = false)) ∨
    (permitted s r = true ∧ (noMemberJoin s r = true ∨ (noMemberJoin s r = false ∧ callJoin s r = true ∧ s.joinRank r ≤ 1)) ∧
      standingRules r s = joinRole r s) ∨
    (permitted s r = true ∧ noMemberJoin s r = false ∧ callJoin s r = true ∧ 1 < s.joinRank r ∧
      (standingRules r s).ysu.role r = { s.ysu.role r with
        delay := some { left := (s.joinRank r - 1) * Config.joinStep, countKept := s.memberCount r } }) ∨
    (permitted s r = true ∧ noMemberJoin s r = false ∧ callJoin s r = false ∧ releaseLeave s r = true ∧
      standingRules r s = leaveRole r s) := by
  unfold standingRules
  by_cases allowed : permitted s r = true
  · rw [if_pos allowed]
    by_cases first : noMemberJoin s r = true
    · rw [if_pos first]
      exact .inr (.inl ⟨allowed, .inl first, rfl⟩)
    · have notFirst : noMemberJoin s r = false := by simpa using first
      rw [if_neg first]
      by_cases call : callJoin s r = true
      · rw [if_pos call]
        unfold startDelay
        by_cases lead : s.joinRank r ≤ 1
        · rw [if_pos lead]
          exact .inr (.inl ⟨allowed, .inr ⟨notFirst, call, lead⟩, rfl⟩)
        · rw [if_neg lead]
          exact .inr (.inr (.inl ⟨allowed, notFirst, call, by omega, updateRole_role _ _ _⟩))
      · have notCall : callJoin s r = false := by simpa using call
        rw [if_neg call]
        by_cases leave : releaseLeave s r = true
        · rw [if_pos leave]
          exact .inr (.inr (.inr ⟨allowed, notFirst, notCall, leave, rfl⟩))
        · rw [if_neg leave]
          exact .inl ⟨rfl, fun _ => ⟨notFirst, notCall, by simpa using leave⟩⟩
  · rw [if_neg allowed]
    exact .inl ⟨rfl, fun h => absurd h allowed⟩

end Sys2Proof.Machine

end

/-! The settling pass at the event's end: what stands of each block, how the drives take their commands, and each role's
record, changed or kept (R43, R56, R108, R116). -/

section

namespace Sys2Proof.Machine

/-! ## Blocks that stand -/

theorem dutyFrame_iff (s t : State) : dutyFrame s t ↔
    (t.supply = s.supply ∧ t.station = s.station ∧ t.startKind = s.startKind ∧ t.stepsDone = s.stepsDone ∧
      t.listenTimer = s.listenTimer ∧ t.number = s.number) ∧
    t.plug = s.plug ∧ t.plugSum = s.plugSum ∧ t.ini = s.ini ∧ t.srk = s.srk ∧ t.rst = s.rst ∧ t.pending = s.pending := by
  constructor
  · intro h
    rw [h]
    exact ⟨⟨rfl, rfl, rfl, rfl, rfl, rfl⟩, rfl, rfl, rfl, rfl, rfl, rfl⟩
  · rintro ⟨⟨supply, station, kind, steps, listen, number⟩, plug, sum, ini, srk, rst, pending⟩
    apply State.eq_of_fields <;> first | rfl | assumption

theorem dutyFrame_trans {s t u : State} (h : dutyFrame s t) (k : dutyFrame t u) : dutyFrame s u := by
  rw [dutyFrame_iff] at *
  obtain ⟨⟨a1, a2, a3, a4, a5, a6⟩, a7, a8, a9, a10, a11, a12⟩ := h
  obtain ⟨⟨b1, b2, b3, b4, b5, b6⟩, b7, b8, b9, b10, b11, b12⟩ := k
  exact ⟨⟨b1.trans a1, b2.trans a2, b3.trans a3, b4.trans a4, b5.trans a5, b6.trans a6⟩, b7.trans a7, b8.trans a8,
    b9.trans a9, b10.trans a10, b11.trans a11, b12.trans a12⟩

theorem dutyFrame_settleFrom (old s : State) : dutyFrame s (settleFrom old s) := by
  rw [dutyFrame_iff]
  simp [settleFrom]

theorem dutyFrame_finish (s : State) : dutyFrame s (finish s) := by
  rw [dutyFrame_iff]
  simp

/-- An event's own work within the frame of duty sharing, settled and ended. -/
theorem dutyFrame_ended {s q : State} (work : dutyFrame s q) (old : State) : dutyFrame s (finish (settleFrom old q)) :=
  dutyFrame_trans work (dutyFrame_trans (dutyFrame_settleFrom old q) (dutyFrame_finish _))

theorem settleFrom_acu (old s : State) :
    (settleFrom old s).acu = { s.acu with silentWindow := (settleFrom old s).acu.silentWindow } := by
  have derived : (settleFrom old s).acu = (deriveCommands (handOn old (chooseRoles s))).acu := by simp [settleFrom]
  rw [derived, deriveCommands, giveCommand_acu, giveCommand_acu .inlet]
  simp

@[simp] theorem settleFrom_acu_list (old s : State) : (settleFrom old s).acu.list = s.acu.list := by rw [settleFrom_acu]
@[simp] theorem settleFrom_acu_period (old s : State) : (settleFrom old s).acu.period = s.acu.period := by
  rw [settleFrom_acu]

/-- The accounts kept by an event's own work are kept at its end. -/
theorem accountsKept_ended {s q : State} (work : accountsKept s q) (old : State) :
    accountsKept s (finish (settleFrom old q)) := by
  unfold accountsKept
  rw [finish_acu, settleFrom_acu]
  exact work

theorem entered_makeEntry {s : State} (working : s.working = true) (k : EventKind) :
    entered s (makeEntry k s) { kind := k, minute := s.ini.minute } := by
  unfold makeEntry entered
  rw [if_pos working]
  refine ⟨fun room => ?_, fun full => ?_⟩
  · simp [OpenPeriod.addEntry, room]
  · simp [OpenPeriod.addEntry, show ¬ s.acu.period.entries.length < 8 by omega]

theorem entered_ended {s q : State} {e : EventEntry} (work : entered s q e) (old : State) :
    entered s (finish (settleFrom old q)) e := by
  unfold entered
  rw [finish_acu, settleFrom_acu]
  exact work

theorem accountsKept_makeEntry (k : EventKind) (s : State) : accountsKept s (makeEntry k s) := by
  unfold makeEntry
  split
  · unfold accountsKept OpenPeriod.addEntry
    split <;> exact ⟨rfl, rfl, rfl, rfl, rfl, rfl, rfl, rfl⟩
  · exact ⟨rfl, rfl, rfl, rfl, rfl, rfl, rfl, rfl⟩

/-! ## The commands taken (R43, R56) -/

theorem deriveCommands_drive (v : Side) (s : State) : (deriveCommands s).vdu.drive v =
    if ((deriveCommands s).vdu.drive v).command = (s.vdu.drive v).command then s.vdu.drive v
    else Drive.take s.travelMs ((deriveCommands s).vdu.drive v).command (s.vdu.drive v) := by
  have given : ∀ (q : State) (c : DriveCommand), q.vdu.drive v = s.vdu.drive v → q.travelMs = s.travelMs →
      (giveCommand v c q).vdu.drive v = if c = (s.vdu.drive v).command then s.vdu.drive v
        else Drive.take s.travelMs c (s.vdu.drive v) := fun q c drive travel => by
    rw [giveCommand_drive, drive, travel]
    simp only [eq_comm]
  have whole : ∃ c : DriveCommand, (deriveCommands s).vdu.drive v = if c = (s.vdu.drive v).command then s.vdu.drive v
        else Drive.take s.travelMs c (s.vdu.drive v) := by
    unfold deriveCommands
    cases v with
    | inlet =>
      rw [giveCommand_other .outlet .inlet _ _ (by decide)]
      exact ⟨_, given s _ rfl rfl⟩
    | outlet =>
      exact ⟨_, given _ _ (giveCommand_other .inlet .outlet _ _ (by decide)) (by simp [State.travelMs, State.cfg])⟩
  obtain ⟨c, drive⟩ := whole
  have command : ((deriveCommands s).vdu.drive v).command = c := by
    rw [drive]
    split
    · rename_i same; exact same.symm
    · exact take_command _ _ _
  rw [command]
  exact drive

/-- At an event's end each drive takes the command derived for it, on the record that the event's own work left. -/
theorem drivenFrom_ended {s q : State} {v : Side} {d : Drive} (drive : q.vdu.drive v = d) (plug : q.plug = s.plug)
    (old : State) : drivenFrom s (finish (settleFrom old q)) v d := by
  let z := handOn old (chooseRoles q)
  have vdu : (finish (settleFrom old q)).vdu.drive v = (deriveCommands z).vdu.drive v := by simp [settleFrom, z]
  have from_ : z.vdu.drive v = d := by rw [← drive]; simp [z]
  have travel : z.travelMs = s.travelMs := by simp [State.travelMs, State.cfg, z, plug]
  unfold drivenFrom
  rw [vdu, ← from_, ← travel]
  exact deriveCommands_drive v z

/-! ## The role's record at the pass's end -/

/-- The role set handed on, the commands given and the mode judged (R55, R71, R138). -/
def handedOver (old s : State) : State := judgeMode (deriveCommands (handOn old (chooseRoles s)))

theorem settleFrom_eq (old s : State) : settleFrom old s = judgeCalls (handedOver old s) := rfl

theorem handedOver_ysu (old s : State) : (handedOver old s).ysu = (chooseRoles s).ysu := by simp [handedOver]

/-- The terms of a role that judging the calls leaves. -/
theorem conditionHolds_judgeCalls (r : Role) (k : CallKind) (s : State) :
    conditionHolds (judgeCalls s) r k = conditionHolds s r k := by
  refine conditionHolds_congr (s := s) (t := judgeCalls s) (by simp) (by simp) (by simp) (judgeCalls_same s).table ?_
    (fun _ _ => by simp) k
  rw [State.holds, State.holds, (judgeCalls_held_able r s).1]

theorem permitted_judgeCalls (r : Role) (s : State) : permitted (judgeCalls s) r = permitted s r := by
  refine permitted_congr (s := s) (t := judgeCalls s) (by simp) (by simp) (judgeCalls_same s).order (judgeCalls_same s).relearn
    (by simp) ?_
  rw [judgeCalls_role, (delayJudged_frame _ _ _).2.2.1]
  rfl

theorem settleFrom_role (old : State) (r : Role) (s : State) : (settleFrom old s).ysu.role r =
    delayJudged (settleFrom old s) r (timed (settleFrom old s) r ((chooseRoles s).ysu.role r)) := by
  rw [settleFrom_eq, judgeCalls_role, handedOver_ysu]
  unfold timed
  rw [conditionHolds_judgeCalls, conditionHolds_judgeCalls, delayJudged_congr (permitted_judgeCalls r _)]

/-- A joined or left role's record: its dwell begun, its delay ended, its timers restarted (R108, R116). -/
def roleChanged (x : RoleState) : Prop :=
  x.dwell = some Config.dwellTime ∧ x.delay = none ∧ (∃ c, x.call = CallTimer.restarted c) ∧
    ∃ c, x.release = CallTimer.restarted c

/-- What the standing rules leave of a role: kept, perhaps with a delay begun, or changed. -/
theorem standingRules_role (r : Role) (s : State) :
    (∃ d, ((s.ysu.role r).call ≠ .active → d = (s.ysu.role r).delay) ∧
      (standingRules r s).ysu.role r = { s.ysu.role r with delay := d }) ∨
    (permitted s r = true ∧ (standingRules r s).holds r ≠ s.holds r ∧ roleChanged ((standingRules r s).ysu.role r)) := by
  have changes : ∀ held, roleChanged ((changeRole r held s).ysu.role r) := fun held => by
    obtain ⟨a, b, role⟩ := changeRole_role r held s
    rw [role]
    exact ⟨rfl, rfl, ⟨a, rfl⟩, ⟨b, rfl⟩⟩
  rcases standingRules_cases r s with ⟨stays, -⟩ | ⟨allowed, join, joins⟩ | ⟨-, -, call, -, delays⟩ |
    ⟨allowed, -, -, leave, leaves⟩
  · exact .inl ⟨_, fun _ => rfl, stays⟩
  · have able : s.ableNonMember r = true := by
      rcases join with first | ⟨-, call, -⟩
      · simp only [noMemberJoin, Bool.and_eq_true] at first
        exact first.1.1
      · simp only [callJoin, Bool.and_eq_true] at call
        exact call.1.1
    have free : s.holds r = false := by
      simp only [State.ableNonMember, Bool.and_eq_true, Bool.not_eq_true'] at able
      exact able.2
    refine .inr ⟨allowed, ?_, by rw [joins]; exact changes _⟩
    rw [joins, free, State.holds, joinRole, changeRole_held]
    decide
  · simp only [callJoin, Bool.and_eq_true, beq_iff_eq] at call
    exact .inl ⟨_, fun idle => absurd call.1.2 idle, delays⟩
  · simp only [releaseLeave, Bool.and_eq_true, beq_iff_eq] at leave
    refine .inr ⟨allowed, ?_, by rw [leaves]; exact changes _⟩
    rw [leaves, State.holds, State.holds, leaveRole, changeRole_held, leave.1.2]
    decide

theorem permitted_of_roleChanged {s : State} {r : Role} (dwell : (s.ysu.role r).dwell = some Config.dwellTime) :
    permitted s r = false := by
  simp [permitted, dwell]

/-- A role set chosen otherwise than it stood has been changed once; one chosen as it stood keeps its dwell and its timers, as
judged. -/
theorem chooseRoles_role_cases (r : Role) (s : State) :
    ((chooseRoles s).holds r ≠ s.holds r ∧ roleChanged ((chooseRoles s).ysu.role r)) ∨
    ((chooseRoles s).holds r = s.holds r ∧ (claimed s r).isSome = s.holds r ∧
      ((chooseRoles s).ysu.role r).dwell = (s.ysu.role r).dwell ∧
      ((chooseRoles s).ysu.role r).call = CallTimer.judge (conditionHolds s r .call) (s.ysu.role r).call ∧
      ((chooseRoles s).ysu.role r).release = CallTimer.judge (conditionHolds s r .release) (s.ysu.role r).release ∧
      ((s.ysu.role r).call ≠ .active → ((chooseRoles s).ysu.role r).delay = none)) := by
  rw [State.holds, chooseRoles_role]
  by_cases kept : (claimed s r).isSome = s.holds r
  · have role := claimsJudged_role_kept kept
    have held : (claimsJudged s).holds r = s.holds r := (claimsJudged_holds r s).trans kept
    rcases standingRules_role r (claimsJudged s) with ⟨d, delay, stays⟩ | ⟨-, other, changed⟩
    · obtain ⟨call, release, dwell, own, -, -, idle⟩ := delayJudged_frame s r
        (timed s r { s.ysu.role r with able := canHold s r, held := claimed s r })
      refine .inr ⟨?_, kept, ?_, ?_, ?_, fun quiet => ?_⟩
      · rw [stays]; exact held
      · rw [stays, role]; exact dwell
      · rw [stays, role]; exact call
      · rw [stays, role]; exact release
      · have still : (timed s r { s.ysu.role r with able := canHold s r, held := claimed s r }).call ≠ .active :=
          fun active => quiet ((judge_active_iff _ _).1 active).2
        have none_ : ((claimsJudged s).ysu.role r).delay = none := by rw [role]; exact idle still
        rw [stays]
        refine (delay ?_).trans none_
        rw [role, call]
        exact still
    · exact .inl ⟨by rw [← held]; exact other, changed⟩
  · obtain ⟨a, b, role⟩ := claimsJudged_role_changed kept
    have blocked : permitted (claimsJudged s) r = false := permitted_of_roleChanged (by rw [role])
    rcases standingRules_cases r (claimsJudged s) with ⟨stays, -⟩ | ⟨allowed, -⟩ | ⟨allowed, -⟩ | ⟨allowed, -⟩
    · rw [stays]
      refine .inl ⟨fun same => kept ?_, ?_⟩
      · rw [← claimsJudged_holds]; exact same
      · rw [role]; exact ⟨rfl, rfl, ⟨a, rfl⟩, ⟨b, rfl⟩⟩
    all_goals exact absurd allowed (by simp [blocked])

theorem settleFrom_holds (old : State) (r : Role) (s : State) : (settleFrom old s).holds r = (chooseRoles s).holds r := by
  rw [State.holds, State.holds, settleFrom_held]

/-- What judging a role's timers and its delay keeps of its record. -/
theorem judgedRole_frame (t : State) (r : Role) (x : RoleState) {y : RoleState} (judged : y = delayJudged t r (timed t r x)) :
    y.dwell = x.dwell ∧ y.call = CallTimer.judge (conditionHolds t r .call) x.call ∧
      y.release = CallTimer.judge (conditionHolds t r .release) x.release ∧ (x.delay = none → y.delay = none) := by
  obtain ⟨call, release, dwell, -, -, none_, -⟩ := delayJudged_frame t r (timed t r x)
  subst judged
  exact ⟨dwell, call, release, none_⟩

/-- A role that an event joins or leaves: its dwell at 300 s, no delay, and both timers restarted (R108, R116). -/
theorem settleFrom_role_changed {old s : State} {r : Role} (changed : (settleFrom old s).holds r ≠ s.holds r) :
    let x := (settleFrom old s).ysu.role r
    x.dwell = some 300000 ∧ x.delay = none ∧
      x.call = CallTimer.restarted (conditionHolds (settleFrom old s) r .call) ∧
      x.release = CallTimer.restarted (conditionHolds (settleFrom old s) r .release) := by
  rcases chooseRoles_role_cases r s with ⟨-, dwell, delay, ⟨a, call⟩, ⟨b, release⟩⟩ | ⟨same, -⟩
  · obtain ⟨rests, ends, stops, none_⟩ := judgedRole_frame _ _ _ (settleFrom_role old r s)
    intro x
    refine ⟨rests.trans dwell, none_ delay, ?_, ?_⟩
    · rw [ends, call, judge_restarted]
    · rw [stops, release, judge_restarted]
  · exact absurd ((settleFrom_holds old r s).trans same) changed

/-- A role that an event neither joins nor leaves: its dwell stands, its timers are judged, and without an active call it has
no delay (R116, R119, R120). -/
theorem settleFrom_role_kept {old s : State} {r : Role} (kept : (settleFrom old s).holds r = s.holds r) :
    let x := (settleFrom old s).ysu.role r
    x.dwell = (s.ysu.role r).dwell ∧
      x.call = CallTimer.judge (conditionHolds (settleFrom old s) r .call)
        (CallTimer.judge (conditionHolds s r .call) (s.ysu.role r).call) ∧
      x.release = CallTimer.judge (conditionHolds (settleFrom old s) r .release)
        (CallTimer.judge (conditionHolds s r .release) (s.ysu.role r).release) ∧
      ((s.ysu.role r).call ≠ .active → x.delay = none) := by
  rcases chooseRoles_role_cases r s with ⟨other, -⟩ | ⟨-, -, dwell, call, release, delay⟩
  · exact absurd ((settleFrom_holds old r s).symm.trans kept) other
  · obtain ⟨rests, ends, stops, none_⟩ := judgedRole_frame _ _ _ (settleFrom_role old r s)
    intro x
    exact ⟨rests.trans dwell, by rw [ends, call], by rw [stops, release], fun quiet => none_ (delay quiet)⟩

/-- The dwell after an event: begun where the role set changed, and as it stood where it did not (R108, R123). -/
theorem settleFrom_dwell (old : State) (r : Role) (s : State) : ((settleFrom old s).ysu.role r).dwell =
    if (settleFrom old s).holds r = s.holds r then (s.ysu.role r).dwell else some 300000 := by
  split
  · rename_i kept; exact (settleFrom_role_kept kept).1
  · rename_i changed; exact (settleFrom_role_changed changed).1

/-- A timer that the event's work has restarted stands restarted at its end (R116). -/
theorem settleFrom_restarted {old s : State} {r : Role} :
    ((s.ysu.role r).call = CallTimer.restarted (conditionHolds s r .call) →
      ((settleFrom old s).ysu.role r).call = CallTimer.restarted (conditionHolds (settleFrom old s) r .call) ∧
      ((settleFrom old s).ysu.role r).delay = none) ∧
    (∀ c, (s.ysu.role r).release = CallTimer.restarted c →
      ((settleFrom old s).ysu.role r).release = CallTimer.restarted (conditionHolds (settleFrom old s) r .release)) := by
  by_cases kept : (settleFrom old s).holds r = s.holds r
  · obtain ⟨-, call, release, delay⟩ := settleFrom_role_kept kept
    refine ⟨fun fresh => ⟨?_, delay (by rw [fresh]; exact restarted_ne_active _)⟩, fun c fresh => ?_⟩
    · rw [call, fresh, judge_restarted, judge_restarted]
    · rw [release, fresh, judge_restarted, judge_restarted]
  · obtain ⟨-, delay, call, release⟩ := settleFrom_role_changed kept
    exact ⟨fun _ => ⟨call, delay⟩, fun _ _ => release⟩

end Sys2Proof.Machine

end

/-! The claims upon a role in the event's terms (R109, R117 to R134), the timers after a change of the member count (R116),
and the statements about the key, the hand orders and duty sharing's own timers. -/

section

namespace Sys2Proof.Machine

/-! ## What the pass leaves of a role, by its claim (R109) -/

theorem settled_ended (old s : State) : Settled (finish (settleFrom old s)) :=
  (SameTerms.finish _).settled (settled_settleFrom old s)

theorem sameUnit_ended (old s : State) : SameUnit (finish (settleFrom old s)).ysu s.ysu := by
  rw [finish_ysu]
  exact settleFrom_same old s

theorem isCurrent_ended (old s : State) (k : AlarmKind) : (finish (settleFrom old s)).isCurrent k = s.isCurrent k := by
  rw [State.isCurrent, finish_oau, settleFrom_oau]
  rfl

theorem held_ended (old s : State) (r : Role) :
    ((finish (settleFrom old s)).ysu.role r).held = ((chooseRoles s).ysu.role r).held := by
  rw [finish_ysu, settleFrom_held]

/-- Where the change is not permitted, or the station cannot hold the role, no standing rule joins it; where it is not
permitted, none leaves it. -/
theorem chooseRoles_held_of_unpermitted {s : State} {r : Role} (blocked : permitted s r = false) :
    ((chooseRoles s).ysu.role r).held = claimed s r := by
  have still : permitted (claimsJudged s) r = false := by
    by_cases kept : (claimed s r).isSome = s.holds r
    · rw [← blocked]
      have unit := claimsJudged_same s
      refine permitted_congr (s := s) (t := claimsJudged s) (by simp) (by simp) unit.order unit.relearn (by simp) ?_
      rw [claimsJudged_role_kept kept]
      exact (delayJudged_frame _ _ _).2.2.1
    · obtain ⟨a, b, role⟩ := claimsJudged_role_changed kept
      exact permitted_of_roleChanged (by rw [role])
  rw [chooseRoles_role, ← claimsJudged_held]
  rcases standingRules_cases r (claimsJudged s) with ⟨stays, -⟩ | ⟨allowed, -⟩ | ⟨allowed, -⟩ | ⟨allowed, -⟩
  · rw [stays]
  all_goals exact absurd allowed (by simp [still])

/-- With the key away from AUTO, or under NUMBER CLASH, no role is held but a LIMIT give on the request (R109, R126, R132). -/
theorem claimed_of_unmanned {s : State} (unmanned : s.ini.key ≠ .auto ∨ s.isCurrent .numberClash = true) :
    claimed s .take = none ∧ claimed s .give = if forcedNow s = true then some .limit else none := by
  have none_ : ∀ r, (s.station ≠ .run ∨ s.ini.key = .outOfService) → claimed s r = none := fun r stopped =>
    claimed_of_stopped stopped r
  by_cases stopped : s.station ≠ .run ∨ s.ini.key = .outOfService
  · refine ⟨none_ _ stopped, ?_⟩
    rw [none_ _ stopped, if_neg]
    intro forced
    obtain ⟨run, -, key, -⟩ := (forcedNow_iff s).1 forced
    exact stopped.elim (fun h => h run) key
  · have hand : s.ini.key = .handRest ∨ s.isCurrent .numberClash = true := by
      rcases unmanned with key | clash
      · push Not at stopped
        cases k : s.ini.key with
        | auto => exact absurd k key
        | handRest => exact .inl rfl
        | outOfService => exact absurd k stopped.2
      · exact .inr clash
    rw [claimed_eq, claimed_eq, if_neg stopped, if_neg stopped, if_pos hand, if_pos hand]
    exact ⟨rfl, rfl⟩

theorem canHold_manned {s : State} {r : Role} (able : canHold s r = true) :
    s.ini.key = .auto ∧ s.isCurrent .numberClash = false := by
  cases r with
  | take =>
    obtain ⟨-, key, -, -, -, clash⟩ := (canTake_iff s).1 able
    exact ⟨key, clash⟩
  | give =>
    obtain ⟨-, key, -, -, -, -, clash⟩ := (canGive_iff s).1 able
    exact ⟨key, clash⟩

theorem canHold_of_unmanned {s : State} (unmanned : s.ini.key ≠ .auto ∨ s.isCurrent .numberClash = true) (r : Role) :
    canHold s r = false := by
  rw [Bool.eq_false_iff]
  intro able
  obtain ⟨key, clash⟩ := canHold_manned able
  rcases unmanned with h | h
  · exact h key
  · simp [clash] at h

/-- The role set of a station with the key away from AUTO, or under NUMBER CLASH. -/
theorem ended_of_unmanned {s : State} (unmanned : s.ini.key ≠ .auto ∨ s.isCurrent .numberClash = true) (old : State)
    (r : Role) : ((finish (settleFrom old s)).ysu.role r).held = claimed s r ∧
      ((finish (settleFrom old s)).ysu.role r).able = false := by
  have blocked : permitted s r = false := by
    rw [Bool.eq_false_iff]
    intro allowed
    obtain ⟨-, key, -, -, -, clash, -⟩ := (permitted_iff s r).1 allowed
    rcases unmanned with h | h
    · exact h key
    · simp [clash] at h
  rw [held_ended, chooseRoles_held_of_unpermitted blocked, finish_ysu, settleFrom_able]
  exact ⟨rfl, canHold_of_unmanned unmanned r⟩

/-- A role's own claim in RUN at AUTO with no clash (R109, R125, R130, R131). -/
theorem claimed_of_manned {s : State} (run : s.station = .run) (auto : s.ini.key = .auto)
    (clear : s.isCurrent .numberClash = false) (r : Role) : claimed s r =
      if suppressed s r = true then none else if r = .give ∧ s.mvc.zone = .top then some .limit else ownClaim s r := by
  rw [claimed_eq, if_neg (by simp [run, auto]), if_neg (by simp [auto, clear])]
  by_cases sup : suppressed s r = true
  · rw [if_pos sup, if_pos sup]
  · rw [if_neg sup, if_neg sup]
    have forced : (r == .give && forcedNow s) = true ↔ r = .give ∧ s.mvc.zone = .top := by
      rw [Bool.and_eq_true, beq_iff_eq, forcedNow_iff]
      refine ⟨fun ⟨give, _, top, _⟩ => ⟨give, top⟩, fun ⟨give, top⟩ => ⟨give, run, top, by simp [auto], fun fault => sup ?_⟩⟩
      subst give
      simp [suppressed, fault]
    by_cases top : r = .give ∧ s.mvc.zone = .top
    · rw [if_pos (forced.2 top), if_pos top]
    · rw [if_neg (mt forced.1 top), if_neg top]

/-! ## The timers after a change of the member count (R116, R120) -/

/-- In the midst of an event: a role whose part is unchanged has had its timers restarted with its member count. -/
def recountedAt (s q : State) (r : Role) : Prop :=
  q.holds r = s.holds r →
    (s.memberCount r < q.memberCount r →
      (∃ c, (q.ysu.role r).call = CallTimer.restarted c) ∧ ∃ c, (q.ysu.role r).release = CallTimer.restarted c) ∧
    (q.memberCount r < s.memberCount r → ∃ c, (q.ysu.role r).release = CallTimer.restarted c)

theorem recountedAt_congr {s s' q q' : State} {r : Role} (old : s'.ysu.role r = s.ysu.role r)
    (oldTable : s'.ysu.table = s.ysu.table) (new : q'.ysu.role r = q.ysu.role r) (newTable : q'.ysu.table = q.ysu.table)
    (at_ : recountedAt s q r) : recountedAt s' q' r := by
  have holds : s'.holds r = s.holds r ∧ q'.holds r = q.holds r := by simp only [State.holds, old, new, and_self]
  have count : s'.memberCount r = s.memberCount r ∧ q'.memberCount r = q.memberCount r := by
    simp only [State.memberCount, holds, oldTable, newTable, and_self]
  unfold recountedAt
  rw [holds.1, holds.2, count.1, count.2, new]
  exact at_

theorem restartTimers_role (r : Role) (s : State) : (restartTimers r s).ysu.role r = { s.ysu.role r with
    call := CallTimer.restarted (conditionHolds s r .call), release := CallTimer.restarted (conditionHolds s r .release) } :=
  updateRole_role _ _ _

theorem restartRelease_role (r : Role) (s : State) : (restartRelease r s).ysu.role r = { s.ysu.role r with
    release := CallTimer.restarted (conditionHolds s r .release) } := updateRole_role _ _ _

theorem recount_role (old : State) (r : Role) (s : State) :
    ((recount old r s).ysu.role r).held = (s.ysu.role r).held ∧
    (old.memberCount r < s.memberCount r → (∃ c, ((recount old r s).ysu.role r).call = CallTimer.restarted c) ∧
      ∃ c, ((recount old r s).ysu.role r).release = CallTimer.restarted c) ∧
    (s.memberCount r < old.memberCount r → ∃ c, ((recount old r s).ysu.role r).release = CallTimer.restarted c) := by
  unfold recount
  split
  · rw [restartTimers_role]
    exact ⟨rfl, fun _ => ⟨⟨_, rfl⟩, _, rfl⟩, fun _ => ⟨_, rfl⟩⟩
  · split
    · rw [restartRelease_role]
      exact ⟨rfl, fun h => absurd h ‹_›, fun _ => ⟨_, rfl⟩⟩
    · exact ⟨rfl, fun h => absurd h ‹_›, fun h => absurd h ‹_›⟩

theorem recount_other {r q : Role} (other : q ≠ r) (old s : State) : (recount old r s).ysu.role q = s.ysu.role q := by
  unfold recount
  split
  · exact updateRole_other _ _ _ _ other
  · split
    · exact updateRole_other _ _ _ _ other
    · rfl

theorem changeTable_unit (t : List PeerEntry) (s : State) : SameUnit (changeTable t s).ysu (withTable t s).ysu :=
  (changeTable_keptByHandOff t s).unit

/-- A replaced table restarts a role's timers with its member count (R116). -/
theorem recountedAt_changeTable (t : List PeerEntry) (s : State) (r : Role) : recountedAt s (changeTable t s) r := by
  let w := withTable t s
  have count : ∀ q : State, q.holds r = w.holds r → q.ysu.table = t → q.memberCount r = w.memberCount r := by
    intro q holds table
    rw [State.memberCount, State.memberCount, holds, table]
    rfl
  have whole : ∃ x : State, x.ysu.role r = w.ysu.role r ∧ x.ysu.table = t ∧
      (changeTable t s).ysu.role r = (recount s r x).ysu.role r := by
    cases r with
    | take => exact ⟨w, rfl, rfl, recount_other (by decide) _ _⟩
    | give => exact ⟨recount s .take w, recount_other (by decide) _ _, (recount_same s .take w).table, rfl⟩
  obtain ⟨x, role, table, recounted_⟩ := whole
  obtain ⟨held, rise, fall⟩ := recount_role s r x
  have xHolds : x.holds r = w.holds r := by rw [State.holds, State.holds, role]
  have holds : (changeTable t s).holds r = w.holds r := by
    rw [State.holds, recounted_, held, role]
    rfl
  intro _
  rw [count _ holds (changeTable_unit t s).table, recounted_, ← count x xHolds table]
  exact ⟨rise, fall⟩

/-- Timers restarted in the midst of an event stand restarted after a settling pass. -/
theorem recountedAt_settleFrom {s q : State} {r : Role} (at_ : recountedAt s q r) (old : State) :
    recountedAt s (settleFrom old q) r ∧ recounted s (finish (settleFrom old q)) r := by
  let t := settleFrom old q
  have table : t.ysu.table = q.ysu.table := (settleFrom_same old q).table
  have condition : ∀ k, conditionHolds (finish t) r k = conditionHolds t r k := fun k =>
    conditionHolds_congr (by simp) (by simp) (by simp) (by simp) (by simp [State.holds]) (fun _ _ => by simp) k
  have count : (finish t).memberCount r = t.memberCount r := by
    rw [State.memberCount, State.memberCount, State.holds, State.holds, finish_ysu]
  have both : t.holds r = s.holds r →
      (s.memberCount r < t.memberCount r → (t.ysu.role r).delay = none ∧
        (t.ysu.role r).call = CallTimer.restarted (conditionHolds t r .call) ∧
        (t.ysu.role r).release = CallTimer.restarted (conditionHolds t r .release)) ∧
      (t.memberCount r < s.memberCount r →
        (t.ysu.role r).release = CallTimer.restarted (conditionHolds t r .release)) := by
    intro same
    by_cases kept : t.holds r = q.holds r
    · have counts : t.memberCount r = q.memberCount r := by rw [State.memberCount, State.memberCount, kept, table]
      obtain ⟨rise, fall⟩ := at_ (kept.symm.trans same)
      obtain ⟨-, call, release, delay⟩ := settleFrom_role_kept kept
      rw [counts]
      refine ⟨fun up => ?_, fun down => ?_⟩
      · obtain ⟨⟨a, ringing⟩, ⟨b, releasing⟩⟩ := rise up
        refine ⟨delay (by rw [ringing]; exact restarted_ne_active _), ?_, ?_⟩
        · rw [call, ringing, judge_restarted, judge_restarted]
        · rw [release, releasing, judge_restarted, judge_restarted]
      · obtain ⟨b, releasing⟩ := fall down
        rw [release, releasing, judge_restarted, judge_restarted]
    · obtain ⟨-, delay, call, release⟩ := settleFrom_role_changed kept
      exact ⟨fun _ => ⟨delay, call, release⟩, fun _ => release⟩
  refine ⟨fun same => ?_, ?_⟩
  · obtain ⟨rise, fall⟩ := both same
    exact ⟨fun up => ⟨⟨_, (rise up).2.1⟩, _, (rise up).2.2⟩, fun down => ⟨_, fall down⟩⟩
  · intro same
    obtain ⟨rise, fall⟩ := both ((by simp [State.holds] : (finish t).holds r = t.holds r).symm.trans same)
    show (_ < (finish t).memberCount r → _) ∧ ((finish t).memberCount r < _ → _)
    rw [count, show (finish t).ysu = t.ysu from finish_ysu t]
    simp only [show finish (settleFrom old q) = finish t from rfl, condition]
    exact ⟨rise, fall⟩

/-! ## The key (R39, R129, R132, R133) -/

/-- The key turned, and the hand order's standing with it. -/
def keyTurned (p : KeyPosition) (s : State) : State :=
  { s with ini := { s.ini with key := p, keyDefaulted := false }, ysu := { s.ysu with effective := keyOrder p s } }

theorem exec_keyChange {s : State} {p : KeyPosition} (supply : s.supply = true) (taken : s.ini.keyTaken = true)
    (other : p ≠ s.ini.key) :
    exec (.keyPositionTaken p) s = .next (finish (settle (makeEntry .keyChange (keyTurned p s)))) := by
  show Host.Outcome.next _ = _
  rw [powered_of_supply supply, takeKey, if_neg (by simp [taken]), if_neg (by simp [other])]
  rfl

theorem settle_eq (s : State) : settle s = settleFrom s s := rfl

theorem givesNoMore {x : Option Cause} {p : Prop} [Decidable p] (forced : x = if p then some .limit else none) :
    x = none ∨ x = some .limit := by
  rw [forced]
  split
  · exact .inr rfl
  · exact .inl rfl

/-- Settles O27. -/
theorem keyChangeTakesTheDuty : Obligations.KeyChangeTakesTheDuty := by
  intro p s supply taken other
  obtain ⟨q, hq⟩ : ∃ q, q = makeEntry .keyChange (keyTurned p s) := ⟨_, rfl⟩
  have done := exec_keyChange supply taken other
  rw [← hq, settle_eq] at done
  have ini : q.ini = { s.ini with key := p, keyDefaulted := false } := by rw [hq, makeEntry_ini]; rfl
  have ysu : q.ysu = { s.ysu with effective := keyOrder p s } := by rw [hq, makeEntry_ysu]; rfl
  have rest : q.station = s.station ∧ q.srk = s.srk ∧ q.rst = s.rst ∧ q.oau = s.oau := by
    rw [hq, makeEntry_station, makeEntry_srk, makeEntry_rst, makeEntry_oau]
    exact ⟨rfl, rfl, rfl, rfl⟩
  have entry : s.working = true → entered s q { kind := .keyChange, minute := s.ini.minute } := fun working => by
    rw [hq]
    exact entered_makeEntry (s := keyTurned p s) working .keyChange
  have accounts : accountsKept s q := by
    rw [hq]
    exact accountsKept_makeEntry .keyChange (keyTurned p s)
  clear hq
  obtain ⟨qStation, qSrk, qRst, qOau⟩ := rest
  have unit := sameUnit_ended q q
  have settled := settled_ended q q
  have unmanned := ended_of_unmanned (s := q) (old := q)
  have idle : p = .outOfService → ((finish (settleFrom q q)).ysu.role .give).held = none := fun oos => by
    have out : q.ini.key = .outOfService := by rw [ini]; exact oos
    rw [(unmanned (.inl (by simp [out])) .give).1, claimed_of_stopped (.inr out)]
  have endIni : (finish (settleFrom q q)).ini = q.ini := by rw [finish_ini, settleFrom_ini]
  have endRest : (finish (settleFrom q q)).station = s.station ∧ (finish (settleFrom q q)).srk = s.srk ∧
      (finish (settleFrom q q)).rst = s.rst ∧ (finish (settleFrom q q)).oau = s.oau := by
    simp [qStation, qSrk, qRst, qOau]
  have counts := accountsKept_ended accounts q
  have logged := fun working => entered_ended (entry working) q
  generalize finish (settleFrom q q) = t at *
  rw [ysu] at unit
  rw [ini] at endIni unmanned
  obtain ⟨tStation, tSrk, tRst, tOau⟩ := endRest
  refine ⟨t, done, endIni, logged, unit.order, fun away => ?_, fun auto run hand => ?_, settled.ability, fun away => ?_,
    fun oos => ?_, tSrk, tRst, tOau, unit.table, tStation, counts⟩
  · rw [unit.effective]; simp [keyOrder, away]
  · rw [unit.effective]; simp [keyOrder, auto, run, hand]
  · have off : q.ini.key ≠ .auto := by rw [ini]; exact away
    obtain ⟨take, ableTake⟩ := unmanned (.inl away) .take
    obtain ⟨give, ableGive⟩ := unmanned (.inl away) .give
    obtain ⟨noTake, forced⟩ := claimed_of_unmanned (.inl off)
    exact ⟨congrArg Option.isSome (take.trans noTake), ableTake, ableGive, givesNoMore (give.trans forced)⟩
  · have free : t.station ≠ .run ∨ t.ini.key = .outOfService := .inr (by rw [endIni]; exact oos)
    obtain ⟨inlet, outlet⟩ := settled.command
    rw [if_pos free] at inlet outlet
    exact ⟨congrArg Option.isSome (idle oos), inlet, outlet, settled.mode.trans (if_pos free)⟩

/-! ## Hand and AUTO orders (R129 to R131) -/

/-- The hand order taken, before its entry. -/
def handTaken (d : Duty) (s : State) : State :=
  { s with ysu := { s.ysu with order := .hand d, effective := s.station == .run && s.ini.key == .auto } }

/-- The AUTO order taken, before its entry. -/
def autoTaken (s : State) : State :=
  { s with ysu := { s.ysu with
      order := .auto, effective := false, take := { s.ysu.take with dwell := some Config.dwellTime },
      give := { s.ysu.give with dwell := some Config.dwellTime } } }

/-- What the entry of a hand or AUTO order leaves of the order's work. -/
theorem ordered_work {s : State} (working : s.working = true) (y : Ysu) : ∃ q, q = makeEntry .handOrder { s with ysu := y } ∧
    q.ysu = y ∧ (q.ini = s.ini ∧ q.station = s.station ∧ q.mvc = s.mvc ∧ q.vdu = s.vdu ∧ q.oau = s.oau ∧ q.srk = s.srk) ∧
    entered s q { kind := .handOrder, minute := s.ini.minute } ∧ accountsKept s q ∧ dutyFrame s q := by
  refine ⟨_, rfl, makeEntry_ysu _ _, by simp, entered_makeEntry (s := { s with ysu := y }) working .handOrder,
    accountsKept_makeEntry .handOrder { s with ysu := y }, ?_⟩
  rw [dutyFrame_iff]
  simp

/-- A hand or AUTO order settled and ended leaves the frame of duty sharing, the alarms and the accounts. -/
theorem ordered_ended {s q : State} (oau : q.oau = s.oau) (accounts : accountsKept s q) (frame : dutyFrame s q)
    (table : q.ysu.table = s.ysu.table) : let t := finish (settleFrom q q)
    t.oau = s.oau ∧ t.ysu.table = s.ysu.table ∧ dutyFrame s t ∧ accountsKept s t := by
  refine ⟨?_, (sameUnit_ended q q).table.trans table, dutyFrame_ended frame q, accountsKept_ended accounts q⟩
  rw [finish_oau, settleFrom_oau, oau]

theorem suppressed_congr {s q : State} (oau : q.oau = s.oau) (vdu : q.vdu = s.vdu) (mvc : q.mvc = s.mvc)
    (srk : q.srk = s.srk) (r : Role) : suppressed q r = suppressed s r := by
  cases r <;> simp [suppressed, State.isCurrent, oau, vdu, mvc, srk]

/-- Settles O47. -/
theorem handAndAutoOrdersSetTheDuty : Obligations.HandAndAutoOrdersSetTheDuty := by
  refine ⟨fun d s supply working => ?_, fun s supply working => ?_⟩
  · obtain ⟨q, hq, ysu, ⟨ini, station, mvc, vdu, oau, srk⟩, entry, accounts, frame⟩ := ordered_work working (handTaken d s).ysu
    have done : exec (.hand .own d) s = .next (finish (settle q)) :=
      (exec_ownOrder supply working (.hand d) noReadings).trans (by rw [hq]; rfl)
    rw [settle_eq] at done
    have unit := sameUnit_ended q q
    have unmanaged := ordered_ended oau accounts frame (by rw [ysu]; rfl)
    have logged := entered_ended entry q
    have held : s.station = .run → s.ini.key = .auto → s.isCurrent .numberClash = false → ∀ r,
        ((finish (settleFrom q q)).ysu.role r).held = if suppressed s r = true then none
          else if r = .give ∧ s.mvc.zone = .top then some .limit else if d.includes r = true then some .hand else none := by
      intro run auto clear r
      have blocked : permitted q r = false := by simp [permitted, ysu, handTaken]
      have own : ownClaim q r = if d.includes r = true then some .hand else none := by
        simp [ownClaim, ysu, handTaken, run, auto]
      rw [held_ended, chooseRoles_held_of_unpermitted blocked, claimed_of_manned (station.trans run) (by rw [ini]; exact auto)
        (by rw [State.isCurrent, oau]; exact clear), suppressed_congr oau vdu mvc srk, mvc, own]
    clear hq
    generalize finish (settleFrom q q) = t at *
    rw [ysu] at unit
    refine ⟨t, done, unit.order, unit.effective, logged, fun run auto clear => ?_, unmanaged⟩
    refine ⟨(held run auto clear .take).trans ?_, (held run auto clear .give).trans ?_⟩
    · cases suppressed s .take <;> simp
    · simp
  · obtain ⟨q, hq, ysu, ⟨ini, station, mvc, vdu, oau, srk⟩, entry, accounts, frame⟩ := ordered_work working (autoTaken s).ysu
    have done : exec (.auto .own) s = .next (finish (settle q)) :=
      (exec_ownOrder supply working .auto noReadings).trans (by rw [hq]; rfl)
    rw [settle_eq] at done
    have unit := sameUnit_ended q q
    have unmanaged := ordered_ended oau accounts frame (by rw [ysu]; rfl)
    have logged := entered_ended entry q
    have dwell : ∀ r, (q.ysu.role r).dwell = some 300000 := fun r => by rw [ysu]; cases r <;> rfl
    have dwells : ∀ r, ((finish (settleFrom q q)).ysu.role r).dwell = some 300000 := fun r => by
      rw [finish_ysu, settleFrom_dwell, dwell, ite_self]
    have held : ∀ r, ((finish (settleFrom q q)).ysu.role r).held = claimed q r := fun r => by
      rw [held_ended, chooseRoles_held_of_unpermitted (permitted_of_roleChanged (dwell r))]
    have clash : q.isCurrent .numberClash = s.isCurrent .numberClash := by rw [State.isCurrent, oau]; rfl
    clear hq
    generalize finish (settleFrom q q) = t at *
    rw [ysu] at unit
    refine ⟨t, done, unit.order, unit.effective, dwells .take, dwells .give, logged, fun run auto clear => ?_,
      fun run hand => ?_, fun idle => ?_, unmanaged⟩
    · have own : ∀ r, ownClaim q r = if s.holds r = true then some .automatic else none := fun r => by
        have map : ownClaim q r = (s.ysu.role r).held.map fun _ => Cause.automatic := by
          rw [ownClaim, ysu]
          cases r <;> rfl
        rw [map, State.holds]
        cases (s.ysu.role r).held <;> simp
      have claim : ∀ r, claimed q r = _ := fun r =>
        claimed_of_manned (station.trans run) (by rw [ini]; exact auto) (clash.trans clear) r
      have take := (held .take).trans (claim .take)
      have give := (held .give).trans (claim .give)
      rw [suppressed_congr oau vdu mvc srk, mvc, own] at take give
      refine ⟨fun h => take.trans (by simp [h]), fun h => take.trans (by simp only [h]; rfl), fun h => give.trans (by simp [h]),
        fun h => give.trans (by simp [h]; rfl)⟩
    · have unmanned : q.ini.key ≠ .auto ∨ q.isCurrent .numberClash = true := by
        rw [ini, clash]
        exact hand.imp (fun h => by simp [h]) And.right
      obtain ⟨take, give⟩ := claimed_of_unmanned unmanned
      have key : s.ini.key ≠ .outOfService := by rcases hand with h | ⟨h, -⟩ <;> simp [h]
      have forced : forcedNow q = true ↔ s.mvc.zone = .top ∧ s.vdu.outlet.state ≠ .fault := by
        rw [forcedNow_iff, ini, station, mvc, vdu]
        simp [run, key]
      exact ⟨(held .take).trans take, (held .give).trans (give.trans (if_congr forced rfl rfl))⟩
    · have stopped : q.station ≠ .run ∨ q.ini.key = .outOfService := by
        rw [ini, station]
        exact idle.imp_left fun h => by simp [h]
      exact ⟨congrArg Option.isSome ((held .take).trans (claimed_of_stopped stopped _)),
        congrArg Option.isSome ((held .give).trans (claimed_of_stopped stopped _))⟩

end Sys2Proof.Machine

end

/-! Duty sharing's own timers: a dwell, the relearn hold, a join delay, a call or a release that runs out (R116 to R128), and
the clash and silence timers (R101, R103). -/

section

namespace Sys2Proof.Machine

/-! ## A role's record replaced, its part unchanged -/

theorem holds_updateRole {r : Role} {f : RoleState → RoleState} {s : State}
    (held : (f (s.ysu.role r)).held = (s.ysu.role r).held) (q : Role) : (updateRole r f s).holds q = s.holds q := by
  by_cases same : q = r
  · rw [same, State.holds, State.holds, updateRole_role, held]
  · rw [State.holds, State.holds, updateRole_other _ _ _ _ same]

theorem conditionHolds_updateRole {r : Role} {f : RoleState → RoleState} {s : State}
    (held : (f (s.ysu.role r)).held = (s.ysu.role r).held) (q : Role) (k : CallKind) :
    conditionHolds (updateRole r f s) q k = conditionHolds s q k :=
  conditionHolds_congr (s := s) (t := updateRole r f s) rfl rfl rfl (updateRole_same r f s).table (holds_updateRole held q)
    (fun _ _ => rfl) k

theorem memberCount_updateRole {r : Role} {f : RoleState → RoleState} {s : State}
    (held : (f (s.ysu.role r)).held = (s.ysu.role r).held) (q : Role) :
    (updateRole r f s).memberCount q = s.memberCount q := by
  rw [State.memberCount, State.memberCount, holds_updateRole held, (updateRole_same r f s).table]

theorem rankAmong_congr {s t : State} (mvc : t.mvc.turnoverDue = s.mvc.turnoverDue ∧ t.mvc.cycles = s.mvc.cycles)
    (srk : t.srk = s.srk) (number : t.number = s.number) (r : Role) (peers : List PeerEntry) :
    t.rankAmong r peers = s.rankAmong r peers := by
  rw [State.rankAmong, State.rankAmong, State.figures, State.figures, mvc.1, mvc.2, srk, number]

theorem joinRank_updateRole (r : Role) (f : RoleState → RoleState) (s : State) (q : Role) :
    (updateRole r f s).joinRank q = s.joinRank q := by
  rw [State.joinRank, State.joinRank, (updateRole_same r f s).table]
  rfl

theorem memberRank_updateRole (r : Role) (f : RoleState → RoleState) (s : State) (q : Role) :
    (updateRole r f s).memberRank q = s.memberRank q := by
  rw [State.memberRank, State.memberRank, (updateRole_same r f s).table]
  rfl

theorem canHold_updateRole (r : Role) (f : RoleState → RoleState) (s : State) (q : Role) :
    canHold (updateRole r f s) q = canHold s q := by cases q <;> rfl

theorem suppressed_updateRole (r : Role) (f : RoleState → RoleState) (s : State) (q : Role) :
    suppressed (updateRole r f s) q = suppressed s q := by cases q <;> rfl

theorem permitted_updateRole {r : Role} {f : RoleState → RoleState} {s : State}
    (dwell : (f (s.ysu.role r)).dwell = (s.ysu.role r).dwell) : permitted (updateRole r f s) r = permitted s r :=
  permitted_congr rfl rfl (updateRole_same r f s).order (updateRole_same r f s).relearn rfl (by rw [updateRole_role, dwell])

theorem dutyFrame_updateRole (r : Role) (f : RoleState → RoleState) (s : State) : dutyFrame s (updateRole r f s) := rfl

theorem accountsKept_of_acu {s t : State} (acu : t.acu = s.acu) : accountsKept s t := by
  unfold accountsKept
  rw [acu]
  exact ⟨rfl, rfl, rfl, rfl, rfl, rfl, rfl, rfl⟩

theorem joinRank_pos (s : State) (r : Role) : 1 ≤ s.joinRank r := by
  unfold State.joinRank State.rankAmong
  omega

/-! ## The claim of a station left to the standing rules -/

/-- In RUN at AUTO, with no hand order and no clash, a role that is not suppressed keeps its part, but for the LIMIT give. -/
theorem claimed_of_auto {s : State} {r : Role} (run : s.station = .run) (auto : s.ini.key = .auto) (order : s.ysu.order = .auto)
    (clear : s.isCurrent .numberClash = false) (free : suppressed s r = false) : claimed s r =
      if r = .give ∧ s.mvc.zone = .top then some .limit else (s.ysu.role r).held.map fun _ => Cause.automatic := by
  have own : ownClaim s r = (s.ysu.role r).held.map fun _ => Cause.automatic := by
    rw [ownClaim, order]
    cases s.ysu.effective <;> rfl
  rw [claimed_of_manned run auto clear, if_neg (by simp [free]), own]

theorem claimed_of_permitted {s : State} {r : Role} (allowed : permitted s r = true) (free : suppressed s r = false) :
    claimed s r = if r = .give ∧ s.mvc.zone = .top then some .limit
      else (s.ysu.role r).held.map fun _ => Cause.automatic := by
  obtain ⟨run, auto, order, -, -, clear, -⟩ := (permitted_iff s r).1 allowed
  exact claimed_of_auto run auto order clear free

theorem isSome_automatic (s : State) (r : Role) : ((s.ysu.role r).held.map fun _ => Cause.automatic).isSome = s.holds r := by
  rw [Option.isSome_map, State.holds]

/-! ## The standing rules' terms, where the claim keeps the role -/

theorem claimsJudged_figures (s : State) : (claimsJudged s).mvc.turnoverDue = s.mvc.turnoverDue ∧
    (claimsJudged s).mvc.cycles = s.mvc.cycles := by
  rw [claimsJudged_mvc]
  exact ⟨rfl, rfl⟩

theorem claimsJudged_joinRank (s : State) (r : Role) : (claimsJudged s).joinRank r = s.joinRank r := by
  rw [State.joinRank, State.joinRank, (claimsJudged_same s).table]
  exact rankAmong_congr (claimsJudged_figures s) (claimsJudged_srk s) (claimsJudged_number s) r _

theorem claimsJudged_memberRank (s : State) (r : Role) : (claimsJudged s).memberRank r = s.memberRank r := by
  rw [State.memberRank, State.memberRank, (claimsJudged_same s).table]
  exact rankAmong_congr (claimsJudged_figures s) (claimsJudged_srk s) (claimsJudged_number s) r _

section Kept

variable {s : State} {r : Role} (kept : (claimed s r).isSome = s.holds r)

include kept

theorem claimsJudged_holds_kept : (claimsJudged s).holds r = s.holds r := (claimsJudged_holds r s).trans kept

theorem claimsJudged_permitted : permitted (claimsJudged s) r = permitted s r := by
  have unit := claimsJudged_same s
  refine permitted_congr (claimsJudged_station s) (claimsJudged_ini s) unit.order unit.relearn (by simp) ?_
  rw [claimsJudged_role_kept kept, (delayJudged_frame _ _ _).2.2.1]
  rfl

theorem claimsJudged_memberCount : (claimsJudged s).memberCount r = s.memberCount r := by
  rw [State.memberCount, State.memberCount, claimsJudged_holds_kept kept, (claimsJudged_same s).table]

theorem claimsJudged_ableNonMember : (claimsJudged s).ableNonMember r = (canHold s r && !s.holds r) := by
  rw [State.ableNonMember, claimsJudged_able, claimsJudged_holds_kept kept]

theorem noMemberJoin_claimsJudged : noMemberJoin (claimsJudged s) r =
    ((canHold s r && !s.holds r) && s.memberCount r == 0 && s.joinRank r == 1) := by
  rw [noMemberJoin, claimsJudged_ableNonMember kept, claimsJudged_memberCount kept, claimsJudged_joinRank]

/-- A call that is judged active on an able non-member with no delay is worked, and no other (R119). -/
theorem callJoin_claimsJudged_iff (still : (s.ysu.role r).delay = none) : callJoin (claimsJudged s) r = true ↔
    (canHold s r = true ∧ s.holds r = false) ∧ conditionHolds s r .call = true ∧ (s.ysu.role r).call = .active := by
  obtain ⟨call, -, -, -, -, none_, -⟩ := delayJudged_frame s r
    (timed s r { s.ysu.role r with able := canHold s r, held := claimed s r })
  have delay : ((claimsJudged s).ysu.role r).delay = none := by
    rw [claimsJudged_role_kept kept]
    exact none_ still
  rw [callJoin, claimsJudged_ableNonMember kept, delay, claimsJudged_role_kept kept, call]
  simp [timed, judge_active_iff]

/-- An active release is worked on an AUTOMATIC member of last rank, and on no other (R122). -/
theorem releaseLeave_claimsJudged_iff : releaseLeave (claimsJudged s) r = true ↔
    (conditionHolds s r .release = true ∧ (s.ysu.role r).release = .active) ∧ claimed s r = some .automatic ∧
      s.memberRank r = s.memberCount r := by
  have release : ((claimsJudged s).ysu.role r).release =
      CallTimer.judge (conditionHolds s r .release) (s.ysu.role r).release := by
    rw [claimsJudged_role_kept kept, (delayJudged_frame _ _ _).2.1]
    rfl
  rw [releaseLeave, claimsJudged_held, claimsJudged_memberCount kept, claimsJudged_memberRank, release]
  simp [judge_active_iff, and_assoc]

/-- The no-member join (R118). -/
theorem chooseRoles_joins_first (allowed : permitted s r = true) (able : canHold s r = true) (free : s.holds r = false)
    (none_ : s.memberCount r = 0) (first : s.joinRank r = 1) : ((chooseRoles s).ysu.role r).held = some .automatic := by
  have join : noMemberJoin (claimsJudged s) r = true := by simp [noMemberJoin_claimsJudged kept, able, free, none_, first]
  rw [chooseRoles_role, standingRules, if_pos ((claimsJudged_permitted kept).trans allowed), if_pos join]
  exact changeRole_held _ _ _

/-- Where the station is no able non-member of first rank to a role with no member, and no call is worked, nothing joins. -/
theorem chooseRoles_stays_out (free : s.holds r = false)
    (later : canHold s r = false ∨ s.memberCount r ≠ 0 ∨ s.joinRank r ≠ 1)
    (quiet : callJoin (claimsJudged s) r = true → 1 < s.joinRank r) : (chooseRoles s).holds r = false := by
  have out : (claimsJudged s).holds r = false := (claimsJudged_holds_kept kept).trans free
  have notFirst : noMemberJoin (claimsJudged s) r = false := by
    rw [noMemberJoin_claimsJudged kept]
    rcases later with h | h | h <;> simp [h]
  rw [State.holds, chooseRoles_role]
  rcases standingRules_cases r (claimsJudged s) with ⟨stays, -⟩ | ⟨-, join, -⟩ | ⟨-, -, -, -, delays⟩ | ⟨-, -, -, -, leaves⟩
  · rw [stays]
    exact out
  · rcases join with first | ⟨-, call, lead⟩
    · simp [notFirst] at first
    · rw [claimsJudged_joinRank] at lead
      have := quiet call
      omega
  · rw [delays]
    exact out
  · rw [leaves, leaveRole, changeRole_held]
    rfl

end Kept

/-! ## A role at an event's end -/

theorem holds_ended (old q : State) (r : Role) : (finish (settleFrom old q)).holds r = (chooseRoles q).holds r := by
  rw [State.holds, State.holds, held_ended]

/-- A role joined or left at an event's end has its dwell begun, no delay and its timers restarted. -/
theorem ended_role_changed {old q : State} {r : Role} (changed : (finish (settleFrom old q)).holds r ≠ q.holds r) :
    let x := (finish (settleFrom old q)).ysu.role r
    x.dwell = some 300000 ∧ x.delay = none ∧ x.call ≠ .active ∧ x.release ≠ .active := by
  rw [State.holds, finish_ysu] at changed
  obtain ⟨dwell, delay, call, release⟩ := settleFrom_role_changed changed
  intro x
  have role : x = (settleFrom old q).ysu.role r := by rw [← finish_ysu]
  rw [role]
  refine ⟨dwell, delay, ?_, ?_⟩
  · rw [call]; exact restarted_ne_active _
  · rw [release]; exact restarted_ne_active _

theorem ended_dwell (old q : State) (r : Role) : ((finish (settleFrom old q)).ysu.role r).dwell =
    if (finish (settleFrom old q)).holds r = q.holds r then (q.ysu.role r).dwell else some 300000 := by
  rw [State.holds, finish_ysu, settleFrom_dwell]
  rfl

/-- At an event's end an able station of first rank has joined a role with no member, and one of a later rank has not, where
no call of that role is active (R118). -/
theorem ended_first_join {old q : State} {r : Role} (allowed : permitted q r = true) (able : canHold q r = true)
    (sup : suppressed q r = false) (free : q.holds r = false) (none_ : q.memberCount r = 0) (low : r = .take ∨ q.mvc.zone ≠ .top) :
    (q.joinRank r = 1 → ((finish (settleFrom old q)).ysu.role r).held = some .automatic ∧
      ((finish (settleFrom old q)).ysu.role r).dwell = some 300000) ∧
    (2 ≤ q.joinRank r → (finish (settleFrom old q)).holds r = false) := by
  have notTop : ¬ (r = .give ∧ q.mvc.zone = .top) := by
    rintro ⟨give, top⟩
    rcases low with h | h
    · rw [give] at h
      cases h
    · exact h top
  have kept : (claimed q r).isSome = q.holds r := by
    rw [claimed_of_permitted allowed sup, if_neg notTop, isSome_automatic]
  refine ⟨fun first => ?_, fun later => ?_⟩
  · have joins := chooseRoles_joins_first kept allowed able free none_ first
    have changed : (finish (settleFrom old q)).holds r ≠ q.holds r := by
      rw [holds_ended, free, State.holds, joins]
      decide
    exact ⟨(held_ended old q r).trans joins, (ended_role_changed changed).1⟩
  · rw [holds_ended]
    exact chooseRoles_stays_out kept free (.inr (.inr (by omega))) fun _ => by omega

/-! ## The dwell and the relearn hold (R108, R117, R118, R123, R128) -/

theorem exec_dwell {s : State} {r : Role} (supply : s.supply = true) (runs : (s.ysu.role r).dwell.isSome = true) :
    exec (.dwellTimerExpiry r) s = .next (finish (settle (updateRole r (fun x => { x with dwell := none }) s))) := by
  show Host.Outcome.next _ = _
  rw [powered_of_supply supply, dwellExpired, if_pos runs]

theorem exec_relearn {s : State} (supply : s.supply = true) (runs : s.ysu.relearn.isSome = true) :
    exec .relearnHoldTimerExpiry s = .next (finish (settle { s with ysu := { s.ysu with relearn := none } })) := by
  show Host.Outcome.next _ = _
  rw [powered_of_supply supply, relearnExpired, if_pos runs]

/-- An event whose own work touches the yard sharing unit alone. -/
theorem ended_ofYsu {s q : State} (y : Ysu) (work : q = { s with ysu := y }) (order : y.order = s.ysu.order)
    (table : y.table = s.ysu.table) : let t := finish (settleFrom q q)
    t.ysu.order = s.ysu.order ∧ t.ysu.table = s.ysu.table ∧ t.oau = s.oau ∧ dutyFrame s t ∧ accountsKept s t := by
  have unit := sameUnit_ended q q
  refine ⟨unit.order.trans ?_, unit.table.trans ?_, ?_, dutyFrame_ended ?_ q, accountsKept_ended (accountsKept_of_acu ?_) q⟩
  · rw [work, order]
  · rw [work, table]
  · rw [finish_oau, settleFrom_oau, work]
  · rw [work]
  · rw [work]

/-- Settles O46. -/
theorem dwellAndRelearnExpire : Obligations.DwellAndRelearnExpire := by
  refine ⟨fun r s supply runs => ?_, fun s supply runs => ?_,
    fun r s supply runs run auto order alone relearn clear able sup free none_ low => ?_,
    fun r s supply runs dwell run auto order alone clear able sup free none_ low => ?_⟩
  · obtain ⟨q, hq⟩ : ∃ q, q = updateRole r (fun x => { x with dwell := none }) s := ⟨_, rfl⟩
    have done := exec_dwell supply runs
    rw [← hq, settle_eq] at done
    have stopped : (q.ysu.role r).dwell = none := by rw [hq, updateRole_role]
    have same : q.holds r = s.holds r := by rw [hq]; exact holds_updateRole rfl r
    have unit := updateRole_same r (fun x => { x with dwell := none }) s
    refine ⟨_, done, ?_, ended_ofYsu q.ysu (by rw [hq]; rfl) (by rw [hq, unit.order]) (by rw [hq, unit.table])⟩
    rw [ended_dwell, same, stopped]
  · obtain ⟨q, hq⟩ : ∃ q : State, q = { s with ysu := { s.ysu with relearn := none } } := ⟨_, rfl⟩
    have done := exec_relearn supply runs
    rw [← hq, settle_eq] at done
    refine ⟨_, done, (sameUnit_ended q q).relearn.trans (by rw [hq]), ended_ofYsu _ hq rfl rfl⟩
  · obtain ⟨q, hq⟩ : ∃ q, q = updateRole r (fun x => { x with dwell := none }) s := ⟨_, rfl⟩
    have done := exec_dwell supply runs
    rw [← hq, settle_eq] at done
    have allowed : permitted q r = true := by
      have unit := updateRole_same r (fun x => { x with dwell := none }) s
      rw [permitted_iff, hq, updateRole_role, unit.order, unit.relearn]
      exact ⟨run, auto, order, alone, relearn, clear, rfl⟩
    refine ⟨_, done, ?_⟩
    have joins := ended_first_join (old := q) allowed (by rw [hq, canHold_updateRole, able])
      (by rw [hq, suppressed_updateRole, sup]) (by rw [hq, holds_updateRole rfl, free])
      (by rw [hq, memberCount_updateRole rfl, none_]) (by rw [hq]; exact low)
    rwa [show q.joinRank r = s.joinRank r by rw [hq, joinRank_updateRole]] at joins
  · obtain ⟨q, hq⟩ : ∃ q : State, q = { s with ysu := { s.ysu with relearn := none } } := ⟨_, rfl⟩
    have done := exec_relearn supply runs
    rw [← hq, settle_eq] at done
    have role : q.ysu.role r = s.ysu.role r := by rw [hq]; cases r <;> rfl
    have holds : q.holds r = s.holds r := by rw [State.holds, State.holds, role]
    have allowed : permitted q r = true := by
      rw [permitted_iff, role, dwell, hq]
      exact ⟨run, auto, order, alone, rfl, clear, rfl⟩
    have count : q.memberCount r = s.memberCount r := by rw [State.memberCount, State.memberCount, holds, hq]
    refine ⟨_, done, ?_⟩
    have joins := ended_first_join (old := q) allowed (by rw [← able, hq]; cases r <;> rfl)
      (by rw [← sup, hq]; cases r <;> rfl) (holds.trans free) (count.trans none_) (by rw [hq]; exact low)
    rwa [show q.joinRank r = s.joinRank r by rw [hq]; rfl] at joins

/-! ## The clash and silence timers (R101, R103) -/

theorem exec_clash {s : State} (supply : s.supply = true) (runs : s.ysu.clash.isSome = true) :
    exec .clashTimerExpiry s =
      .next (finish (settle (cease .numberClash { s with ysu := { s.ysu with clash := none } }))) := by
  show Host.Outcome.next _ = _
  rw [powered_of_supply supply, clashExpired, if_pos runs]

theorem exec_silence {s : State} (supply : s.supply = true) (run : s.station = .run) (runs : s.ysu.silence.isSome = true) :
    exec .silenceTimerExpiry s =
      .next (finish (settle (raiseWithEntry .alone .alone { s with ysu := { s.ysu with silence := none } }))) := by
  show Host.Outcome.next _ = _
  rw [powered_of_supply supply, silenceExpired, if_pos ⟨run, runs⟩]

/-- A kind raised with its event entry, where it was not current. -/
theorem raiseWithEntry_of_free {k : AlarmKind} {s : State} (e : EventKind) (free : s.isCurrent k = false) :
    raiseWithEntry k e s = makeEntry e (raise k s) := if_neg (by simp [free])

theorem entered_of_raise {s : State} (working : s.working = true) (k : AlarmKind) (e : EventKind) :
    entered s (makeEntry e (raise k s)) { kind := e, minute := s.ini.minute } := by
  have entry := entered_makeEntry (s := raise k s) (by simpa [State.working] using working) e
  unfold entered at *
  rwa [raise_acu, raise_ini] at entry

theorem working_of_run {s : State} (run : s.station = .run) : s.working = true := by simp [State.working, run]

/-- Settles O44. -/
theorem clashAndSilenceExpire : Obligations.ClashAndSilenceExpire := by
  refine ⟨fun s supply runs => ?_, fun s supply run runs free => ?_⟩
  · obtain ⟨q, hq⟩ : ∃ q, q = cease .numberClash { s with ysu := { s.ysu with clash := none } } := ⟨_, rfl⟩
    have done := exec_clash supply runs
    rw [← hq, settle_eq] at done
    have unit := sameUnit_ended q q
    have current : ∀ k, q.isCurrent k = (s.isCurrent k && decide (k ≠ .numberClash)) := fun k => by
      rw [hq, isCurrent_cease]
      rfl
    refine ⟨_, done, ?_, unit.clash.trans (by rw [hq]; rfl), ?_, fun k other => ?_, (settled_ended q q).ability,
      unit.table.trans (by rw [hq]; rfl), dutyFrame_ended (by rw [hq]; rfl) q,
      accountsKept_ended (accountsKept_of_acu (by rw [hq]; rfl)) q⟩
    · rw [isCurrent_ended, current]; simp
    · rw [finish_oau, settleFrom_oau, hq]; rfl
    · rw [isCurrent_ended, current]; simp [other]
  · obtain ⟨z, hz⟩ : ∃ z : State, z = { s with ysu := { s.ysu with silence := none } } := ⟨_, rfl⟩
    obtain ⟨q, hq⟩ : ∃ q, q = makeEntry .alone (raise .alone z) := ⟨_, rfl⟩
    have zFree : z.isCurrent .alone = false := by rw [hz]; exact free
    have done := exec_silence supply run runs
    rw [← hz, raiseWithEntry_of_free _ zFree, ← hq, settle_eq] at done
    have unit := sameUnit_ended q q
    have current : ∀ k, (finish (settleFrom q q)).isCurrent k = (s.isCurrent k || decide (k = .alone)) := fun k => by
      rw [isCurrent_ended, hq, isCurrent_makeEntry, isCurrent_raise, hz]
      rfl
    have latched : (finish (settleFrom q q)).isLatched .alone = true := by
      rw [State.isLatched, finish_oau, settleFrom_oau, hq, makeEntry_oau]
      exact isLatched_raise (by simp [zFree])
    have ysu : q.ysu = z.ysu := by rw [hq]; simp
    have entry : entered s q { kind := .alone, minute := s.ini.minute } := by
      have at_ := entered_of_raise (s := z) (working_of_run (by rw [hz]; exact run)) .alone .alone
      rw [hq]
      rw [hz] at at_ ⊢
      exact at_
    have frame : dutyFrame s q := by
      rw [dutyFrame_iff, hq]
      simp [hz]
    have accounts : accountsKept s q := by
      have kept := accountsKept_makeEntry .alone (raise .alone z)
      rw [hq]
      unfold accountsKept at *
      rw [raise_acu] at kept
      rw [hz] at kept ⊢
      exact kept
    refine ⟨_, done, by simp [current], latched, unit.silence.trans (by rw [ysu, hz]), fun k other => by simp [current, other],
      entered_ended entry q, unit.table.trans (by rw [ysu, hz]), dutyFrame_ended frame q, accountsKept_ended accounts q⟩

end Sys2Proof.Machine

end

/-! Calls and releases that run out, and join delays (R119 to R122). -/

section

namespace Sys2Proof.Machine

theorem exec_call {s : State} {r : Role} {k : CallKind} {left : Nat} (supply : s.supply = true)
    (runs : (s.ysu.role r).timer k = .running left) :
    exec (.callReleaseTimerExpiry r k) s = .next (finish (settle (updateRole r (fun x => x.activate k) s))) := by
  show Host.Outcome.next _ = _
  rw [powered_of_supply supply, callExpired, if_pos (by rw [runs]; rfl)]

theorem exec_delay {s : State} {r : Role} {d : JoinDelay} (supply : s.supply = true) (runs : (s.ysu.role r).delay = some d) :
    exec (.joinDelayExpiry r) s = .next (finish (settleFrom s (endDelay r s))) := by
  show Host.Outcome.next _ = _
  rw [powered_of_supply supply, delayExpired, if_pos (by rw [runs]; rfl)]

/-- An event whose own work touches one role's record alone. -/
theorem ended_ofRole (old : State) {s q : State} (y : Ysu) (work : q = { s with ysu := y }) :
    let t := finish (settleFrom old q)
    t.oau = s.oau ∧ dutyFrame s t ∧ accountsKept s t := by
  refine ⟨?_, dutyFrame_ended ?_ old, accountsKept_ended (accountsKept_of_acu ?_) old⟩
  · rw [finish_oau, settleFrom_oau, work]
  · rw [work]
  · rw [work]

/-- A role joined by its claim or by a standing rule, in the terms in which the pass found it. -/
theorem joined_of_call {q : State} {r : Role} (old : State) (allowed : permitted q r = true) (able : canHold q r = true)
    (sup : suppressed q r = false) (free : q.holds r = false) (holds : conditionHolds q r .call = true)
    (active : (q.ysu.role r).call = .active) (still : (q.ysu.role r).delay = none) (first : q.joinRank r = 1) :
    (finish (settleFrom old q)).holds r = true := by
  have held : (q.ysu.role r).held = none := by simpa [State.holds] using free
  rw [holds_ended]
  by_cases top : r = .give ∧ q.mvc.zone = .top
  · have claim : claimed q r = some .limit := by rw [claimed_of_permitted allowed sup, if_pos top]
    rcases chooseRoles_role_cases r q with ⟨changed, -⟩ | ⟨-, kept, -⟩
    · rw [free] at changed
      simpa using changed
    · simp [claim, free] at kept
  · have kept : (claimed q r).isSome = q.holds r := by rw [claimed_of_permitted allowed sup, if_neg top, isSome_automatic]
    have call : callJoin (claimsJudged q) r = true := (callJoin_claimsJudged_iff kept still).2 ⟨⟨able, free⟩, holds, active⟩
    have joins : standingRules r (claimsJudged q) = joinRole r (claimsJudged q) := by
      have lead : (claimsJudged q).joinRank r ≤ 1 := by rw [claimsJudged_joinRank, first]
      rw [standingRules, if_pos ((claimsJudged_permitted kept).trans allowed), if_pos call, startDelay, if_pos lead, ite_self]
    rw [State.holds, chooseRoles_role, joins, joinRole, changeRole_held]
    rfl

/-- A call active on an able non-member of a later rank begins a delay (R119). -/
theorem chooseRoles_delays {q : State} {r : Role} (kept : (claimed q r).isSome = q.holds r) (allowed : permitted q r = true)
    (able : canHold q r = true) (free : q.holds r = false) (holds : conditionHolds q r .call = true)
    (active : (q.ysu.role r).call = .active) (still : (q.ysu.role r).delay = none) (later : 2 ≤ q.joinRank r) :
    (chooseRoles q).ysu.role r = { (claimsJudged q).ysu.role r with
      delay := some { left := (q.joinRank r - 1) * 20000, countKept := q.memberCount r } } := by
  have call : callJoin (claimsJudged q) r = true := (callJoin_claimsJudged_iff kept still).2 ⟨⟨able, free⟩, holds, active⟩
  have notFirst : noMemberJoin (claimsJudged q) r = false := by
    rw [noMemberJoin_claimsJudged kept, able, free]
    simp [show q.joinRank r ≠ 1 by omega]
  have rank := claimsJudged_joinRank q r
  have notLead : ¬ (claimsJudged q).joinRank r ≤ 1 := by omega
  rw [chooseRoles_role, standingRules, if_pos ((claimsJudged_permitted kept).trans allowed), if_neg (by simp [notFirst]),
    if_pos call, startDelay, if_neg notLead, updateRole_role, rank, claimsJudged_memberCount kept]
  rfl

/-- A call that comes active finds an able non-member of a later rank: its delay has begun, and the call stands active at the
event's end (R119). -/
theorem delay_of_call {q : State} {r : Role} (old : State) (allowed : permitted q r = true) (able : canHold q r = true)
    (sup : suppressed q r = false) (free : q.holds r = false) (holds : conditionHolds q r .call = true)
    (active : (q.ysu.role r).call = .active) (still : (q.ysu.role r).delay = none) (later : 2 ≤ q.joinRank r)
    (low : r = .take ∨ q.mvc.zone ≠ .top) : (settleFrom old q).holds r = false ∧
      ((settleFrom old q).ysu.role r).call = .active ∧ ((settleFrom old q).ysu.role r).delay =
        some { left := (q.joinRank r - 1) * 20000, countKept := q.memberCount r } ∧
      ((settleFrom old q).ysu.role r).dwell = none := by
  have notTop : ¬ (r = .give ∧ q.mvc.zone = .top) := by
    rintro ⟨give, top⟩
    exact low.elim (fun h => by rw [give] at h; cases h) (fun h => h top)
  have kept : (claimed q r).isSome = q.holds r := by rw [claimed_of_permitted allowed sup, if_neg notTop, isSome_automatic]
  have chosen := chooseRoles_delays kept allowed able free holds active still later
  have notHeld : ((chooseRoles q).ysu.role r).held.isSome = false := by
    rw [chosen]
    exact (claimsJudged_holds_kept kept).trans free
  have out : (settleFrom old q).holds r = false := (settleFrom_holds old r q).trans notHeld
  obtain ⟨dwell, ringing, -, -⟩ := settleFrom_role_kept (old := old) (out.trans free.symm)
  obtain ⟨-, -, -, -, -, -, noDwell⟩ := (permitted_iff q r).1 allowed
  have condition : conditionHolds (settleFrom old q) r .call = true := by
    rw [← holds]
    refine conditionHolds_congr (s := q) (t := settleFrom old q) (by simp) (by simp) (by simp) (settleFrom_same old q).table
      (out.trans free.symm) (fun give held => ?_) .call
    rw [give] at free
    exact absurd (free.symm.trans held) (by decide)
  have stillAllowed : permitted (settleFrom old q) r = true := by
    rw [← allowed]
    exact permitted_congr (by simp) (by simp) (settleFrom_same old q).order (settleFrom_same old q).relearn (by simp) dwell
  have callEnds : ((settleFrom old q).ysu.role r).call = .active := by
    rw [ringing, active]
    exact (judge_active_iff _ _).2 ⟨condition, (judge_active_iff _ _).2 ⟨holds, rfl⟩⟩
  refine ⟨out, callEnds, ?_, dwell.trans noDwell⟩
  have ableEnds := (chooseRoles_able r q).trans able
  have role := settleFrom_role old r q
  generalize (settleFrom old q) = t at *
  generalize (chooseRoles q).ysu.role r = x at *
  have timers : (timed t r x).call = .active := by
    rw [← callEnds, role, (delayJudged_frame _ _ _).1]
  have member : ((timed t r x).able && !(timed t r x).held.isSome) = true := by
    show (x.able && !x.held.isSome) = true
    rw [ableEnds, notHeld]
    rfl
  rw [role, delayJudged, if_pos ⟨timers, member, stillAllowed⟩, chosen]
  rfl

/-- A release that comes active takes out an AUTOMATIC member of last rank (R122). -/
theorem left_of_release {q : State} {r : Role} (old : State) (allowed : permitted q r = true) (sup : suppressed q r = false)
    (held : (q.ysu.role r).held = some .automatic) (holds : conditionHolds q r .release = true)
    (active : (q.ysu.role r).release = .active) (last : q.memberRank r = q.memberCount r)
    (low : r = .take ∨ q.mvc.zone ≠ .top) : (finish (settleFrom old q)).holds r = false := by
  have notTop : ¬ (r = .give ∧ q.mvc.zone = .top) := by
    rintro ⟨give, top⟩
    exact low.elim (fun h => by rw [give] at h; cases h) (fun h => h top)
  have claim : claimed q r = some .automatic := by
    rw [claimed_of_permitted allowed sup, if_neg notTop, held]
    rfl
  have member : q.holds r = true := by rw [State.holds, held]; rfl
  have kept : (claimed q r).isSome = q.holds r := by rw [claim, member]; rfl
  have able : (claimsJudged q).ableNonMember r = false := by rw [claimsJudged_ableNonMember kept, member]; simp
  have leave := (releaseLeave_claimsJudged_iff kept).2 ⟨⟨holds, active⟩, claim, last⟩
  have leaves : standingRules r (claimsJudged q) = leaveRole r (claimsJudged q) := by
    rw [standingRules, if_pos ((claimsJudged_permitted kept).trans allowed), noMemberJoin, callJoin, able]
    exact if_pos leave
  rw [holds_ended, State.holds, chooseRoles_role, leaves, leaveRole, changeRole_held]
  rfl

/-- A join delay that ends in a join (R121): the role joined by the event's own work stands joined at its end. -/
theorem joined_of_delay {s : State} {r : Role} (old : State) (allowed : permitted s r = true) (sup : suppressed s r = false)
    (q : State) (work : q = joinRole r (updateRole r (fun x => { x with delay := none }) s)) :
    let t := finish (settleFrom old q)
    t.holds r = true ∧ (t.ysu.role r).dwell = some 300000 ∧ (t.ysu.role r).delay = none ∧ (t.ysu.role r).call ≠ .active := by
  obtain ⟨a, b, role⟩ := changeRole_role r (some .automatic) (updateRole r (fun x => { x with delay := none }) s)
  rw [← joinRole, ← work] at role
  have member : q.holds r = true := by rw [State.holds, role]; rfl
  have dwell : (q.ysu.role r).dwell = some 300000 := by rw [role]; rfl
  have quiet : (q.ysu.role r).call ≠ .active := by rw [role]; exact restarted_ne_active a
  obtain ⟨run, auto, order, -, -, clear, -⟩ := (permitted_iff s r).1 allowed
  have unit : SameUnit q.ysu s.ysu := by
    rw [work]
    exact (changeRole_same r _ _).trans (updateRole_same r _ s)
  have claim : (claimed q r).isSome = true := by
    have free : suppressed q r = false := by
      rw [← sup, work]
      cases r <;> rfl
    rw [claimed_of_auto (by rw [work]; exact run) (by rw [work]; exact auto) (unit.order.trans order)
      (by rw [work]; exact clear) free]
    split
    · rfl
    · rw [isSome_automatic, member]
  have stays : (settleFrom old q).holds r = true := by
    rw [settleFrom_holds, State.holds, chooseRoles_held_of_unpermitted (permitted_of_roleChanged dwell), claim]
  obtain ⟨rests, call, -, delay⟩ := settleFrom_role_kept (stays.trans member.symm)
  intro t
  rw [State.holds, show t.ysu = (settleFrom old q).ysu from finish_ysu _]
  refine ⟨stays, rests.trans dwell, delay quiet, ?_⟩
  rw [call, role, judge_restarted, judge_restarted]
  exact restarted_ne_active _

/-- A join delay that ends without a join: no delay stands at the event's end (R121). -/
theorem undelayed_of_idle {s q : State} {r : Role} (old : State) (work : q = updateRole r (fun x => { x with delay := none }) s)
    (idle : (s.ysu.role r).call ≠ .active ∨ s.ableNonMember r = false ∨ permitted s r = false) (ability : abilityLaw s) :
    ((finish (settleFrom old q)).ysu.role r).delay = none ∧
      (permitted s r = true → (claimed q r).isSome = q.holds r → callJoin (claimsJudged q) r = false) := by
  have still : (q.ysu.role r).delay = none := by rw [work, updateRole_role]
  have ableLaw : (s.ysu.role r).able = canHold s r := by
    obtain ⟨take, give⟩ := ability
    cases r with
    | take => exact Bool.eq_iff_iff.2 (take.trans (canTake_iff s).symm)
    | give => exact Bool.eq_iff_iff.2 (give.trans (canGive_iff s).symm)
  have noCall : permitted s r = true → (claimed q r).isSome = q.holds r → callJoin (claimsJudged q) r = false := by
    intro allowed kept
    rw [Bool.eq_false_iff]
    intro call
    obtain ⟨⟨able, free⟩, -, active⟩ := (callJoin_claimsJudged_iff kept still).1 call
    rw [work, canHold_updateRole] at able
    rw [work, holds_updateRole rfl] at free
    rw [work, updateRole_role] at active
    rcases idle with quiet | unable | blocked
    · exact quiet active
    · simp [State.ableNonMember, ableLaw, able, free] at unable
    · simp [allowed] at blocked
  refine ⟨?_, noCall⟩
  rw [finish_ysu, settleFrom_role]
  refine (judgedRole_frame _ r _ rfl).2.2.2 ?_
  by_cases kept : (claimed q r).isSome = q.holds r
  · have judged : ((claimsJudged q).ysu.role r).delay = none := by
      rw [claimsJudged_role_kept kept]
      exact (delayJudged_frame _ _ _).2.2.2.2.2.1 still
    have permit : permitted (claimsJudged q) r = permitted s r := by
      rw [claimsJudged_permitted kept, work, permitted_updateRole rfl]
    rw [chooseRoles_role]
    rcases standingRules_cases r (claimsJudged q) with ⟨stays, -⟩ | ⟨-, -, joins⟩ | ⟨allowed, -, call, -⟩ | ⟨-, -, -, -, leaves⟩
    · rw [stays, judged]
    · obtain ⟨a, b, role⟩ := changeRole_role r (some .automatic) (claimsJudged q)
      rw [joins, joinRole, role]
    · simp [noCall (permit.symm.trans allowed) kept] at call
    · obtain ⟨a, b, role⟩ := changeRole_role r none (claimsJudged q)
      rw [leaves, leaveRole, role]
  · rcases chooseRoles_role_cases r q with ⟨-, changed⟩ | ⟨-, same, -⟩
    · exact changed.2.1
    · exact absurd same kept

/-- After a delay that ends without a join, the station holds the role only by the LIMIT give or the no-member join. -/
theorem joined_after_idle_iff {s q : State} {r : Role} (old : State)
    (work : q = updateRole r (fun x => { x with delay := none }) s)
    (idle : (s.ysu.role r).call ≠ .active ∨ s.ableNonMember r = false ∨ permitted s r = false) (ability : abilityLaw s)
    (allowed : permitted s r = true) (sup : suppressed s r = false) (free : s.holds r = false) :
    (finish (settleFrom old q)).holds r = true ↔ (r = .give ∧ s.mvc.zone = .top) ∨
      (canHold s r = true ∧ s.memberCount r = 0 ∧ s.joinRank r = 1) := by
  have qAllowed : permitted q r = true := by rw [work, permitted_updateRole rfl, allowed]
  have qSup : suppressed q r = false := by rw [work, suppressed_updateRole, sup]
  have qFree : q.holds r = false := by rw [work, holds_updateRole rfl, free]
  have terms : canHold q r = canHold s r ∧ q.memberCount r = s.memberCount r ∧ q.joinRank r = s.joinRank r ∧ q.mvc = s.mvc := by
    rw [work]
    exact ⟨canHold_updateRole _ _ _ _, memberCount_updateRole rfl _, joinRank_updateRole _ _ _ _, rfl⟩
  obtain ⟨hold, count, rank, mvc⟩ := terms
  have claim := claimed_of_permitted qAllowed qSup
  rw [holds_ended]
  by_cases top : r = .give ∧ s.mvc.zone = .top
  · have limit : claimed q r = some .limit := by rw [claim, mvc, if_pos top]
    refine ⟨fun _ => .inl top, fun _ => ?_⟩
    rcases chooseRoles_role_cases r q with ⟨changed, -⟩ | ⟨-, kept, -⟩
    · rw [qFree] at changed
      simpa using changed
    · simp [limit, qFree] at kept
  · have kept : (claimed q r).isSome = q.holds r := by rw [claim, mvc, if_neg top, isSome_automatic]
    have noCall := (undelayed_of_idle old work idle ability).2 allowed kept
    refine ⟨fun member => .inr ?_, ?_⟩
    · by_contra later
      have stays := chooseRoles_stays_out kept qFree (by rw [hold, count, rank]; simpa [imp_iff_not_or] using later)
        (fun call => by simp [noCall] at call)
      rw [stays] at member
      cases member
    · rintro (h | ⟨able, none_, first⟩)
      · exact absurd h top
      · rw [State.holds, chooseRoles_joins_first kept qAllowed (hold.trans able) qFree (count.trans none_) (rank.trans first)]
        rfl

/-- Where an automatic change is not permitted, a role held at the end was held before, or is held by hand or by the limit. -/
theorem held_of_unpermitted {q : State} {r : Role} (old : State) (blocked : permitted q r = false)
    (member : (finish (settleFrom old q)).holds r = true) : q.holds r = true ∨
      ((finish (settleFrom old q)).ysu.role r).held = some .hand ∨
      ((finish (settleFrom old q)).ysu.role r).held = some .limit := by
  have held := held_ended old q r
  rw [chooseRoles_held_of_unpermitted blocked] at held
  rw [State.holds, held] at member
  rw [held]
  have own : ownClaim q r = some .hand ∨ ((ownClaim q r).isSome = true → q.holds r = true) := by
    unfold ownClaim
    split
    · split
      · exact .inl rfl
      · exact .inr fun h => by simp at h
    · exact .inr fun h => by rwa [isSome_automatic] at h
  rw [claimed_eq] at member ⊢
  split at member
  · simp at member
  · split at member
    · split at member
      · exact .inr (.inr (by simp [*]))
      · simp at member
    · split at member
      · simp at member
      · split at member
        · exact .inr (.inr (by simp [*]))
        · rcases own with h | h
          · exact .inr (.inl (by simp [*]))
          · exact .inl (h member)

end Sys2Proof.Machine

end

/-! Duty sharing at a reckoning and at a REPORT's arrival, and the statement on calls, delays and releases (R116 to R124). -/

section

namespace Sys2Proof.Machine

/-! ## The alarm kinds that a new record can move -/

/-- A kind that the work of a record raises or ceases (R24, R59, R62, R65, R159). -/
def recordKind (k : AlarmKind) : Bool :=
  k == .stockInvalid || k == .meterSilent || k == .stillLoss || k == .limitGuard || k == .liftMismatch

section Others

variable {k : AlarmKind}

theorem isCurrent_reckon (other : k ≠ .stockInvalid) (s : State) : (reckon s).isCurrent k = s.isCurrent k := by
  unfold reckon
  dsimp only
  split
  · rw [isCurrent_signalGrade_other other]
    rfl
  · rfl

theorem isCurrent_countSilentWindow (other : k ≠ .meterSilent) (s : State) :
    (countSilentWindow s).isCurrent k = s.isCurrent k := by
  have judged : ∀ q : State, (judgeSilentWindow q).isCurrent k = q.isCurrent k := fun q => by simp [State.isCurrent]
  unfold countSilentWindow
  split
  · split
    · exact judged s
    · dsimp only
      split
      · unfold testSilentWindow
        dsimp only
        split
        · rw [isCurrent_raiseWithEntry]
          simp [other, State.isCurrent]
        · rw [isCurrent_cease]
          simp [other, State.isCurrent]
      · rfl
  · exact judged s

theorem isCurrent_accountRecord (other : k ≠ .meterSilent) (s : State) : (accountRecord s).isCurrent k = s.isCurrent k := by
  rw [accountRecord_eq, isCurrent_countSilentWindow other]
  rfl

theorem isCurrent_liftCheck (other : k ≠ .liftMismatch) (s : State) : (liftCheck s).isCurrent k = s.isCurrent k := by
  unfold liftCheck
  split
  · split
    · dsimp only
      split
      · rw [isCurrent_cease]
        simp [other, State.isCurrent]
      · rfl
    · dsimp only
      split
      · rw [isCurrent_raiseWithEntry]
        simp [other, State.isCurrent]
      · rfl
  · rfl

theorem isCurrent_judgeLimitGuard (other : k ≠ .limitGuard) (s : State) :
    (judgeLimitGuard s).isCurrent k = s.isCurrent k := by
  unfold judgeLimitGuard
  split
  · rw [isCurrent_raiseWithEntry]
    simp [other]
  · rw [isCurrent_cease]
    simp [other]

theorem isCurrent_countLossWindow (other : k ≠ .stillLoss) (s : State) : (countLossWindow s).isCurrent k = s.isCurrent k := by
  have judged : ∀ q : State, (judgeLossWindow q).isCurrent k = q.isCurrent k := fun q => by simp [State.isCurrent]
  unfold countLossWindow
  split
  · split
    · exact judged s
    · dsimp only
      split
      · unfold testLossWindow
        dsimp only
        split
        · rw [isCurrent_raiseWithEntry]
          simp [other, State.isCurrent]
        · rw [isCurrent_cease]
          simp [other, State.isCurrent]
      · rfl
  · exact judged s

/-- The last steps of a record's work move no kind (R68 to R71). -/
theorem isCurrent_lastSteps (k : AlarmKind) (s : State) :
    (judgeTurnover (countRest (countCycle s))).isCurrent k = s.isCurrent k := by
  have oau : (judgeTurnover (countRest (countCycle s))).oau = s.oau := by
    rw [judgeTurnover_frame, countRest_frame, countCycle_frame]
  rw [State.isCurrent, oau]
  rfl

theorem isCurrent_movementRecord (mismatch : k ≠ .liftMismatch) (guard : k ≠ .limitGuard) (loss : k ≠ .stillLoss) (s : State) :
    (movementRecord s).isCurrent k = s.isCurrent k := by
  rw [movementRecord, isCurrent_lastSteps, isCurrent_countLossWindow loss, isCurrent_judgeLimitGuard guard,
    isCurrent_liftCheck mismatch]
  rfl

/-- The work of a record moves no other kind. -/
theorem isCurrent_regraded (other : recordKind k = false) (s : State) :
    (regrade (recordWorked s)).isCurrent k = s.isCurrent k := by
  have kinds : k ≠ .stockInvalid ∧ k ≠ .meterSilent ∧ k ≠ .stillLoss ∧ k ≠ .limitGuard ∧ k ≠ .liftMismatch := by
    simpa [recordKind, and_assoc] using other
  obtain ⟨stock, silent, loss, guard, mismatch⟩ := kinds
  rw [isCurrent_regrade_other stock, recordWorked, isCurrent_movementRecord mismatch guard loss, isCurrent_accountRecord silent,
    isCurrent_reckon stock]

end Others

/-! ## Duty sharing at a reckoning (R124) -/

/-- A reckoning's record begun: its timer runs anew (R4). -/
def reckoningBegun (s : State) : State := { s with srk := { s.srk with timer := some Config.reckonTime } }

theorem exec_reckoning {s : State} (supply : s.supply = true) (working : s.working = true) (timer : s.srk.timer.isSome = true) :
    exec .reckoning s = .next (finish (workRecord (reckoningBegun s))) := by
  show Host.Outcome.next _ = _
  rw [powered_of_supply supply, reckonExpired, if_pos ⟨working, timer⟩]
  rfl

theorem suppressed_settleFrom (old q : State) (r : Role) : suppressed (settleFrom old q) r = suppressed q r := by
  have zone := (settleFrom_mvc old q).1
  have fault : ∀ v, ((((settleFrom old q).vdu.drive v).state == .fault) = ((q.vdu.drive v).state == .fault)) := fun v => by
    rw [Bool.eq_iff_iff, beq_iff_eq, beq_iff_eq]
    exact settleFrom_fault old v q
  have inlet := fault .inlet
  have outlet := fault .outlet
  simp only [Vdu.drive] at inlet outlet
  cases r with
  | take => simp [suppressed, zone, inlet, State.isCurrent]
  | give => simp [suppressed, zone, outlet]

/-- The state a reckoning settles: the record worked and graded anew. -/
def regraded (s : State) : State := regrade (recordWorked (reckoningBegun s))

theorem workRecord_regraded (s : State) :
    workRecord (reckoningBegun s) = beginWrite (settleFrom (regraded s) (regraded s)) := rfl

theorem regraded_terms (s : State) : (regraded s).ysu = s.ysu ∧ (regraded s).ini.key = s.ini.key ∧
    (regraded s).station = s.station ∧ (regraded s).isCurrent .numberClash = s.isCurrent .numberClash := by
  refine ⟨?_, ?_, ?_, isCurrent_regraded (by decide) _⟩ <;> simp [regraded, recordWorked] <;> rfl

/-- What a reckoning leaves of the role set (R108, R124). -/
theorem roles_of_reckoning {s t : State} (working : s.working = true) (done : t = finish (workRecord (reckoningBegun s))) :
    roleLaw t ∧ (∀ r, s.holds r = true → t.holds r = false → (t.ysu.role r).dwell = some 300000 ∧
        (t.ysu.role r).delay = none ∧ (t.ysu.role r).call ≠ .active ∧ (t.ysu.role r).release ≠ .active) ∧
      (∀ r, s.holds r = true → s.station = .run → s.ini.key = .auto → s.ysu.order = .auto →
        s.isCurrent .numberClash = false → (s.ysu.role r).dwell.isSome = true → suppressed t r = false →
        t.holds r = true) := by
  obtain ⟨ysu, key, station, clash⟩ := regraded_terms s
  have terms : SameTerms (settleFrom (regraded s) (regraded s)) t := by
    rw [done, workRecord_regraded]
    exact (SameTerms.beginWrite _).trans (SameTerms.finish _)
  have tYsu : t.ysu = (settleFrom (regraded s) (regraded s)).ysu := by
    rw [done, workRecord_regraded, finish_ysu, beginWrite_ysu]
  have grade : gradeLaw t := by
    rw [done]
    exact (SameTerms.finish _).grade (gradeLaw_workRecord working)
  have settled := terms.settled (settled_settleFrom _ _)
  clear done
  generalize regraded s = q at *
  have holdsQ : ∀ r, q.holds r = s.holds r := fun r => by rw [State.holds, State.holds, ysu]
  have suppressedT : ∀ r, suppressed t r = suppressed q r := fun r => by
    rw [← suppressed_settleFrom q q r]
    obtain ⟨-, -, -, zone, -, status, mismatch, -, -, drives, -⟩ := terms
    have inlet := (drives .inlet).2
    have outlet := (drives .outlet).2
    simp only [Vdu.drive] at inlet outlet
    cases r with
    | take => simp only [suppressed, zone, inlet, mismatch, status]
    | give => simp only [suppressed, zone, outlet]
  refine ⟨settled.role grade, fun r held left => ?_, fun r held run auto order clear dwell free => ?_⟩
  · have changed : (settleFrom q q).holds r ≠ q.holds r := by
      rw [holdsQ, held]
      rw [State.holds, tYsu] at left
      rw [State.holds, left]
      decide
    obtain ⟨rests, delay, call, release⟩ := settleFrom_role_changed changed
    rw [tYsu]
    refine ⟨rests, delay, ?_, ?_⟩
    · rw [call]; exact restarted_ne_active _
    · rw [release]; exact restarted_ne_active _
  · have blocked : permitted q r = false := by
      obtain ⟨d, runs⟩ := Option.isSome_iff_exists.1 dwell
      simp [permitted, ysu, runs]
    have claim : (claimed q r).isSome = true := by
      rw [claimed_of_auto (station.trans run) (key.trans auto) (by rw [ysu]; exact order) (clash.trans clear)
        ((suppressedT r).symm.trans free)]
      split
      · rfl
      · rw [isSome_automatic, holdsQ, held]
    rw [State.holds, tYsu, settleFrom_held, chooseRoles_held_of_unpermitted blocked, claim]

/-! ## Duty sharing at a REPORT's arrival (R116) -/

theorem peerPeriod_ysu (p : Nat) (s : State) : (peerPeriod p s).ysu = s.ysu := by
  unfold peerPeriod
  split
  · rfl
  · split
    · rfl
    · split
      · exact (closePeriod_kept _ _ _ _).ysu
      · rfl

/-- What a peer's REPORT comes to in LISTEN and RUN, the station settled anew where it was ALONE (R95, R127). -/
def peerHeard (p : Nat) (body : List Byte) (s : State) : State :=
  peerPeriod (entryOfReport p body).period (changeTable (enterPeer (entryOfReport p body) s.ysu.table) s)

theorem validMessage_of_peer {p d : Nat} {s : State} (working : s.working = true) (low : 1 ≤ p) (high : p ≤ 16)
    (peer : p ≠ s.number) (accepted : d = 0 ∨ d = s.number) (body : List Byte) (r : StartReadings) :
    let q := settle (peerHeard p body (lineHeard s))
    validMessage p d .report body r s = if s.isCurrent .alone = true then settle q else q := by
  have heard := lineHeard_of_working working
  obtain ⟨a, own⟩ := acceptedAs_isSome (s := lineHeard s) (d := d) (by rw [heard]; exact accepted)
  have holder : holderSource p = true := by simp [holderSource, low, high]
  have on : (lineHeard s).working = true := by rw [heard]; exact working
  have other : p ≠ (lineHeard s).number := by rw [heard]; exact peer
  have arrives : routeAccepted p a .report body r (lineHeard s) = settle (peerHeard p body (lineHeard s)) := by
    simp only [routeAccepted, holder, on, if_true, reportArrival, if_neg other]
    rfl
  intro q
  have working' : (settle (peerHeard p body (lineHeard s))).working = true := by
    have kept : KeptByHandOff (withTable _ (lineHeard s)) (settle (peerHeard p body (lineHeard s))) :=
      (changeTable_keptByHandOff _ (lineHeard s)).trans ((peerPeriod_keptByHandOff _ _).trans (settle_keptByHandOff _))
    rw [kept.working]
    exact on
  simp only [validMessage, own, arrives]
  rw [working', Bool.and_true]

theorem lineHeard_same (s : State) : (∀ r, (lineHeard s).ysu.role r = s.ysu.role r) ∧ (lineHeard s).ysu.table = s.ysu.table := by
  unfold lineHeard
  split
  · exact ⟨fun r => by cases r <;> rfl, rfl⟩
  · exact ⟨fun _ => rfl, rfl⟩

/-- A peer's REPORT restarts a role's timers with its member count (R116). -/
theorem recounted_of_peer {p d : Nat} {s : State} (working : s.working = true) (low : 1 ≤ p) (high : p ≤ 16)
    (peer : p ≠ s.number) (accepted : d = 0 ∨ d = s.number) (body : List Byte) (r : StartReadings) (role : Role) :
    recounted s (finish (validMessage p d .report body r s)) role := by
  have heard := lineHeard_same s
  have began : recountedAt s (peerHeard p body (lineHeard s)) role :=
    recountedAt_congr (heard.1 role).symm heard.2.symm (by rw [peerHeard, peerPeriod_ysu]) (by rw [peerHeard, peerPeriod_ysu])
      (recountedAt_changeTable _ (lineHeard s) role)
  have whole := validMessage_of_peer working low high peer accepted body r
  dsimp only at whole
  generalize peerHeard p body (lineHeard s) = q at *
  obtain ⟨once, ends⟩ := recountedAt_settleFrom began q
  rw [whole]
  split
  · exact (recountedAt_settleFrom once (settleFrom q q)).2
  · exact ends

/-- Settles O45. -/
theorem callsJoinAndReleasesLeave : Obligations.CallsJoinAndReleasesLeave := by
  refine ⟨fun r s left supply runs still holds allowed able sup free first => ?_,
    fun r s left supply runs still holds allowed able sup free later low => ?_,
    fun r s d supply runs active ableNon allowed able sup => ?_, fun r s d supply runs idle => ?_,
    fun chars r s data body bad p d role supply working quiet gathered valid low high peer accepted => ?_,
    fun r s left supply runs holds allowed sup held last low => ?_, fun s supply working timer => ?_⟩
  · obtain ⟨q, hq⟩ : ∃ q, q = updateRole r (fun x => x.activate .call) s := ⟨_, rfl⟩
    have done := exec_call (k := .call) supply runs
    rw [← hq, settle_eq] at done
    have role : q.ysu.role r = { s.ysu.role r with call := .active } := by rw [hq, updateRole_role]; rfl
    have qFree : q.holds r = false := by rw [hq, holds_updateRole rfl, free]
    have joins := joined_of_call q (q := q) (by rw [hq, permitted_updateRole rfl, allowed]) (by rw [hq, canHold_updateRole, able])
      (by rw [hq, suppressed_updateRole, sup]) qFree (by rw [hq, conditionHolds_updateRole rfl, holds]) (by rw [role])
      (by rw [role]; exact still) (by rw [hq, joinRank_updateRole, first])
    obtain ⟨dwell, delay, call, release⟩ := ended_role_changed (old := q) (q := q) (r := r) (by rw [joins, qFree]; decide)
    exact ⟨_, done, joins, dwell, call, release, delay, ended_ofRole q q.ysu (by rw [hq]; rfl)⟩
  · obtain ⟨q, hq⟩ : ∃ q, q = updateRole r (fun x => x.activate .call) s := ⟨_, rfl⟩
    have done := exec_call (k := .call) supply runs
    rw [← hq, settle_eq] at done
    have role : q.ysu.role r = { s.ysu.role r with call := .active } := by rw [hq, updateRole_role]; rfl
    obtain ⟨out, call, delay, dwell⟩ := delay_of_call q (q := q) (by rw [hq, permitted_updateRole rfl, allowed])
      (by rw [hq, canHold_updateRole, able]) (by rw [hq, suppressed_updateRole, sup]) (by rw [hq, holds_updateRole rfl, free])
      (by rw [hq, conditionHolds_updateRole rfl, holds]) (by rw [role]) (by rw [role]; exact still)
      (by rw [hq, joinRank_updateRole]; exact later) (by rw [hq]; exact low)
    rw [show q.joinRank r = s.joinRank r by rw [hq, joinRank_updateRole],
      show q.memberCount r = s.memberCount r by rw [hq, memberCount_updateRole rfl]] at delay
    refine ⟨_, done, ?_, ?_, ?_, ?_, ended_ofRole q q.ysu (by rw [hq]; rfl)⟩
    · rw [State.holds, finish_ysu]; exact out
    · rw [finish_ysu]; exact call
    · rw [finish_ysu]; exact delay
    · rw [finish_ysu]; exact dwell
  · obtain ⟨q, hq⟩ : ∃ q, q = joinRole r (updateRole r (fun x => { x with delay := none }) s) := ⟨_, rfl⟩
    have done := exec_delay supply runs
    rw [endDelay, if_pos ⟨active, ableNon, allowed⟩, ← hq] at done
    obtain ⟨joins, dwell, delay, call⟩ := joined_of_delay s allowed sup q hq
    exact ⟨_, done, joins, dwell, delay, call, ended_ofRole s q.ysu (by rw [hq]; rfl)⟩
  · obtain ⟨q, hq⟩ : ∃ q, q = updateRole r (fun x => { x with delay := none }) s := ⟨_, rfl⟩
    have done := exec_delay supply runs
    have over_ : ¬ ((s.ysu.role r).call = .active ∧ s.ableNonMember r = true ∧ permitted s r = true) := by
      rintro ⟨active, able, allowed⟩
      rcases idle with h | h | h
      · exact h active
      · simp [able] at h
      · simp [allowed] at h
    rw [endDelay, if_neg over_, ← hq] at done
    obtain ⟨-, frame, accounts⟩ := ended_ofRole s (s := s) (q := q) q.ysu (by rw [hq]; rfl)
    refine ⟨_, done, frame, accounts, fun ability => (undelayed_of_idle s hq idle ability).1,
      fun ability allowed sup free => joined_after_idle_iff s hq idle ability allowed sup free, fun blocked _ member => ?_⟩
    have before := held_of_unpermitted s (q := q) (r := r) (by rw [hq, permitted_updateRole rfl, blocked]) member
    rwa [show q.holds r = s.holds r by rw [hq, holds_updateRole rfl]] at before
  · have onLine : s.onLine = true := by simp [State.onLine, working]
    refine ⟨_, exec_frameReceived_of_valid supply onLine quiet gathered valid, ?_⟩
    exact recounted_of_peer (s := setInFrame false s) working low high peer accepted body r role
  · obtain ⟨q, hq⟩ : ∃ q, q = updateRole r (fun x => x.activate .release) s := ⟨_, rfl⟩
    have done := exec_call (k := .release) supply runs
    rw [← hq, settle_eq] at done
    have role : q.ysu.role r = { s.ysu.role r with release := .active } := by rw [hq, updateRole_role]; rfl
    have member : q.holds r = true := by rw [State.holds, role]; simp [held]
    have leaves := left_of_release q (q := q) (by rw [hq, permitted_updateRole rfl, allowed])
      (by rw [hq, suppressed_updateRole, sup]) (by rw [role]; exact held) (by rw [hq, conditionHolds_updateRole rfl, holds])
      (by rw [role]) (by rw [hq, memberRank_updateRole, memberCount_updateRole rfl, last]) (by rw [hq]; exact low)
    obtain ⟨dwell, -, call, release⟩ := ended_role_changed (old := q) (q := q) (r := r) (by rw [leaves, member]; decide)
    exact ⟨_, done, leaves, dwell, call, release, ended_ofRole q q.ysu (by rw [hq]; rfl)⟩
  · have done := exec_reckoning supply working timer
    obtain ⟨t, ht⟩ : ∃ t, t = finish (workRecord (reckoningBegun s)) := ⟨_, rfl⟩
    rw [← ht] at done
    obtain ⟨⟨-, take, give⟩, changed, stays⟩ := roles_of_reckoning working ht
    refine ⟨t, done, fun stands => ?_, fun stands => ?_, changed, stays⟩
    · rw [Bool.eq_false_iff]
      intro held
      obtain ⟨high, top, fault, mismatch, status⟩ := take held
      rcases stands with h | h | h | h | h
      · exact high h
      · exact top h
      · exact fault h
      · simp [mismatch] at h
      · exact status h
    · rw [Bool.eq_false_iff]
      intro held
      obtain ⟨landed, low, fault⟩ := give held
      exact stands.elim landed fun h => h.elim low fault

end Sys2Proof.Machine

end

/-! The peer table's own expiries (R97, R98), and the statement on them. -/

section

namespace Sys2Proof.Machine

/-! ## The line through the settling pass -/

theorem handOn_yli_of_same {old s : State} (same : sameRoles old s = true) : (handOn old s).yli = s.yli := by
  rw [handOn, if_pos same]

theorem settleFrom_yli (old s : State) : (settleFrom old s).yli = (handOn old (chooseRoles s)).yli := by
  simp [settleFrom, deriveCommands]

theorem trigger_yli_frame (s : State) : (trigger s).yli =
    { s.yli with reportTimer := (trigger s).yli.reportTimer, reportDue := (trigger s).yli.reportDue } := by
  unfold trigger
  split <;> rfl

theorem handOn_yli_frame (old s : State) : (handOn old s).yli =
    { s.yli with reportTimer := (handOn old s).yli.reportTimer, reportDue := (handOn old s).yli.reportDue } := by
  unfold handOn
  split
  · rfl
  · exact trigger_yli_frame _

/-- A settling pass moves no more of the line than a report trigger. -/
theorem settleFrom_yli_frame (old s : State) : (settleFrom old s).yli =
    { s.yli with reportTimer := (settleFrom old s).yli.reportTimer, reportDue := (settleFrom old s).yli.reportDue } := by
  have frame := handOn_yli_frame old (chooseRoles s)
  rwa [← settleFrom_yli, show (chooseRoles s).yli = s.yli by simp] at frame

theorem settleFrom_yli_of_same {old s : State} (same : sameRoles old (chooseRoles s) = true) :
    (settleFrom old s).yli = s.yli := by
  rw [settleFrom_yli, handOn_yli_of_same same]
  simp

/-! ## Expiries of an entry (R97, R98) -/

theorem exec_stale_of_due {s : State} {n : Nat} (supply : s.supply = true) (due : s.staleDue n = true) :
    exec (.staleExpiry n) s =
      .next (finish (settle (changeTable (stalePeer n (3 * s.intervalMs) s.ysu.table) s))) := by
  show Host.Outcome.next _ = _
  rw [powered_of_supply supply, staleExpired, if_pos due]

theorem exec_removal_of_due {s : State} {n : Nat} (supply : s.supply = true) (due : s.removalDue n = true) :
    exec (.removalExpiry n) s =
      .next (finish (settle (changeTable (removePeer n (10 * s.intervalMs) s.ysu.table) s))) := by
  show Host.Outcome.next _ = _
  rw [powered_of_supply supply, removalExpired, if_pos due]

theorem exec_stale_of_notDue {s : State} {n : Nat} (notDue : s.staleDue n = false) : exec (.staleExpiry n) s = .next s := by
  show Host.Outcome.next (powered _ s) = _
  have still : staleExpired n s = s := if_neg (by simp [notDue])
  unfold powered
  rw [still, ite_self]

theorem exec_removal_of_notDue {s : State} {n : Nat} (notDue : s.removalDue n = false) :
    exec (.removalExpiry n) s = .next s := by
  show Host.Outcome.next (powered _ s) = _
  have still : removalExpired n s = s := if_neg (by simp [notDue])
  unfold powered
  rw [still, ite_self]

theorem staleDue_of_entry {s : State} {n : Nat} (working : s.working = true)
    (entry : ∃ e ∈ s.ysu.table, e.number = n ∧ e.fresh = true ∧ 3 * s.intervalMs ≤ e.age) : s.staleDue n = true := by
  obtain ⟨e, stands, number, fresh, age⟩ := entry
  rw [State.staleDue, working, Bool.true_and, List.any_eq_true]
  exact ⟨e, stands, by rw [fresh, (PeerEntry.reached_iff _ _ _).2 ⟨number, age⟩]; rfl⟩

theorem removalDue_of_entry {s : State} {n : Nat} (working : s.working = true)
    (entry : ∃ e ∈ s.ysu.table, e.number = n ∧ 10 * s.intervalMs ≤ e.age) : s.removalDue n = true := by
  obtain ⟨e, stands, number, age⟩ := entry
  rw [State.removalDue, working, Bool.true_and, List.any_eq_true]
  exact ⟨e, stands, (PeerEntry.reached_iff _ _ _).2 ⟨number, age⟩⟩

theorem staleDue_of_young {s : State} {n : Nat}
    (young : ∀ e ∈ s.ysu.table, e.number = n → e.fresh = false ∨ e.age < 3 * s.intervalMs) : s.staleDue n = false := by
  rw [Bool.eq_false_iff]
  intro due
  rw [State.staleDue, Bool.and_eq_true, List.any_eq_true] at due
  obtain ⟨-, e, stands, reached⟩ := due
  rw [Bool.and_eq_true, PeerEntry.reached_iff] at reached
  obtain ⟨fresh, number, age⟩ := reached
  rcases young e stands number with h | h
  · simp [fresh] at h
  · omega

theorem removalDue_of_young {s : State} {n : Nat} (young : ∀ e ∈ s.ysu.table, e.number = n → e.age < 10 * s.intervalMs) :
    s.removalDue n = false := by
  rw [Bool.eq_false_iff]
  intro due
  rw [State.removalDue, Bool.and_eq_true, List.any_eq_true] at due
  obtain ⟨-, e, stands, reached⟩ := due
  obtain ⟨number, age⟩ := (PeerEntry.reached_iff _ _ _).1 reached
  have := young e stands number
  omega

theorem stalePeer_eq (n age : Nat) (t : List PeerEntry) : stalePeer n age t =
    t.map fun e => if e.number = n ∧ age ≤ e.age then { e with fresh := false } else e := by
  unfold stalePeer
  simp only [PeerEntry.reached_iff]

theorem removePeer_eq (n age : Nat) (t : List PeerEntry) : removePeer n age t =
    t.filter fun e => decide (e.number ≠ n ∨ e.age < age) := by
  unfold removePeer
  congr 1
  funext e
  rw [Bool.eq_iff_iff, Bool.not_eq_true', decide_eq_true_iff, Bool.eq_false_iff, Ne, PeerEntry.reached_iff]
  omega

theorem dutyFrame_changeTable (t : List PeerEntry) (s : State) : dutyFrame s (changeTable t s) := by
  rw [dutyFrame_iff]
  simp

/-- A table replaced, settled and ended. -/
theorem ended_changeTable (tbl : List PeerEntry) (s : State) :
    let t := finish (settleFrom (changeTable tbl s) (changeTable tbl s))
    t.ysu.table = tbl ∧ t.ysu.order = s.ysu.order ∧ t.oau = s.oau ∧ recounted s t .take ∧ recounted s t .give ∧
      dutyFrame s t ∧ accountsKept s t := by
  have unit := (sameUnit_ended (changeTable tbl s) (changeTable tbl s)).trans (changeTable_unit tbl s)
  refine ⟨unit.table, unit.order, ?_, (recountedAt_settleFrom (recountedAt_changeTable tbl s .take) _).2,
    (recountedAt_settleFrom (recountedAt_changeTable tbl s .give) _).2, dutyFrame_ended (dutyFrame_changeTable tbl s) _,
    accountsKept_ended (accountsKept_of_acu (changeTable_acu tbl s)) _⟩
  rw [finish_oau, settleFrom_oau, changeTable_oau]

/-! ## A REPORT and an expiry at one moment (R98) -/

theorem closePeriod_plug (n : Nat) (cause : CloseCause) (next : Nat) (s : State) :
    (closePeriod n cause next s).plug = s.plug := by
  have balance : (judgeBalance (takeMeters s)).plug = s.plug := by
    unfold judgeBalance
    split <;> simp
  rw [closePeriod_eq]
  simp [openNext, offerAccount, balance]

theorem peerPeriod_plug (p : Nat) (s : State) : (peerPeriod p s).plug = s.plug := by
  unfold peerPeriod
  split
  · rfl
  · split
    · rfl
    · split
      · exact closePeriod_plug _ _ _ _
      · rfl

theorem plug_of_peerReport {p d : Nat} {s : State} (working : s.working = true) (low : 1 ≤ p) (high : p ≤ 16)
    (peer : p ≠ s.number) (accepted : d = 0 ∨ d = s.number) (body : List Byte) (r : StartReadings) :
    (finish (validMessage p d .report body r s)).plug = s.plug := by
  have heard : (lineHeard s).plug = s.plug := by
    rw [lineHeard_of_working working]
    rfl
  have settled : (settle (peerHeard p body (lineHeard s))).plug = s.plug := by
    rw [settle_plug, peerHeard, peerPeriod_plug, changeTable_plug, heard]
  rw [finish_plug, validMessage_of_peer working low high peer accepted]
  split
  · rw [settle_plug, settled]
  · exact settled

/-- On a BUSY line no frame begins at an event's end. -/
theorem finish_not_sending {s : State} (busy : s.yli.line = .busy) (quiet : s.yli.tx ≠ .sending) :
    (finish s).yli.tx ≠ .sending ∧ (finish s).yli.line = .busy := by
  obtain ⟨frame, -⟩ := flushed_frame s
  have busy' : (flushed s).yli.line = .busy := by rw [frame]; exact busy
  have quiet' : (flushed s).yli.tx ≠ .sending := by rw [frame]; exact quiet
  rw [finish_eq]
  rcases txSettle_cases (flushed s) with still | ⟨waits, -⟩ | ⟨m, rest, -, idle, -⟩
  · rw [still]; exact ⟨quiet', busy'⟩
  · rw [waits]; exact ⟨by simp [enterWaiting], busy'⟩
  · rw [busy'] at idle
    cases idle

/-- In an ascending table the entries of a number that stands once are that entry alone. -/
theorem filter_number_eq {t : List PeerEntry} {e : PeerEntry} (ascending : ascendingTable t) (stands : e ∈ t) :
    t.filter (fun x => x.number == e.number) = [e] := by
  induction t with
  | nil => cases stands
  | cons x xs ih =>
    obtain ⟨below, rest⟩ := List.pairwise_cons.1 ascending
    rcases List.mem_cons.1 stands with rfl | later
    · have others : xs.filter (fun x => x.number == e.number) = [] := by
        rw [List.filter_eq_nil_iff]
        intro y hy same
        have := below y hy
        simp only [beq_iff_eq] at same
        omega
      rw [List.filter_cons_of_pos (by simp), others]
    · have lt := below e later
      rw [List.filter_cons_of_neg (by simp; omega), ih rest later]

theorem ascending_stalePeer (n age : Nat) {t : List PeerEntry} (ascending : ascendingTable t) :
    ascendingTable (stalePeer n age t) := by
  refine List.Pairwise.map _ (fun x y lt => ?_) ascending
  split <;> split <;> exact lt

theorem ascending_removePeer (n age : Nat) {t : List PeerEntry} (ascending : ascendingTable t) :
    ascendingTable (removePeer n age t) := List.Pairwise.filter _ ascending

/-- What the expiries leave for a REPORT heard next: the supply, the station, the number, the transmitter and the table's order. -/
structure StillHears (s t : State) : Prop where
  supply : t.supply = s.supply
  station : t.station = s.station
  number : t.number = s.number
  quiet : t.yli.tx ≠ .sending
  ascending : ascendingTable t.ysu.table

theorem stillHears_changed {s : State} (busy : s.yli.line = .busy) (quiet : s.yli.tx ≠ .sending) {tbl : List PeerEntry}
    (ascending : ascendingTable tbl) : StillHears s (finish (settleFrom (changeTable tbl s) (changeTable tbl s))) := by
  obtain ⟨table, -, -, -, -, frame, -⟩ := ended_changeTable tbl s
  obtain ⟨⟨supply, station, -, -, -, number⟩, -⟩ := (dutyFrame_iff _ _).1 frame
  have yli : (changeTable tbl s).yli = s.yli := changeTable_yli tbl s
  have line := settleFrom_yli_frame (changeTable tbl s) (changeTable tbl s)
  refine ⟨supply, station, number, (finish_not_sending ?_ ?_).1, by rw [table]; exact ascending⟩
  · rw [line, yli]; exact busy
  · rw [line, yli]; exact quiet

theorem expired_stillHears {s : State} {p : Nat} (supply : s.supply = true) (busy : s.yli.line = .busy)
    (quiet : s.yli.tx ≠ .sending) (ascending : ascendingTable s.ysu.table) {c : Instr}
    (expiry : c = .staleExpiry p ∨ c = .removalExpiry p) : ∃ t, exec c s = .next t ∧ StillHears s t := by
  have same : StillHears s s := ⟨rfl, rfl, rfl, quiet, ascending⟩
  rcases expiry with rfl | rfl
  · cases due : s.staleDue p with
    | false => exact ⟨s, exec_stale_of_notDue due, same⟩
    | true => exact ⟨_, exec_stale_of_due supply due, stillHears_changed busy quiet (ascending_stalePeer _ _ ascending)⟩
  · cases due : s.removalDue p with
    | false => exact ⟨s, exec_removal_of_notDue due, same⟩
    | true => exact ⟨_, exec_removal_of_due supply due, stillHears_changed busy quiet (ascending_removePeer _ _ ascending)⟩

/-- An entry of age 0 comes to neither age. -/
theorem exec_expiry_of_new {t : State} {p : Nat} {e : PeerEntry} (interval : 0 < t.intervalMs) (age : e.age = 0)
    (only : ∀ x ∈ t.ysu.table, x.number = p → x = e) {c : Instr} (expiry : c = .staleExpiry p ∨ c = .removalExpiry p) :
    exec c t = .next t := by
  rcases expiry with rfl | rfl
  · refine exec_stale_of_notDue (staleDue_of_young fun x stands number => .inr ?_)
    rw [only x stands number, age]
    omega
  · refine exec_removal_of_notDue (removalDue_of_young fun x stands number => ?_)
    rw [only x stands number, age]
    omega

/-- Settles O43. -/
theorem staleAndRemovalExpire : Obligations.StaleAndRemovalExpire := by
  refine ⟨fun n s supply working => ⟨fun entry => ?_, fun entry => ?_⟩,
    fun n s => ⟨fun young => exec_stale_of_notDue (staleDue_of_young young),
      fun young => exec_removal_of_notDue (removalDue_of_young young)⟩,
    fun chars r s data body bad p d supply working quiet busy interval gathered valid low high peer accepted ascending c expiry =>
      ⟨?_, ?_⟩⟩
  · have ended := ended_changeTable (stalePeer n (3 * s.intervalMs) s.ysu.table) s
    rw [stalePeer_eq] at ended
    refine ⟨_, ?_, ended⟩
    rw [← stalePeer_eq]
    exact exec_stale_of_due supply (staleDue_of_entry working entry)
  · have ended := ended_changeTable (removePeer n (10 * s.intervalMs) s.ysu.table) s
    rw [removePeer_eq] at ended
    refine ⟨_, ?_, ended⟩
    rw [← removePeer_eq]
    exact exec_removal_of_due supply (removalDue_of_entry working entry)
  · obtain ⟨t, done, stands, -, -, only, -, ascends, -⟩ := reportArrivalEntersThePeer chars r s data body bad p d supply working
      quiet gathered valid low high peer accepted ascending
    have onLine : s.onLine = true := by simp [State.onLine, working]
    have plug : t.plug = s.plug := by
      rw [exec_frameReceived_of_valid supply onLine quiet gathered valid] at done
      cases done
      exact plug_of_peerReport (s := setInFrame false s) working low high peer accepted body r
    have interval' : 0 < t.intervalMs := by
      rw [State.intervalMs, State.cfg, plug]
      exact interval
    exact ⟨t, t, done, exec_expiry_of_new interval' rfl only expiry, filter_number_eq ascends stands⟩
  · obtain ⟨t, done, supply', station, number, quiet', ascending'⟩ := expired_stillHears supply busy quiet ascending expiry
    have working' : t.working = true := by
      rw [← working]
      simp only [State.working, station]
    obtain ⟨u, heard, stands, -, -, -, -, ascends, -⟩ := reportArrivalEntersThePeer chars r t data body bad p d
      (supply'.trans supply) working' quiet' gathered valid low high (by rw [number]; exact peer)
      (by rw [number]; exact accepted) ascending'
    exact ⟨t, u, done, heard, filter_number_eq ascends stands⟩

end Sys2Proof.Machine

end

/-! LINE RESET (R91, R104), and a REPORT under the own number (R100, R126). -/

section

namespace Sys2Proof.Machine

/-! ## LINE RESET (R91, R104, R116, R128) -/

/-- The line emptied, its counters at 0 and the relearn hold begun, before the table is emptied. -/
def lineEmptied (s : State) : State :=
  { emptyLine s with yli := { (emptyLine s).yli with counters := .zero },
                     ysu := { s.ysu with relearn := some (2 * s.intervalMs) } }

theorem orderTaken_lineReset {s : State} (working : s.working = true) (a : Address) : orderTaken s a .lineReset = true := by
  cases a <;> simp [orderTaken, working]

theorem exec_lineReset {s : State} (a : Address) (supply : s.supply = true) (working : s.working = true) :
    exec (.lineReset a) s = .next (finish (settle (changeTable [] (lineEmptied s)))) := by
  have row := exec_orderRow supply a .lineReset noReadings
  rw [judgeOrder_of_taken (onLine_of_working working) (orderTaken_lineReset working a)] at row
  exact row

theorem emptied_frame (y : Yli) : y.emptied.queue = [] ∧ y.emptied.attempt = 0 ∧ y.emptied.backOff = none ∧
    y.emptied.quiet = y.quiet ∧ y.emptied.reportDue = y.reportDue ∧ (y.emptied.tx = .sending ∨ y.emptied.tx = .standby) ∧
    (y.tx ≠ .sending → y.emptied.tx = .standby) ∧ ∀ f ∈ y.emptied.inFlight, f.discard = true := by
  refine ⟨rfl, rfl, rfl, rfl, rfl, ?_, fun quiet => if_neg quiet, fun f flying => ?_⟩
  · by_cases sends : y.tx = .sending
    · exact .inl (if_pos sends)
    · exact .inr (if_neg sends)
  · obtain ⟨g, -, rfl⟩ := Option.mem_map.1 flying
    rfl

/-- An emptied line with no REPORT due begins nothing. -/
theorem finish_of_emptied {s : State} (empty : s.yli.queue = []) (notDue : s.yli.reportDue = false)
    (rests : s.yli.tx = .sending ∨ s.yli.tx = .standby) : finish s = s :=
  finish_of_stands notDue (rests.elim .inl fun h => .inr (.inr (.inl ⟨h, .inl empty⟩)))

/-- With the relearn hold running no join delay stands at an event's end (R117, R121). -/
theorem settleFrom_delay_of_relearn {old s : State} (hold : s.ysu.relearn.isSome = true) (r : Role) :
    ((settleFrom old s).ysu.role r).delay = none := by
  have blocked : permitted (settleFrom old s) r = false := by
    rw [Bool.eq_false_iff]
    intro allowed
    obtain ⟨-, -, -, -, relearn, -⟩ := (permitted_iff _ _).1 allowed
    rw [(settleFrom_same old s).relearn] at relearn
    simp [relearn] at hold
  rw [settleFrom_role, delayJudged, if_neg (by simp [blocked])]

theorem sameRoles_iff (old s : State) :
    sameRoles old s = true ↔ s.holdsTake = old.holdsTake ∧ s.holdsGive = old.holdsGive := by
  simp only [sameRoles, Bool.and_eq_true, beq_iff_eq]
  exact ⟨fun ⟨take, give⟩ => ⟨take.symm, give.symm⟩, fun ⟨take, give⟩ => ⟨take.symm, give.symm⟩⟩

theorem holds_changeTable (t : List PeerEntry) (s : State) (r : Role) : (changeTable t s).holds r = s.holds r := by
  have kept : ∀ q x : State, (recount s r x).holds r = x.holds r := fun q x => by
    rw [State.holds, State.holds, (recount_role s r x).1]
  have others : ∀ q, r ≠ q → ∀ x : State, (recount s q x).holds r = x.holds r := fun q other x => by
    rw [State.holds, State.holds, recount_other other]
  cases r with
  | take => exact (others .give (by decide) _).trans (kept s _)
  | give => exact (kept s _).trans (others .take (by decide) _)

/-- The line at an event's end, but for its queue and its transmitter. -/
theorem ended_yli (old q : State) : let y := (finish (settleFrom old q)).yli
    y.counters = q.yli.counters ∧ y.attempt = q.yli.attempt ∧ y.backOff = q.yli.backOff ∧ y.quiet = q.yli.quiet := by
  have line := settleFrom_yli_frame old q
  generalize settleFrom old q = t at *
  refine ⟨?_, ?_, ?_, ?_⟩
  · rw [finish_yli_counters, line]
  · rw [finish_yli_attempt, line]
  · rw [finish_yli_backOff, line]
  · rw [finish_yli_quiet, line]

/-- Settles O49. -/
theorem lineResetEmptiesTheLine : Obligations.LineResetEmptiesTheLine := by
  intro a s supply working notDue
  obtain ⟨q, hq⟩ : ∃ q, q = changeTable [] (lineEmptied s) := ⟨_, rfl⟩
  have done := exec_lineReset a supply working
  rw [← hq, settle_eq] at done
  have yli : q.yli = { s.yli.emptied with counters := .zero } := by rw [hq, changeTable_yli]; rfl
  have unit : SameUnit q.ysu { s.ysu with table := [], relearn := some (2 * s.intervalMs) } := by
    rw [hq]
    exact changeTable_unit [] (lineEmptied s)
  have tUnit := (sameUnit_ended q q).trans unit
  obtain ⟨tCounters, tAttempt, tBackOff, tQuiet⟩ := ended_yli q q
  rw [yli] at tCounters tAttempt tBackOff tQuiet
  have oau : q.oau = { s.oau with current := withoutAlarm s.oau.current .txBlocked } := by
    rw [hq, changeTable_oau]
    rfl
  have current : ∀ k, (finish (settleFrom q q)).isCurrent k = (s.isCurrent k && decide (k ≠ .txBlocked)) := fun k => by
    rw [isCurrent_ended, State.isCurrent, oau]
    exact hasAlarm_withoutAlarm _ _ _
  have began : ∀ r, recountedAt s q r := fun r => by
    have changed := recountedAt_changeTable [] (lineEmptied s) r
    rw [← hq] at changed
    exact recountedAt_congr (by cases r <;> rfl) rfl rfl rfl changed
  have heldQ : ∀ r, q.holds r = s.holds r := fun r => by
    rw [hq, holds_changeTable]
    cases r <;> rfl
  obtain ⟨queue, attempt, backOff, quiet, due, rests, standby, condemned⟩ := emptied_frame s.yli
  have frame : dutyFrame s q := by
    rw [dutyFrame_iff, hq]
    simp [lineEmptied, emptyLine, cease]
  have accounts : accountsKept s q := accountsKept_of_acu (by rw [hq, changeTable_acu]; rfl)
  refine ⟨_, done, tCounters, tAttempt.trans attempt, tBackOff.trans backOff, tUnit.table, tUnit.relearn, ?_, ?_,
    by simp [current], ?_, fun k other => by simp [current, other], tQuiet.trans quiet,
    tUnit.order, tUnit.silence, tUnit.clash, (recountedAt_settleFrom (began .take) q).2,
    (recountedAt_settleFrom (began .give) q).2, fun take give => ?_, dutyFrame_ended frame q, accountsKept_ended accounts q⟩
  · rw [finish_ysu]; exact settleFrom_delay_of_relearn (by rw [unit.relearn]; rfl) .take
  · rw [finish_ysu]; exact settleFrom_delay_of_relearn (by rw [unit.relearn]; rfl) .give
  · rw [finish_oau, settleFrom_oau, oau]
  · have same : sameRoles q (chooseRoles q) = true := by
      rw [sameRoles_iff]
      have chosen : ∀ r, (finish (settleFrom q q)).holds r = s.holds r → (chooseRoles q).holds r = q.holds r := fun r kept => by
        rw [← holds_ended q, kept, heldQ]
      rw [← holds_take, ← holds_take, ← holds_give, ← holds_give]
      rw [← holds_take, ← holds_take] at take
      rw [← holds_give, ← holds_give] at give
      exact ⟨chosen .take take, chosen .give give⟩
    have still := settleFrom_yli_of_same same
    rw [yli] at still
    have ends : finish (settleFrom q q) = settleFrom q q := by
      refine finish_of_emptied ?_ ?_ ?_ <;> rw [still]
      · exact queue
      · exact due.trans notDue
      · exact rests
    rw [ends, still]
    exact ⟨queue, standby, condemned⟩

/-! ## A REPORT under the own number (R100, R126, R157) -/

/-- NUMBER CLASH raised with its entry, and the clash timer begun, before the station is settled. -/
def clashRaised (s : State) : State :=
  raiseWithEntry .numberClash .numberClash { s with ysu := { s.ysu with clash := some (10 * s.intervalMs) } }

theorem numberClash_eq (s : State) : numberClash s = settle (clashRaised s) := rfl

theorem validMessage_of_ownReport {d : Nat} {s : State} (working : s.working = true) (number : s.numberValid = true)
    (accepted : d = 0 ∨ d = s.number) (body : List Byte) (r : StartReadings) :
    let q := settle (clashRaised (lineHeard s))
    validMessage s.number d .report body r s = if s.isCurrent .alone = true then settle q else q := by
  have heard := lineHeard_of_working working
  obtain ⟨a, own⟩ := acceptedAs_isSome (s := lineHeard s) (d := d) (by rw [heard]; exact accepted)
  have holder : holderSource s.number = true := number
  have on : (lineHeard s).working = true := by rw [heard]; exact working
  have same : s.number = (lineHeard s).number := by rw [heard]; rfl
  have arrives : routeAccepted s.number a .report body r (lineHeard s) = settle (clashRaised (lineHeard s)) := by
    simp only [routeAccepted, holder, on, if_true, reportArrival, if_pos same]
    rfl
  intro q
  have working' : (settle (clashRaised (lineHeard s))).working = true := by
    rw [← on]
    simp [State.working, clashRaised]
  simp only [validMessage, own, arrives]
  rw [working', Bool.and_true]

/-- What the clash raised leaves of the station heard. -/
theorem clashRaised_frame (s : State) : (clashRaised s).ysu = { s.ysu with clash := some (10 * s.intervalMs) } ∧
    (clashRaised s).isCurrent .numberClash = true ∧ (clashRaised s).isCurrent .alone = s.isCurrent .alone ∧
    (clashRaised s).srk = s.srk ∧ (clashRaised s).ini = s.ini ∧ (clashRaised s).rst = s.rst := by
  refine ⟨by simp [clashRaised], ?_, ?_, by simp [clashRaised], by simp [clashRaised], by simp [clashRaised]⟩
  · rw [clashRaised, isCurrent_raiseWithEntry]
    simp
  · rw [clashRaised, isCurrent_raiseWithEntry]
    simp [State.isCurrent]

theorem clashRaised_of_current {s : State} (current : s.isCurrent .numberClash = true) : (clashRaised s).acu = s.acu := by
  have still : clashRaised s = { s with ysu := { s.ysu with clash := some (10 * s.intervalMs) } } := if_pos current
  rw [still]

theorem clashRaised_of_free {s : State} (working : s.working = true) (free : s.isCurrent .numberClash = false) :
    entered s (clashRaised s) { kind := .numberClash, minute := s.ini.minute } ∧
      (clashRaised s).isLatched .numberClash = true ∧ accountsKept s (clashRaised s) := by
  obtain ⟨z, hz⟩ : ∃ z : State, z = { s with ysu := { s.ysu with clash := some (10 * s.intervalMs) } } := ⟨_, rfl⟩
  have zFree : z.isCurrent .numberClash = false := by rw [hz]; exact free
  have raised : clashRaised s = makeEntry .numberClash (raise .numberClash z) := by
    rw [clashRaised, ← hz, raiseWithEntry_of_free _ zFree]
  refine ⟨?_, ?_, ?_⟩
  · have at_ := entered_of_raise (s := z) (by rw [hz]; exact working) .numberClash .numberClash
    rw [raised]
    rw [hz] at at_ ⊢
    exact at_
  · rw [raised, State.isLatched, makeEntry_oau]
    exact isLatched_raise (by simp [zFree])
  · have kept := accountsKept_makeEntry .numberClash (raise .numberClash z)
    rw [raised]
    unfold accountsKept at *
    rw [raise_acu] at kept
    rw [hz] at kept ⊢
    exact kept

theorem accountsKept_trans {s t u : State} (h : accountsKept s t) (k : accountsKept t u) : accountsKept s u := by
  unfold accountsKept at *
  obtain ⟨h1, h2, h3, h4, h5, h6, h7, h8⟩ := h
  obtain ⟨k1, k2, k3, k4, k5, k6, k7, k8⟩ := k
  exact ⟨k1.trans h1, k2.trans h2, k3.trans h3, k4.trans h4, k5.trans h5, k6.trans h6, k7.trans h7, k8.trans h8⟩

/-- A station settled twice ends as one settled once, of which only the roles, the windows and what rests on them have moved. -/
theorem ended_twice (q : State) (again : Bool) : ∃ x, (if again = true then settle (settle q) else settle q) = settleFrom x x ∧
    SameUnit x.ysu q.ysu ∧ x.oau = q.oau ∧ x.acu = { q.acu with silentWindow := x.acu.silentWindow } ∧ x.srk = q.srk ∧
    x.ini = q.ini ∧ x.rst = q.rst := by
  cases again with
  | false => exact ⟨q, by rw [if_neg (by decide), settle_eq], .refl _, rfl, rfl, rfl, rfl, rfl⟩
  | true =>
    refine ⟨settleFrom q q, by rw [if_pos rfl, settle_eq, settle_eq], settleFrom_same q q, settleFrom_oau q q, settleFrom_acu q q,
      settleFrom_srk q q, settleFrom_ini q q, settleFrom_rst q q⟩

/-- Settles O42. -/
theorem reportUnderTheOwnNumberClashes : Obligations.ReportUnderTheOwnNumberClashes := by
  intro chars r s data body bad d supply working number quiet gathered valid accepted
  have onLine : s.onLine = true := by simp [State.onLine, working]
  have done := exec_frameReceived_of_valid (r := r) supply onLine quiet gathered valid
  obtain ⟨h, hh⟩ : ∃ h, h = lineHeard (setInFrame false s) := ⟨_, rfl⟩
  have heard : h = cease .alone { setInFrame false s with ysu := { s.ysu with silence := some (5 * s.intervalMs) } } :=
    hh.trans (lineHeard_of_working (s := setInFrame false s) working)
  have whole := validMessage_of_ownReport (s := setInFrame false s) working number accepted body r
  dsimp only at whole
  rw [← hh, show (setInFrame false s).number = s.number from rfl] at whole
  rw [whole] at done
  clear whole
  obtain ⟨ysu, clash, alone, srk, ini, rst⟩ := clashRaised_frame h
  have hWorking : h.working = true := by rw [heard]; exact working
  have hAcu : h.acu = s.acu := by rw [heard]; rfl
  have hIni : h.ini = s.ini := by rw [heard]; rfl
  have hAlone : h.isCurrent .alone = false := by rw [heard, isCurrent_cease]; simp
  have hClash : h.isCurrent .numberClash = s.isCurrent .numberClash := by
    rw [heard, isCurrent_cease]
    simp [State.isCurrent, setInFrame]
  have hYsu : h.ysu = { s.ysu with silence := some (5 * s.intervalMs) } := by rw [heard]; rfl
  have hInterval : h.intervalMs = s.intervalMs := by rw [heard]; rfl
  have hRest : h.srk = s.srk ∧ h.rst = s.rst := by rw [heard]; exact ⟨rfl, rfl⟩
  have ofCurrent := fun current => clashRaised_of_current (s := h) current
  have ofFree := fun free => clashRaised_of_free (s := h) hWorking free
  rw [hYsu, hInterval] at ysu
  generalize clashRaised h = q at *
  obtain ⟨x, twice, unit, xOau, xAcu, xSrk, xIni, xRst⟩ := ended_twice q ((setInFrame false s).isCurrent .alone)
  rw [twice] at done
  have xClash : x.isCurrent .numberClash = true := by rw [State.isCurrent, xOau]; exact clash
  have unmanned := ended_of_unmanned (s := x) (.inr xClash) x
  obtain ⟨noTake, forced⟩ := claimed_of_unmanned (s := x) (.inr xClash)
  rw [ysu] at unit
  have tUnit := (sameUnit_ended x x).trans unit
  have period : (finish (settleFrom x x)).acu.period = q.acu.period := by rw [finish_acu, settleFrom_acu, xAcu]
  have accounts : accountsKept s x := by
    have kept : accountsKept s q := by
      cases current : h.isCurrent .numberClash with
      | true => exact accountsKept_of_acu ((ofCurrent current).trans hAcu)
      | false => exact accountsKept_trans (accountsKept_of_acu hAcu) (ofFree current).2.2
    unfold accountsKept at kept ⊢
    rw [xAcu]
    exact kept
  have tAccounts := accountsKept_ended accounts x
  have tOau : (finish (settleFrom x x)).oau = q.oau := by rw [finish_oau, settleFrom_oau, xOau]
  have tRest : (finish (settleFrom x x)).srk = s.srk ∧ (finish (settleFrom x x)).ini = s.ini ∧
      (finish (settleFrom x x)).rst = s.rst := by
    rw [finish_srk, settleFrom_srk, xSrk, srk, hRest.1, finish_ini, settleFrom_ini, xIni, ini, hIni, finish_rst, settleFrom_rst,
      xRst, rst, hRest.2]
    exact ⟨rfl, rfl, rfl⟩
  generalize finish (settleFrom x x) = t at *
  refine ⟨t, done, ?_, tUnit.clash, tUnit.table, tAccounts, (unmanned .take).2, (unmanned .give).2, ?_, ?_,
    fun free => ?_, fun current => ?_, tUnit.silence, ?_, tRest⟩
  · rw [State.isCurrent, tOau]
    exact clash
  · exact congrArg Option.isSome ((unmanned .take).1.trans noTake)
  · exact givesNoMore ((unmanned .give).1.trans forced)
  · rw [← hClash] at free
    obtain ⟨entry, latched, -⟩ := ofFree free
    refine ⟨?_, fun _ => ?_⟩
    · unfold entered at *
      rw [period]
      rwa [hAcu, hIni] at entry
    · rw [State.isLatched, tOau]
      exact latched
  · rw [period, ofCurrent (hClash.trans current), hAcu]
  · rw [State.isCurrent, tOau]
    exact alone.trans hAlone

end Sys2Proof.Machine

end

/-! The governor's steps (R138 to R145), and the statement on them. -/

section

namespace Sys2Proof.Machine

/-! ## The governor through the commands -/

theorem putDrive_pgv (d : Side) (x : Drive) (s : State) : (putDrive d x s).pgv = s.pgv ∨
    (putDrive d x s).pgv = { s.pgv with opening := 0 } := by
  have signalled : ∀ q : State, (if d = .outlet ∧ x.state = .isClosed then endLanding (signalDrive d (s.vdu.drive d).state x.state q)
      else signalDrive d (s.vdu.drive d).state x.state q).pgv = q.pgv := fun q => by
    split <;> simp
  unfold putDrive
  dsimp only
  split
  · exact .inl rfl
  · rw [judgeSilentWindow_pgv, judgeLossWindow_pgv, signalled]
    split
    · exact .inr rfl
    · exact .inl rfl

theorem giveCommand_pgv (d : Side) (c : DriveCommand) (s : State) : (giveCommand d c s).pgv = s.pgv ∨
    (giveCommand d c s).pgv = { s.pgv with opening := 0 } := by
  unfold giveCommand
  split
  · exact .inl rfl
  · exact putDrive_pgv _ _ _

/-- Commands derived leave the mode and the step timer, and an opening of 0. -/
theorem deriveCommands_pgv (s : State) : (deriveCommands s).pgv.mode = s.pgv.mode ∧ (deriveCommands s).pgv.step = s.pgv.step ∧
    (s.pgv.opening = 0 → (deriveCommands s).pgv.opening = 0) := by
  have one : ∀ (q : State) (d : Side) (c : DriveCommand), (giveCommand d c q).pgv.mode = q.pgv.mode ∧
      (giveCommand d c q).pgv.step = q.pgv.step ∧ (q.pgv.opening = 0 → (giveCommand d c q).pgv.opening = 0) := by
    intro q d c
    rcases giveCommand_pgv d c q with same | shut
    · rw [same]; exact ⟨rfl, rfl, id⟩
    · rw [shut]; exact ⟨rfl, rfl, fun _ => rfl⟩
  obtain ⟨mode, step, zero⟩ := one s .inlet (inletCommand s)
  obtain ⟨mode', step', zero'⟩ := one (giveCommand .inlet (inletCommand s) s) .outlet (outletCommand s)
  exact ⟨mode'.trans mode, step'.trans step, fun h => zero' (zero h)⟩

/-! ## A step (R139 to R144) -/

/-- The opening that a governing step works, from the one before it. -/
theorem governedOpening_eq (gain opening : Nat) (e : Int) :
    (governedOpening gain opening e : Int) = clamp 0 1000 (opening + clamp (-40) 40 ((e * gain).tdiv 16)) := by
  refine Int.toNat_of_nonneg ?_
  unfold clamp
  split
  · exact le_rfl
  · split <;> omega

theorem steppedOpening_governing {s : State} {pd : Int} (district : s.ini.district.value = some pd) :
    (steppedOpening s .governing : Int) = clamp 0 1000 (s.pgv.opening + clamp (-40) 40
      ((((s.cfg.profile.getD (s.ini.minute / 30) 0 : Int) - ((s.memberRank .give : Int) - 1) * s.cfg.lagStep - pd) *
        s.cfg.gain).tdiv 16)) := by
  have stepped : steppedOpening s .governing = governedOpening s.cfg.gain s.pgv.opening (s.effectiveSetPoint - pd) := by
    simp only [steppedOpening, district]
  rw [stepped, governedOpening_eq]
  rfl

theorem steppedOpening_of_zero {s : State} (zero : s.pgv.opening = 0) {m : GovernorMode} (other : m ≠ .governing) :
    steppedOpening s m = 0 := by
  cases m with
  | released => exact zero
  | shut => rfl
  | ramping => simp [steppedOpening, zero]
  | holding => exact zero
  | governing => exact absurd rfl other

/-- The governor leaves RELEASED: the mode judged, a step in it at once, and the step timer at 2 s (R139). -/
theorem judgeMode_of_leaving {s : State} (was : s.pgv.mode = .released) (driven : modeOf s ≠ .released) :
    judgeMode s = { s with
      pgv := { s.pgv with mode := modeOf s, step := some 2000, opening := steppedOpening s (modeOf s) },
      vdu := { s.vdu with governor := GovernorOutput.commanded s.outletOpen (steppedOpening s (modeOf s)) } } := by
  have other : ¬ modeOf s = s.pgv.mode := by rw [was]; exact driven
  have same : ∀ m, steppedOpening { s with pgv := { s.pgv with mode := modeOf s, step := some Config.stepTime } } m =
      steppedOpening s m := fun m => by cases m <;> rfl
  simp only [judgeMode, if_neg other, if_neg driven, if_pos was, governorStep, same]
  rfl

/-- The output stands at the opening that a first step works. -/
theorem commanded_of_first {s : State} (zero : s.pgv.opening = 0) :
    GovernorOutput.commanded s.outletOpen (steppedOpening s (modeOf s)) = .driven (steppedOpening s (modeOf s)) := by
  by_cases governs : modeOf s = .governing
  · have top := steppedOpening_le (s := s) (by omega) (modeOf s)
    rw [outletOpen_of_governing governs, GovernorOutput.commanded, if_pos rfl, Nat.min_eq_left top]
  · rw [steppedOpening_of_zero zero governs, GovernorOutput.commanded]
    simp

theorem memberRank_congr {s t : State} (mvc : t.mvc.turnoverDue = s.mvc.turnoverDue ∧ t.mvc.cycles = s.mvc.cycles)
    (srk : t.srk = s.srk) (number : t.number = s.number) (table : t.ysu.table = s.ysu.table) (r : Role) :
    t.memberRank r = s.memberRank r := by
  rw [State.memberRank, State.memberRank, table]
  exact rankAmong_congr mvc srk number r _

/-- A station whose mode an event takes out of RELEASED: the step timer at 2 s, and the first step from an opening of 0 (R138,
R139, R145). -/
theorem ended_of_leaving {old q : State} (was : q.pgv.mode = .released) (run : q.station = .run)
    (key : q.ini.key ≠ .outOfService) : let t := finish (settleFrom old q)
    t.pgv.step = some 2000 ∧ (q.pgv.opening = 0 → t.vdu.governor = .driven t.pgv.opening ∧
      (t.pgv.mode ≠ .governing → t.pgv.opening = 0) ∧
      (∀ pd, t.pgv.mode = .governing → q.ini.district.value = some pd →
        (t.pgv.opening : Int) = clamp 0 1000 (clamp (-40) 40
          ((((q.cfg.profile.getD (q.ini.minute / 30) 0 : Int) - ((t.memberRank .give : Int) - 1) * q.cfg.lagStep - pd) *
            q.cfg.gain).tdiv 16)))) := by
  obtain ⟨z, hz⟩ : ∃ z, z = deriveCommands (handOn old (chooseRoles q)) := ⟨_, rfl⟩
  obtain ⟨mode, -, opening⟩ := deriveCommands_pgv (handOn old (chooseRoles q))
  have pgv : (handOn old (chooseRoles q)).pgv = q.pgv := by simp
  rw [← hz, pgv] at mode opening
  have frame : z.station = q.station ∧ z.ini = q.ini ∧ z.plug = q.plug := by
    rw [hz]
    simp
  obtain ⟨station, ini, plug⟩ := frame
  have cfg : z.cfg = q.cfg := by rw [State.cfg, State.cfg, plug]
  have driven : modeOf z ≠ .released := by
    unfold modeOf
    rw [station, ini, if_neg (by simp [run, key])]
    split
    · decide
    · split
      · decide
      · split <;> decide
  have judged := judgeMode_of_leaving (mode.trans was) driven
  have whole : settleFrom old q = judgeCalls (judgeMode z) := by rw [hz]; rfl
  rw [whole]
  have tPgv : (finish (judgeCalls (judgeMode z))).pgv = (judgeMode z).pgv := by simp
  have tVdu : (finish (judgeCalls (judgeMode z))).vdu = (judgeMode z).vdu := by simp
  have rank : (finish (judgeCalls (judgeMode z))).memberRank .give = z.memberRank .give :=
    memberRank_congr (by simp) (by simp) (by simp) (by rw [finish_ysu, (judgeCalls_same _).table, judgeMode_ysu]) .give
  generalize finish (judgeCalls (judgeMode z)) = t at *
  rw [judged] at tPgv tVdu
  intro u
  refine ⟨by rw [tPgv], fun zero => ⟨?_, fun other => ?_, fun pd governs district => ?_⟩⟩
  · rw [tVdu, tPgv]
    exact commanded_of_first (opening zero)
  · rw [tPgv] at other ⊢
    exact steppedOpening_of_zero (opening zero) other
  · rw [rank, tPgv]
    rw [tPgv] at governs
    have governs' : modeOf z = .governing := governs
    rw [← ini] at district
    have stepped := steppedOpening_governing district
    rw [opening zero, cfg, ini] at stepped
    rw [← governs'] at stepped
    simpa using stepped

theorem exec_stepTimer {s : State} (supply : s.supply = true) (runs : s.pgv.step.isSome = true) :
    exec .stepTimerExpiry s =
      .next (finish (judgeCalls (governorStep { s with pgv := { s.pgv with step := some Config.stepTime } }))) := by
  show Host.Outcome.next _ = _
  rw [powered_of_supply supply, stepExpired, if_pos runs]

/-- What a timed step leaves (R139, R142). -/
theorem stepped_frame (s : State) :
    let o := steppedOpening s s.pgv.mode
    let t := finish (judgeCalls (governorStep { s with pgv := { s.pgv with step := some Config.stepTime } }))
    t = { s with pgv := { s.pgv with opening := o, step := some 2000 },
                 vdu := { s.vdu with governor := GovernorOutput.commanded s.outletOpen o }, ysu := t.ysu, yli := t.yli } ∧
      ∀ r, t.holds r = s.holds r := by
  obtain ⟨p, hp⟩ : ∃ p : State, p = { s with pgv := { s.pgv with step := some Config.stepTime } } := ⟨_, rfl⟩
  have same : steppedOpening p p.pgv.mode = steppedOpening s s.pgv.mode := by
    rw [hp]
    cases s.pgv.mode <;> rfl
  have worked : governorStep p = { s with
      pgv := { s.pgv with opening := steppedOpening s s.pgv.mode, step := some 2000 },
      vdu := { s.vdu with governor := GovernorOutput.commanded s.outletOpen (steppedOpening s s.pgv.mode) } } := by
    rw [governorStep, same, hp]
    rfl
  rw [← hp]
  generalize hw : governorStep p = w at *
  intro o t
  refine ⟨?_, fun r => ?_⟩
  · apply State.eq_of_fields <;> simp [t, o, worked]
  · have ysu : w.ysu = s.ysu := by rw [worked]
    show ((finish (judgeCalls w)).ysu.role r).held.isSome = _
    rw [finish_ysu, (judgeCalls_held_able r w).1, ysu]
    rfl

/-- Settles O48. -/
theorem governorSteps : Obligations.GovernorSteps := by
  refine ⟨fun s supply runs => ?_, fun p s supply run taken key other was zero => ?_⟩
  · have done := exec_stepTimer supply runs
    obtain ⟨frame, holds⟩ := stepped_frame s
    dsimp only at frame holds
    generalize finish (judgeCalls (governorStep { s with pgv := { s.pgv with step := some Config.stepTime } })) = t at *
    have pgv : t.pgv = { s.pgv with opening := steppedOpening s s.pgv.mode, step := some 2000 } := by rw [frame]
    have vdu : t.vdu = { s.vdu with governor := GovernorOutput.commanded s.outletOpen (steppedOpening s s.pgv.mode) } := by
      rw [frame]
    have isOpen : s.outletOpen = true ↔ s.vdu.outlet.state = .isOpen := by simp [State.outletOpen]
    refine ⟨t, done, by rw [pgv], by rw [pgv], fun pd governs district => ?_, fun mode => ?_, fun mode => ?_, fun mode => ?_, ?_,
      holds .take, holds .give, ?_⟩
    · rw [pgv]
      show (steppedOpening s s.pgv.mode : Int) = _
      rw [governs]
      exact steppedOpening_governing district
    · rw [pgv, mode]; rfl
    · rw [pgv, mode]
      exact if_congr isOpen rfl rfl
    · rw [pgv, mode]; rfl
    · rw [vdu, pgv]
      exact congrArg GovernorOutput.driven (if_congr isOpen rfl rfl)
    · rw [pgv, vdu]
      exact frame
  · obtain ⟨q, hq⟩ : ∃ q, q = makeEntry .keyChange (keyTurned p s) := ⟨_, rfl⟩
    have done := exec_keyChange supply taken (show p ≠ s.ini.key by rw [key]; exact other)
    rw [← hq, settle_eq] at done
    have ini : q.ini = { s.ini with key := p, keyDefaulted := false } := by rw [hq, makeEntry_ini]; rfl
    have rest : q.station = s.station ∧ q.pgv = s.pgv ∧ q.plug = s.plug := by
      rw [hq, makeEntry_station, makeEntry_pgv, makeEntry_plug]
      exact ⟨rfl, rfl, rfl⟩
    obtain ⟨station, pgv, plug⟩ := rest
    have cfg : q.cfg = s.cfg := by rw [State.cfg, State.cfg, plug]
    have mode := (settled_ended q q).mode
    obtain ⟨step, first⟩ := ended_of_leaving (old := q) (q := q) (by rw [pgv]; exact was) (station.trans run)
      (by rw [ini]; exact other)
    have zero' : q.pgv.opening = 0 := by rw [pgv]; exact zero
    obtain ⟨governor, idle, governs⟩ := first zero'
    rw [cfg, ini] at governs
    exact ⟨_, done, mode, step, governor, idle, governs⟩

end Sys2Proof.Machine

end

/-! The entry to RUN (R134, R171, R180). -/

section

namespace Sys2Proof.Machine

theorem exec_listenTimer {s : State} (supply : s.supply = true) (listen : s.station = .listen)
    (runs : s.listenTimer.isSome = true) : exec .listenTimerExpiry s = .next (finish (settleFrom s (running s))) := by
  show Host.Outcome.next _ = _
  rw [powered_of_supply supply, listenExpired, if_pos ⟨listen, runs⟩, enterRun_eq]

/-- What the entry to RUN has put before the settling pass. -/
structure Entered (s q : State) : Prop where
  station : q.station = .run
  listenTimer : q.listenTimer = none
  srk : q.srk = s.srk
  ini : q.ini = s.ini
  vdu : q.vdu = s.vdu
  mvc : q.mvc = s.mvc
  pgv : q.pgv = s.pgv
  rst : q.rst = s.rst
  oau : q.oau = s.oau
  acu : q.acu = { s.acu with period := { s.acu.period with number := some (s.acu.period.number.getD 1) } }
  table : q.ysu.table = s.ysu.table
  order : q.ysu.order = s.ysu.order
  effective : q.ysu.effective = (s.ysu.order != .auto && s.ini.key == .auto)
  dwell : ∀ r, (q.ysu.role r).dwell = some 300000
  adoptsTake : q.ysu.take.held = adopted s.vdu.inlet
  adoptsGive : q.ysu.give.held = adopted s.vdu.outlet

theorem entered_running (s : State) : Entered s (running s) := by
  constructor <;> first | rfl | exact fun r => by cases r <;> rfl

namespace Entered

variable {s q : State} (h : Entered s q)

include h

theorem clash : q.isCurrent .numberClash = s.isCurrent .numberClash := by rw [State.isCurrent, h.oau]; rfl

theorem suppression (r : Role) : suppressed q r = suppressed s r := suppressed_congr h.oau h.vdu h.mvc h.srk r

/-- The roles held at the entry's end are the claims upon those adopted, the dwells being begun (R109, R134). -/
theorem held (r : Role) : ((finish (settleFrom s q)).ysu.role r).held = claimed q r := by
  rw [held_ended, chooseRoles_held_of_unpermitted (permitted_of_roleChanged (h.dwell r))]

theorem dwells (r : Role) : ((finish (settleFrom s q)).ysu.role r).dwell = some 300000 := by
  rw [ended_dwell, h.dwell, ite_self]

theorem forced : forcedNow q = true ↔ s.ini.key ≠ .outOfService ∧ s.mvc.zone = .top ∧ s.vdu.outlet.state ≠ .fault := by
  rw [forcedNow_iff, h.ini, h.mvc, h.vdu]
  simp only [h.station, true_and]
  tauto

/-- With the key away from AUTO, or under NUMBER CLASH, the LIMIT give alone is held. -/
theorem claimed_unmanned (unmanned : s.ini.key ≠ .auto ∨ s.isCurrent .numberClash = true) :
    claimed q .take = none ∧ claimed q .give =
      if s.ini.key ≠ .outOfService ∧ s.mvc.zone = .top ∧ s.vdu.outlet.state ≠ .fault then some .limit else none := by
  obtain ⟨take, give⟩ := claimed_of_unmanned (s := q) (by rw [h.ini, h.clash]; exact unmanned)
  exact ⟨take, give.trans (if_congr h.forced rfl rfl)⟩

theorem claimed_manned (auto : s.ini.key = .auto) (clear : s.isCurrent .numberClash = false) (r : Role) : claimed q r =
    if suppressed s r = true then none
    else if r = .give ∧ s.mvc.zone = .top then some .limit else ownClaim q r := by
  rw [claimed_of_manned h.station (by rw [h.ini]; exact auto) (h.clash.trans clear), h.suppression, h.mvc]

theorem ownClaim_hand {d : Duty} (order : s.ysu.order = .hand d) (auto : s.ini.key = .auto) (r : Role) :
    ownClaim q r = if d.includes r = true then some .hand else none := by
  have effective : q.ysu.effective = true := by rw [h.effective, order, auto]; rfl
  rw [ownClaim, effective, h.order, order]

theorem ownClaim_auto (order : s.ysu.order = .auto) (r : Role) :
    ownClaim q r = (q.ysu.role r).held.map fun _ => Cause.automatic := by
  have effective : q.ysu.effective = false := by rw [h.effective, order]; rfl
  rw [ownClaim, effective]

end Entered

theorem adopted_automatic (d : Drive) : (adopted d).map (fun _ => Cause.automatic) =
    if d.state = .isOpen then some .automatic else none := by
  unfold adopted
  split <;> rfl

/-- In TOP the give is suppressed by the outlet drive's FAULT alone (R109). -/
theorem suppressed_give_of_top {s : State} (top : s.mvc.zone = .top) :
    suppressed s .give = true ↔ s.vdu.outlet.state = .fault := by
  simp [suppressed, top]

/-- The roles that the entry to RUN leaves with no hand order held (R109, R125, R134). -/
theorem Entered.claimed_auto {s q : State} (h : Entered s q) (order : s.ysu.order = .auto) :
    claimed q .take = (if s.ini.key = .auto ∧ s.isCurrent .numberClash = false ∧ suppressed s .take = false ∧
        s.vdu.inlet.state = .isOpen then some .automatic else none) ∧
    claimed q .give = (if s.ini.key ≠ .outOfService ∧ s.mvc.zone = .top ∧ s.vdu.outlet.state ≠ .fault then some .limit
      else if s.ini.key = .auto ∧ s.isCurrent .numberClash = false ∧ suppressed s .give = false ∧
        s.vdu.outlet.state = .isOpen then some .automatic else none) := by
  by_cases manned : s.ini.key = .auto ∧ s.isCurrent .numberClash = false
  · obtain ⟨auto, clear⟩ := manned
    have own : ∀ r, ownClaim q r = _ := h.ownClaim_auto order
    have takeOwn : ownClaim q .take = if s.vdu.inlet.state = .isOpen then some .automatic else none := by
      rw [own, ← adopted_automatic, ← h.adoptsTake]
      rfl
    have giveOwn : ownClaim q .give = if s.vdu.outlet.state = .isOpen then some .automatic else none := by
      rw [own, ← adopted_automatic, ← h.adoptsGive]
      rfl
    rw [h.claimed_manned auto clear, h.claimed_manned auto clear, takeOwn, giveOwn]
    refine ⟨?_, ?_⟩
    · cases suppressed s .take <;> simp [auto, clear]
    · by_cases top : s.mvc.zone = .top
      · have sup := suppressed_give_of_top top
        by_cases fault : s.vdu.outlet.state = .fault
        · simp [sup.2 fault, fault]
        · simp [Bool.eq_false_iff.2 (mt sup.1 fault), auto, top, fault]
      · cases suppressed s .give <;> simp [auto, clear, top]
  · have unmanned : s.ini.key ≠ .auto ∨ s.isCurrent .numberClash = true := by
      rw [not_and_or, Bool.not_eq_false] at manned
      exact manned
    obtain ⟨take, give⟩ := h.claimed_unmanned unmanned
    rw [take, give]
    refine ⟨(if_neg fun held => manned ⟨held.1, held.2.1⟩).symm, ?_⟩
    split
    · rfl
    · exact (if_neg fun held => manned ⟨held.1, held.2.1⟩).symm

/-- Settles O10. -/
theorem listenExpiryEntersRun : Obligations.ListenExpiryEntersRun := by
  intro s supply listen runs
  obtain ⟨q, hq⟩ : ∃ q, q = running s := ⟨_, rfl⟩
  have h : Entered s q := hq ▸ entered_running s
  have done := exec_listenTimer supply listen runs
  rw [← hq] at done
  clear hq
  have unit := sameUnit_ended s q
  have settled := settled_ended s q
  have frame : (finish (settleFrom s q)).station = .run ∧ (finish (settleFrom s q)).listenTimer = none ∧
      (finish (settleFrom s q)).srk = s.srk ∧ (finish (settleFrom s q)).ini = s.ini ∧
      (finish (settleFrom s q)).rst = s.rst ∧ (finish (settleFrom s q)).oau = s.oau := by
    obtain ⟨⟨-, station, -, -, timer, -⟩, -, -, ini, srk, rst, -⟩ := (dutyFrame_iff _ _).1 (dutyFrame_ended (s := q) (q := q) rfl s)
    rw [station, timer, ini, srk, rst, finish_oau, settleFrom_oau]
    exact ⟨h.station, h.listenTimer, h.srk, h.ini, h.rst, h.oau⟩
  have number : (finish (settleFrom s q)).acu.period.number = some (s.acu.period.number.getD 1) := by
    rw [finish_acu, settleFrom_acu, h.acu]
  have leaving : s.pgv.mode = .released → s.ini.key ≠ .outOfService → _ := fun was key =>
    ended_of_leaving (old := s) (q := q) (by rw [h.pgv]; exact was) h.station (by rw [h.ini]; exact key)
  have held := h.held
  have dwells := h.dwells
  generalize finish (settleFrom s q) = t at *
  obtain ⟨station, timer, srk, ini, rst, oau⟩ := frame
  refine ⟨t, done, station, timer, srk, ini, rst, oau, unit.table.trans h.table, number, dwells .take, dwells .give,
    unit.effective.trans h.effective, settled.ability, settled.mode, fun was key => ?_, fun unmanned => ?_,
    fun d order auto clear => ?_, fun order => ?_⟩
  · obtain ⟨step, first⟩ := leaving was key
    exact ⟨step, fun idle zero => (first (by rw [h.pgv]; exact zero)).2.1 idle⟩
  · obtain ⟨take, give⟩ := h.claimed_unmanned unmanned
    exact ⟨(held .take).trans take, (held .give).trans give⟩
  · have take := (held .take).trans (h.claimed_manned auto clear .take)
    have give := (held .give).trans (h.claimed_manned auto clear .give)
    rw [h.ownClaim_hand order auto] at take give
    refine ⟨take.trans ?_, give.trans ?_⟩
    · cases suppressed s .take <;> simp
    · simp
  · obtain ⟨take, give⟩ := h.claimed_auto order
    exact ⟨(held .take).trans take, (held .give).trans give⟩

end Sys2Proof.Machine

end

/-! A drive record replaced, and its readers (R45 to R50, R59, R66): what stands after the settling pass as well. -/

section

namespace Sys2Proof.Machine

/-! ## A drive record replaced -/

/-- A drive's state changed, with everything it is handed to but the windows (R49, R50, R59). -/
def driveMoved (d : Side) (x : Drive) (s : State) : State :=
  let before := (s.vdu.drive d).state
  let s1 := { s with vdu := s.vdu.setDrive d x }
  let s2 := if d = .outlet ∧ before = .isOpen then shutGovernor s1 else s1
  let s3 := signalDrive d before x.state s2
  if d = .outlet ∧ x.state = .isClosed then endLanding s3 else s3

theorem putDrive_of_moved {d : Side} {x : Drive} {s : State} (moves : x.state ≠ (s.vdu.drive d).state) :
    putDrive d x s = judgeSilentWindow (judgeLossWindow (driveMoved d x s)) := if_neg moves

theorem putDrive_of_still {d : Side} {x : Drive} {s : State} (still : x.state = (s.vdu.drive d).state) :
    putDrive d x s = { s with vdu := s.vdu.setDrive d x } := if_pos still

theorem putDrive_state (d : Side) (x : Drive) (s : State) (v : Side) :
    ((putDrive d x s).vdu.drive v).state = if v = d then x.state else (s.vdu.drive v).state := by
  split
  · next own => rw [own, putDrive_drive]
  · next other => rw [putDrive_other _ _ _ _ other]

theorem driveMoved_vdu_drive (d : Side) (x : Drive) (s : State) (v : Side) :
    (driveMoved d x s).vdu.drive v = if v = d then x else s.vdu.drive v := by
  have last : ∀ q : State, (if d = .outlet ∧ x.state = .isClosed then endLanding q else q).vdu = q.vdu := fun q => by
    split <;> simp
  have shut : ∀ q : State, (if d = .outlet ∧ (s.vdu.drive d).state = .isOpen then shutGovernor q else q).vdu.drive v =
      q.vdu.drive v := fun q => by
    split
    · cases v <;> rfl
    · rfl
  unfold driveMoved
  rw [last, signalDrive_vdu, shut]
  cases d <;> cases v <;> rfl

/-! ## The governor (R50, R142) -/

/-- The opening is 0, and so is a driven output. -/
def governorShut (s : State) : Prop := s.pgv.opening = 0 ∧ (s.vdu.governor = .released ∨ s.vdu.governor = .driven 0)

theorem governorShut_shutGovernor (s : State) : governorShut (shutGovernor s) := by
  refine ⟨rfl, ?_⟩
  show s.vdu.governor.shut = _ ∨ s.vdu.governor.shut = _
  cases s.vdu.governor
  · exact .inl rfl
  · exact .inr rfl

/-- While the outlet drive is not OPEN the governor is shut. -/
def shutUnlessOpen (s : State) : Prop := s.vdu.outlet.state = .isOpen ∨ governorShut s

theorem shutUnlessOpen_putDrive {s : State} (d : Side) (x : Drive) (h : shutUnlessOpen s) :
    shutUnlessOpen (putDrive d x s) := by
  by_cases still : x.state = (s.vdu.drive d).state
  · rw [putDrive_of_still still]
    rcases h with wide | shut
    · refine .inl ?_
      cases d with
      | inlet => exact wide
      | outlet => exact still.trans wide
    · refine .inr ?_
      cases d <;> exact shut
  · have last : ∀ q : State, (if d = .outlet ∧ x.state = .isClosed then endLanding q else q).vdu = q.vdu ∧
        (if d = .outlet ∧ x.state = .isClosed then endLanding q else q).pgv = q.pgv := fun q => by split <;> simp
    have kept : ∀ q : State, governorShut q → governorShut (judgeSilentWindow (judgeLossWindow
        (if d = .outlet ∧ x.state = .isClosed then endLanding (signalDrive d (s.vdu.drive d).state x.state q)
          else signalDrive d (s.vdu.drive d).state x.state q))) := fun q shut => by
      unfold governorShut
      rw [judgeSilentWindow_vdu, judgeLossWindow_vdu, judgeSilentWindow_pgv, judgeLossWindow_pgv, (last _).1, (last _).2,
        signalDrive_vdu, signalDrive_pgv]
      exact shut
    rw [putDrive_of_moved still]
    rcases h with wide | shut
    · cases d with
      | inlet =>
        refine .inl ?_
        have drive := driveMoved_vdu_drive .inlet x s .outlet
        rw [judgeSilentWindow_vdu, judgeLossWindow_vdu]
        exact (congrArg Drive.state drive).trans wide
      | outlet =>
        refine .inr (kept _ ?_)
        rw [if_pos ⟨rfl, wide⟩]
        exact governorShut_shutGovernor _
    · refine .inr (kept _ ?_)
      split
      · exact governorShut_shutGovernor _
      · cases d <;> exact shut

theorem governorShut_judgeMode {s : State} (off : s.outletOpen = false) (shut : governorShut s) : governorShut (judgeMode s) := by
  obtain ⟨zero, output⟩ := shut
  unfold judgeMode
  dsimp only
  split
  · exact ⟨zero, output⟩
  · split
    · exact ⟨rfl, .inl rfl⟩
    · split
      · next other driven was =>
        have idle : modeOf s ≠ .governing := fun governs => by simp [outletOpen_of_governing governs] at off
        have stepped : steppedOpening s (modeOf s) = 0 := steppedOpening_of_zero zero idle
        have judged := judgeMode_of_leaving was driven
        have whole : governorStep { s with pgv := { s.pgv with mode := modeOf s, step := some Config.stepTime } } =
            judgeMode s := by
          unfold judgeMode
          dsimp only
          rw [if_neg other, if_neg driven, if_pos was]
        rw [whole, judged, stepped]
        exact ⟨rfl, .inr (by rw [off]; rfl)⟩
      · exact ⟨zero, output⟩

/-! ## The landing leg (R59, R60) -/

/-- While the outlet drive is CLOSED there is no landing leg, and LIMIT GUARD follows the top leg. -/
def noLegWhileClosed (s : State) : Prop := s.vdu.outlet.state ≠ .isClosed ∨
  (s.mvc.landingLeg = false ∧ (s.isCurrent .limitGuard = true ↔ s.mvc.topLeg = true))

theorem isCurrent_judgeLimitGuard_guard (s : State) :
    (judgeLimitGuard s).isCurrent .limitGuard = (s.mvc.topLeg || s.mvc.landingLeg) := by
  unfold judgeLimitGuard
  split
  · next legs => rw [isCurrent_raiseWithEntry, legs]; simp
  · next legs =>
    rw [isCurrent_cease, Bool.eq_false_iff.2 legs]
    simp

theorem isCurrent_signalDrive_guard (d : Side) (b a : DriveState) (s : State) :
    (signalDrive d b a s).isCurrent .limitGuard = s.isCurrent .limitGuard := by
  unfold signalDrive
  split
  · rw [isCurrent_makeEntry, isCurrent_raise]
    cases d <;> simp [valveFaultKind]
  · split
    · rw [isCurrent_cease]
      cases d <;> simp [valveFaultKind]
    · rfl

theorem judgeLossWindow_legs (s : State) : (judgeLossWindow s).mvc.topLeg = s.mvc.topLeg ∧
    (judgeLossWindow s).mvc.landingLeg = s.mvc.landingLeg := by
  unfold judgeLossWindow
  split
  · split <;> exact ⟨rfl, rfl⟩
  · exact ⟨rfl, rfl⟩

theorem noLegWhileClosed_putDrive {s : State} (d : Side) (x : Drive) (h : noLegWhileClosed s) :
    noLegWhileClosed (putDrive d x s) := by
  by_cases closed : (putDrive d x s).vdu.outlet.state = .isClosed
  · have state := putDrive_state d x s .outlet
    refine .inr ?_
    by_cases still : x.state = (s.vdu.drive d).state
    · have before : s.vdu.outlet.state = .isClosed := by
        rw [← closed]
        refine Eq.trans ?_ state.symm
        split
        · next own => rw [still, ← own]; rfl
        · rfl
      rw [putDrive_of_still still]
      exact h.resolve_left (not_not.2 before)
    · rw [putDrive_of_moved still]
      unfold State.isCurrent
      rw [judgeSilentWindow_mvc, judgeSilentWindow_oau, judgeLossWindow_oau, (judgeLossWindow_legs _).1,
        (judgeLossWindow_legs _).2]
      cases d with
      | outlet =>
        have arrives : x.state = .isClosed := state.symm.trans closed
        unfold driveMoved
        dsimp only
        rw [if_pos ⟨rfl, arrives⟩, endLanding, judgeLimitGuard_mvc]
        refine ⟨rfl, ?_⟩
        have guard := isCurrent_judgeLimitGuard_guard
        unfold State.isCurrent at guard
        rw [guard]
        simp
      | inlet =>
        have before : s.vdu.outlet.state = .isClosed := state.symm.trans closed
        have legs := h.resolve_left (not_not.2 before)
        have guard := isCurrent_signalDrive_guard .inlet (s.vdu.drive .inlet).state x.state
          { s with vdu := s.vdu.setDrive .inlet x }
        unfold State.isCurrent at guard legs
        unfold driveMoved
        dsimp only
        rw [if_neg (by simp), if_neg (by simp), signalDrive_mvc, guard]
        exact legs
  · exact .inl closed

/-! ## The windows (R64, R66, R158) -/

/-- While a drive is not CLOSED no still-loss window runs, and none of the meter's for the inlet. -/
def noWindowUnlessClosed (v : Side) (s : State) : Prop := (s.vdu.drive v).state = .isClosed ∨
  (s.mvc.window = none ∧ (v = .inlet → s.acu.silentWindow = none))

theorem judgeLossWindow_of_open {s : State} {v : Side} (off : (s.vdu.drive v).state ≠ .isClosed) :
    (judgeLossWindow s).mvc.window = none := by
  have ended : s.lossWindowHolds = false := by
    unfold State.lossWindowHolds
    cases v with
    | inlet => simp [show s.vdu.inlet.state ≠ .isClosed from off]
    | outlet => simp [show s.vdu.outlet.state ≠ .isClosed from off]
  rw [judgeLossWindow, if_neg (by simp [ended])]

theorem judgeSilentWindow_of_open {s : State} (off : s.vdu.inlet.state ≠ .isClosed) :
    (judgeSilentWindow s).acu.silentWindow = none := by
  have ended : s.silentWindowHolds = false := by simp [State.silentWindowHolds, off]
  rw [judgeSilentWindow, if_neg (by simp [ended])]

theorem noWindowUnlessClosed_putDrive {v : Side} {s : State} (d : Side) (x : Drive) (h : noWindowUnlessClosed v s) :
    noWindowUnlessClosed v (putDrive d x s) := by
  by_cases closed : ((putDrive d x s).vdu.drive v).state = .isClosed
  · exact .inl closed
  · refine .inr ?_
    by_cases still : x.state = (s.vdu.drive d).state
    · have state := putDrive_state d x s v
      have before : (s.vdu.drive v).state ≠ .isClosed := by
        rw [state] at closed
        split at closed
        · next own => rwa [own, ← still]
        · exact closed
      rw [putDrive_of_still still]
      exact h.resolve_left before
    · rw [putDrive_of_moved still] at closed ⊢
      rw [judgeSilentWindow_vdu, judgeLossWindow_vdu] at closed
      refine ⟨?_, fun inlet => ?_⟩
      · rw [judgeSilentWindow_mvc]
        exact judgeLossWindow_of_open closed
      · subst inlet
        refine judgeSilentWindow_of_open ?_
        rw [judgeLossWindow_vdu]
        exact closed

/-! ## Through the settling pass -/

/-- What every replaced drive record keeps, and what rests on the drives, the governor, the legs, the guard and the windows
alone, stands when the commands are given. -/
theorem deriveCommands_keeps {P : State → Prop} (put : ∀ (d : Side) (x : Drive) (s : State), P s → P (putDrive d x s))
    {s : State} (h : P s) : P (deriveCommands s) := by
  have given : ∀ (d : Side) (c : DriveCommand) (q : State), P q → P (giveCommand d c q) := fun d c q stands => by
    unfold giveCommand
    split
    · exact stands
    · exact put _ _ _ stands
  exact given _ _ _ (given _ _ _ h)

theorem handOn_legs (old s : State) : (handOn old s).mvc.topLeg = s.mvc.topLeg ∧
    (handOn old s).mvc.landingLeg = s.mvc.landingLeg ∧ (handOn old s).mvc.window = s.mvc.window := by
  unfold handOn
  split
  · exact ⟨rfl, rfl, rfl⟩
  · dsimp only
    rw [trigger_mvc]
    split <;> split <;> exact ⟨rfl, rfl, rfl⟩

theorem chooseRoles_legs (s : State) : (chooseRoles s).mvc.topLeg = s.mvc.topLeg ∧
    (chooseRoles s).mvc.landingLeg = s.mvc.landingLeg ∧ (chooseRoles s).mvc.window = s.mvc.window := by
  have mvc : (chooseRoles s).mvc = (judgeRequest s).mvc := by simp [chooseRoles]
  rw [mvc]
  exact ⟨rfl, rfl, rfl⟩

theorem handOn_chosen (old s : State) : (handOn old (chooseRoles s)).vdu = s.vdu ∧ (handOn old (chooseRoles s)).pgv = s.pgv ∧
    (handOn old (chooseRoles s)).acu = s.acu ∧ (handOn old (chooseRoles s)).oau = s.oau ∧
    (handOn old (chooseRoles s)).mvc.topLeg = s.mvc.topLeg ∧
    (handOn old (chooseRoles s)).mvc.landingLeg = s.mvc.landingLeg ∧
    (handOn old (chooseRoles s)).mvc.window = s.mvc.window := by
  obtain ⟨top, landing, window⟩ := handOn_legs old (chooseRoles s)
  obtain ⟨top', landing', window'⟩ := chooseRoles_legs s
  rw [top, landing, window, top', landing', window']
  simp

theorem settleFrom_blocks (old s : State) : ∃ z, z = deriveCommands (handOn old (chooseRoles s)) ∧
    (settleFrom old s).mvc = z.mvc ∧ (settleFrom old s).acu = z.acu ∧ (settleFrom old s).oau = z.oau ∧
    (∀ v, (settleFrom old s).vdu.drive v = z.vdu.drive v) ∧
    (settleFrom old s).vdu.governor = (judgeMode z).vdu.governor ∧ (settleFrom old s).pgv = (judgeMode z).pgv := by
  refine ⟨_, rfl, ?_⟩
  rw [settleFrom]
  generalize deriveCommands (handOn old (chooseRoles s)) = z
  refine ⟨by simp, by simp, by simp, fun v => ?_, by simp, by simp⟩
  rw [judgeCalls_vdu, judgeMode_drive]

theorem shut_settleFrom {old s : State} (h : shutUnlessOpen s) (off : (settleFrom old s).vdu.outlet.state ≠ .isOpen) :
    governorShut (settleFrom old s) := by
  obtain ⟨z, hz, -, -, -, drive, governor, pgv⟩ := settleFrom_blocks old s
  obtain ⟨vdu, pgv', -⟩ := handOn_chosen old s
  have began : shutUnlessOpen (handOn old (chooseRoles s)) := by
    unfold shutUnlessOpen governorShut
    rw [vdu, pgv']
    exact h
  have derived : shutUnlessOpen z := hz ▸ deriveCommands_keeps (fun d x _ => shutUnlessOpen_putDrive d x) began
  have outlet : (settleFrom old s).vdu.outlet.state = z.vdu.outlet.state := congrArg Drive.state (drive .outlet)
  rw [outlet] at off
  have judged := governorShut_judgeMode (by simp [State.outletOpen, off]) (derived.resolve_left off)
  unfold governorShut at judged ⊢
  rw [governor, pgv]
  exact judged

theorem noLeg_settleFrom {old s : State} (h : noLegWhileClosed s) : noLegWhileClosed (settleFrom old s) := by
  obtain ⟨z, hz, mvc, -, oau, drive, -, -⟩ := settleFrom_blocks old s
  obtain ⟨vdu, -, -, oau', top, landing, -⟩ := handOn_chosen old s
  have began : noLegWhileClosed (handOn old (chooseRoles s)) := by
    unfold noLegWhileClosed State.isCurrent
    rw [vdu, oau', top, landing]
    exact h
  have derived : noLegWhileClosed z := hz ▸ deriveCommands_keeps (fun d x _ => noLegWhileClosed_putDrive d x) began
  unfold noLegWhileClosed State.isCurrent at derived ⊢
  rw [mvc, oau, show (settleFrom old s).vdu.outlet.state = z.vdu.outlet.state from congrArg Drive.state (drive .outlet)]
  exact derived

theorem noWindow_settleFrom {old s : State} {v : Side} (h : noWindowUnlessClosed v s) :
    noWindowUnlessClosed v (settleFrom old s) := by
  obtain ⟨z, hz, mvc, acu, -, drive, -, -⟩ := settleFrom_blocks old s
  obtain ⟨vdu, -, acu', -, -, -, window⟩ := handOn_chosen old s
  have began : noWindowUnlessClosed v (handOn old (chooseRoles s)) := by
    unfold noWindowUnlessClosed
    rw [vdu, acu', window]
    exact h
  have derived : noWindowUnlessClosed v z := hz ▸ deriveCommands_keeps (fun d x _ => noWindowUnlessClosed_putDrive d x) began
  unfold noWindowUnlessClosed at derived ⊢
  rw [mvc, acu, drive]
  exact derived

/-! ## The accounts (R157) -/

theorem accountsKept_of_acuFrame {s t : State} (frame : t.acu = { s.acu with silentWindow := t.acu.silentWindow }) :
    accountsKept s t := by
  unfold accountsKept
  rw [frame]
  exact ⟨rfl, rfl, rfl, rfl, rfl, rfl, rfl, rfl⟩

theorem accountsKept_raiseWithEntry (k : AlarmKind) (e : EventKind) (s : State) : accountsKept s (raiseWithEntry k e s) := by
  unfold raiseWithEntry
  split
  · exact accountsKept_of_acu rfl
  · exact accountsKept_trans (accountsKept_of_acu (raise_acu k s)) (accountsKept_makeEntry e _)

theorem accountsKept_judgeLimitGuard (s : State) : accountsKept s (judgeLimitGuard s) := by
  unfold judgeLimitGuard
  split
  · exact accountsKept_raiseWithEntry _ _ _
  · exact accountsKept_of_acu rfl

theorem accountsKept_signalDrive (d : Side) (b a : DriveState) (s : State) : accountsKept s (signalDrive d b a s) := by
  unfold signalDrive
  split
  · exact accountsKept_trans (accountsKept_of_acu (raise_acu _ s)) (accountsKept_makeEntry _ _)
  · split <;> exact accountsKept_of_acu rfl

theorem accountsKept_driveMoved (d : Side) (x : Drive) (s : State) : accountsKept s (driveMoved d x s) := by
  have shut : ∀ q : State, accountsKept q (if d = .outlet ∧ (s.vdu.drive d).state = .isOpen then shutGovernor q else q) :=
    fun q => by split <;> exact accountsKept_of_acu rfl
  have last : ∀ q : State, accountsKept q (if d = .outlet ∧ x.state = .isClosed then endLanding q else q) := fun q => by
    split
    · exact accountsKept_trans (t := { q with mvc := { q.mvc with landingLeg := false } }) (accountsKept_of_acu rfl)
        (accountsKept_judgeLimitGuard _)
    · exact accountsKept_of_acu rfl
  have set_ : accountsKept s { s with vdu := s.vdu.setDrive d x } := accountsKept_of_acu rfl
  exact accountsKept_trans set_ (accountsKept_trans (shut _) (accountsKept_trans (accountsKept_signalDrive d _ _ _) (last _)))

theorem accountsKept_putDrive (d : Side) (x : Drive) (s : State) : accountsKept s (putDrive d x s) := by
  by_cases still : x.state = (s.vdu.drive d).state
  · rw [putDrive_of_still still]
    exact accountsKept_of_acu rfl
  · rw [putDrive_of_moved still]
    refine accountsKept_trans (accountsKept_driveMoved d x s) (accountsKept_of_acuFrame ?_)
    rw [judgeSilentWindow_acu, judgeLossWindow_acu]

end Sys2Proof.Machine

end

/-! The drives at their end switches and at their travel timers: the statements on both (R41 to R50). -/

section

namespace Sys2Proof.Machine

/-! ## A drive's own step at its switches (R44, R46 to R48) -/

theorem switched_of_one {w : Switches} (one : ¬ (w.openMade = true ∧ w.closedMade = true)) (t : Nat) (d : Drive) :
    d.switched t w = if d.state = .fault then
        (if w.openMade then (d.arrive .isOpen).act t else if w.closedMade then (d.arrive .isClosed).act t else d)
      else if d.inOperation then (if d.targetMade w then d.arrive (if d.state = .opening then .isOpen else .isClosed) else d)
      else d.follow t w := if_neg one

theorem switched_of_operation {w : Switches} {d : Drive} (one : ¬ (w.openMade = true ∧ w.closedMade = true))
    (runs : d.inOperation = true) (t : Nat) : d.switched t w =
      if d.targetMade w then d.arrive (if d.state = .opening then .isOpen else .isClosed) else d := by
  have sound : d.state ≠ .fault := by
    intro fault
    simp [Drive.inOperation, fault] at runs
  rw [switched_of_one one, if_neg sound, if_pos runs]

theorem switched_of_rest {w : Switches} {d : Drive} (one : ¬ (w.openMade = true ∧ w.closedMade = true))
    (sound : d.state ≠ .fault) (rests : d.inOperation = false) (t : Nat) : d.switched t w = d.follow t w := by
  rw [switched_of_one one, if_neg sound, if_neg (by simp [rests])]

theorem switched_of_fault {w : Switches} {d : Drive} (one : ¬ (w.openMade = true ∧ w.closedMade = true))
    (fault : d.state = .fault) (t : Nat) : d.switched t w =
      if w.openMade then (d.arrive .isOpen).act t else if w.closedMade then (d.arrive .isClosed).act t else d := by
  rw [switched_of_one one, if_pos fault]

theorem atRest_of_end {d : Drive} (ends : d.state = .isOpen ∨ d.state = .isClosed) : d.inOperation = false := by
  rcases ends with h | h <;> simp [Drive.inOperation, h]

theorem atRest_of_undriven {d : Drive} (output : d.output = .notDriven) : d.inOperation = false := by
  simp [Drive.inOperation, output]

/-- The record at its switches, line by line (R44, R47, R48). -/
theorem switched_lines (t1 : Nat) (w : Switches) (d : Drive) :
    let q := Drive.switched t1 w d
    q.command = d.command ∧
    (d.inOperation = true → d.state = .opening → w.openMade = true → w.closedMade = false →
      q = { d with state := .isOpen, output := .notDriven, travel := none, retry := 0 }) ∧
    (d.inOperation = true → d.state = .closing → w.closedMade = true → w.openMade = false →
      q = { d with state := .isClosed, output := .notDriven, travel := none, retry := 0 }) ∧
    (d.inOperation = true → d.state = .opening → w.openMade = false → q = d) ∧
    (d.inOperation = true → d.state = .closing → w.closedMade = false → q = d) ∧
    (d.state = .isOpen → w.openMade = false → d.command = .toOpen →
      q = { d with state := .opening, output := .towardOpen, travel := some t1, retry := 0 }) ∧
    (d.state = .isClosed → w.closedMade = false → d.command = .toClose →
      q = { d with state := .closing, output := .towardClosed, travel := some t1, retry := 0 }) ∧
    (d.state = .isOpen → w.openMade = false → d.command = .none →
      q = { d with state := .closing, output := .notDriven, travel := none, retry := 0 }) ∧
    (d.state = .isClosed → w.closedMade = false → d.command = .none →
      q = { d with state := .opening, output := .notDriven, travel := none, retry := 0 }) ∧
    (d.state = .opening ∨ d.state = .closing → d.output = .notDriven → d.command = .none →
      (w.openMade = true → w.closedMade = false →
        q = { d with state := .isOpen, output := .notDriven, travel := none, retry := 0 }) ∧
      (w.openMade = false → w.closedMade = true →
        q = { d with state := .isClosed, output := .notDriven, travel := none, retry := 0 }) ∧
      (w.openMade = false → w.closedMade = false → q = d)) ∧
    (d.state = .fault → w.openMade = false → w.closedMade = false → q = d) ∧
    (d.state = .fault → w.openMade = true → w.closedMade = false → d.command ≠ .toClose →
      q = { d with state := .isOpen, output := .notDriven, travel := none, retry := 0 }) ∧
    (d.state = .fault → w.openMade = false → w.closedMade = true → d.command ≠ .toOpen →
      q = { d with state := .isClosed, output := .notDriven, travel := none, retry := 0 }) ∧
    (d.state = .fault → w.openMade = true → w.closedMade = false → d.command = .toClose →
      q = { state := .closing, command := .toClose, output := .towardClosed, travel := some t1, retry := 0 }) ∧
    (d.state = .fault → w.openMade = false → w.closedMade = true → d.command = .toOpen →
      q = { state := .opening, command := .toOpen, output := .towardOpen, travel := some t1, retry := 0 }) := by
  intro q
  refine ⟨switched_command t1 w d, fun runs state wide shut => ?_, fun runs state shut wide => ?_, fun runs state wide => ?_,
    fun runs state shut => ?_, fun state wide command => ?_, fun state shut command => ?_, fun state wide command => ?_,
    fun state shut command => ?_, fun state output command => ⟨fun wide shut => ?_, fun wide shut => ?_, fun wide shut => ?_⟩,
    fun fault wide shut => ?_, fun fault wide shut command => ?_, fun fault wide shut command => ?_,
    fun fault wide shut command => ?_, fun fault wide shut command => ?_⟩
  · exact (switched_of_operation (by simp [shut]) runs t1).trans (by simp [Drive.targetMade, state, wide, Drive.arrive, Drive.rest])
  · exact (switched_of_operation (by simp [wide]) runs t1).trans (by simp [Drive.targetMade, state, shut, Drive.arrive, Drive.rest])
  · exact (switched_of_operation (by simp [wide]) runs t1).trans (by simp [Drive.targetMade, state, wide])
  · exact (switched_of_operation (by simp [shut]) runs t1).trans (by simp [Drive.targetMade, state, shut])
  · exact (switched_of_rest (by simp [wide]) (by simp [state]) (atRest_of_end (.inl state)) t1).trans
      (by simp [Drive.follow, Drive.leaveOpen, Drive.driveOpen, state, wide, command])
  · exact (switched_of_rest (by simp [shut]) (by simp [state]) (atRest_of_end (.inr state)) t1).trans
      (by simp [Drive.follow, Drive.leaveClosed, Drive.driveClosed, state, shut, command])
  · exact (switched_of_rest (by simp [wide]) (by simp [state]) (atRest_of_end (.inl state)) t1).trans
      (by simp [Drive.follow, Drive.leaveOpen, Drive.rest, state, wide, command])
  · exact (switched_of_rest (by simp [shut]) (by simp [state]) (atRest_of_end (.inr state)) t1).trans
      (by simp [Drive.follow, Drive.leaveClosed, Drive.rest, state, shut, command])
  · have sound : d.state ≠ .fault := by rcases state with h | h <;> simp [h]
    refine (switched_of_rest (by simp [shut]) sound (atRest_of_undriven output) t1).trans ?_
    rcases state with h | h <;> simp [Drive.follow, Drive.arrive, Drive.rest, h, wide]
  · have sound : d.state ≠ .fault := by rcases state with h | h <;> simp [h]
    refine (switched_of_rest (by simp [wide]) sound (atRest_of_undriven output) t1).trans ?_
    rcases state with h | h <;> simp [Drive.follow, Drive.arrive, Drive.rest, h, wide, shut]
  · have sound : d.state ≠ .fault := by rcases state with h | h <;> simp [h]
    refine (switched_of_rest (by simp [wide]) sound (atRest_of_undriven output) t1).trans ?_
    rcases state with h | h <;> simp [Drive.follow, h, wide, shut]
  · exact (switched_of_fault (by simp [wide]) fault t1).trans (by simp [wide, shut])
  · refine (switched_of_fault (by simp [shut]) fault t1).trans ?_
    rw [if_pos wide]
    cases c : d.command <;> simp_all [Drive.act, Drive.arrive, Drive.rest]
  · refine (switched_of_fault (by simp [wide]) fault t1).trans ?_
    rw [if_neg (by simp [wide]), if_pos shut]
    cases c : d.command <;> simp_all [Drive.act, Drive.arrive, Drive.rest]
  · refine (switched_of_fault (by simp [shut]) fault t1).trans ?_
    rw [if_pos wide]
    simp [Drive.act, Drive.arrive, Drive.rest, Drive.driveClosed, command]
  · refine (switched_of_fault (by simp [wide]) fault t1).trans ?_
    rw [if_neg (by simp [wide]), if_pos shut]
    simp [Drive.act, Drive.arrive, Drive.rest, Drive.driveOpen, command]

/-! ## An event at one drive -/

/-- Outside RUN the commands stand at NONE (R55). -/
theorem ended_command_of_stopped {old q : State} (stopped : q.station ≠ .run) (v : Side) :
    ((finish (settleFrom old q)).vdu.drive v).command = .none := by
  have command := (settled_ended old q).command
  have station : (finish (settleFrom old q)).station ≠ .run := by
    rw [finish_station, settleFrom_station]
    exact stopped
  generalize finish (settleFrom old q) = t at *
  obtain ⟨inlet, outlet⟩ := command
  rw [if_pos (.inl station)] at inlet outlet
  cases v with
  | inlet => exact inlet
  | outlet => exact outlet

/-- A drive record replaced, settled and ended: the governor, the landing leg and the windows follow it (R50, R59, R66). -/
theorem ended_putDrive (d : Side) (x : Drive) {s q : State} (vdu : q.vdu = s.vdu) :
    let t := finish (settleFrom (putDrive d x q) (putDrive d x q))
    (s.vdu.outlet.state = .isOpen → t.vdu.outlet.state ≠ .isOpen →
      t.pgv.opening = 0 ∧ (t.vdu.governor = .released ∨ t.vdu.governor = .driven 0)) ∧
    (s.vdu.outlet.state ≠ .isClosed → t.vdu.outlet.state = .isClosed →
      t.mvc.landingLeg = false ∧ (t.isCurrent .limitGuard = true ↔ t.mvc.topLeg = true)) ∧
    (∀ v, (s.vdu.drive v).state = .isClosed → (t.vdu.drive v).state ≠ .isClosed →
      t.mvc.window = none ∧ (v = .inlet → t.acu.silentWindow = none)) := by
  obtain ⟨p, hp⟩ : ∃ p, p = putDrive d x q := ⟨_, rfl⟩
  have shut : s.vdu.outlet.state = .isOpen → shutUnlessOpen p := fun wide => by
    rw [hp]
    exact shutUnlessOpen_putDrive d x (.inl (by rw [vdu]; exact wide))
  have leg : s.vdu.outlet.state ≠ .isClosed → noLegWhileClosed p := fun off => by
    rw [hp]
    exact noLegWhileClosed_putDrive d x (.inl (by rw [vdu]; exact off))
  have window : ∀ v, (s.vdu.drive v).state = .isClosed → noWindowUnlessClosed v p := fun v closed => by
    rw [hp]
    exact noWindowUnlessClosed_putDrive d x (.inl (by rw [vdu]; exact closed))
  rw [← hp]
  clear hp
  have endShut := fun h => shut_settleFrom (old := p) (s := p) (shut h)
  have endLeg := fun h => noLeg_settleFrom (old := p) (s := p) (leg h)
  have endWindow := fun v h => noWindow_settleFrom (old := p) (s := p) (v := v) (window v h)
  generalize settleFrom p p = t at *
  intro u
  rw [show u.vdu = t.vdu from finish_vdu t, show u.pgv = t.pgv from finish_pgv t, show u.mvc = t.mvc from finish_mvc t,
    show u.acu = t.acu from finish_acu t]
  refine ⟨fun wide off => endShut wide off, fun off closed => ?_, fun v closed off => (endWindow v closed).resolve_left off⟩
  rw [State.isCurrent, show u.oau = t.oau from finish_oau t]
  exact (endLeg off).resolve_left (not_not.2 closed)

/-- Settles O31. -/
theorem driveFollowsItsSwitches : Obligations.DriveFollowsItsSwitches := by
  refine ⟨fun v e m s supply change => ?_, switched_lines⟩
  obtain ⟨q, hq⟩ : ∃ q, q = setSwitch v e m s := ⟨_, rfl⟩
  have done := exec_endSwitchChange supply change
  rw [← hq, switchChanged, settle_eq] at done
  have switches : q.ini.switches v = (s.ini.switches v).change e m := by rw [hq]; exact switches_setSwitches _ _ _
  have qVdu : q.vdu = s.vdu := by rw [hq]; rfl
  have qPlug : q.plug = s.plug := by rw [hq]; rfl
  have qIni : q.ini = s.ini.setSwitches v ((s.ini.switches v).change e m) := by rw [hq]; rfl
  have travel : q.travelMs = s.travelMs := by rw [State.travelMs, State.travelMs, State.cfg, State.cfg, qPlug]
  rw [travel, switches, qVdu] at done
  obtain ⟨x, hx⟩ : ∃ x, x = Drive.switched s.travelMs ((s.ini.switches v).change e m) (s.vdu.drive v) := ⟨_, rfl⟩
  rw [← hx] at done ⊢
  obtain ⟨shut, leg, window⟩ := ended_putDrive v x qVdu
  obtain ⟨p, hp⟩ : ∃ p, p = putDrive v x q := ⟨_, rfl⟩
  rw [← hp] at done shut leg window
  have pPlug : p.plug = s.plug := by rw [hp, putDrive_plug, qPlug]
  have own : drivenFrom s (finish (settleFrom p p)) v x := drivenFrom_ended (by rw [hp, putDrive_drive]) pPlug p
  have others : ∀ w, w ≠ v → drivenFrom s (finish (settleFrom p p)) w (s.vdu.drive w) := fun w other =>
    drivenFrom_ended (by rw [hp, putDrive_other _ _ _ _ other, qVdu]) pPlug p
  have idle : s.station ≠ .run → ((finish (settleFrom p p)).vdu.drive v).command = .none := fun stopped =>
    ended_command_of_stopped (by rw [hp, putDrive_station, hq]; exact stopped) v
  have accounts : accountsKept s (finish (settleFrom p p)) := by
    refine accountsKept_ended ?_ p
    rw [hp]
    exact accountsKept_trans (accountsKept_of_acu (by rw [hq]; rfl)) (accountsKept_putDrive v x q)
  have frame : dutyFrame p (finish (settleFrom p p)) := dutyFrame_ended rfl p
  have pIni : p.ini = q.ini := by rw [hp, putDrive_ini]
  have pFrame : p = { q with vdu := p.vdu, mvc := p.mvc, yli := p.yli, pgv := p.pgv, acu := p.acu, oau := p.oau } := by
    rw [hp]
    apply State.eq_of_fields <;> simp
  clear hp
  generalize finish (settleFrom p p) = t at *
  obtain ⟨⟨f1, f2, f3, f4, f5, f6⟩, f7, f8, f9, f10, f11, f12⟩ := (dutyFrame_iff p t).1 frame
  refine ⟨t, done, f9.trans (pIni.trans qIni), own, others, fun stopped _ => idle stopped, fun _ => shut, fun _ => leg, window v, ?_,
    accounts⟩
  rw [pFrame, hq] at f1 f2 f3 f4 f5 f6 f7 f8 f10 f11 f12
  apply State.eq_of_fields <;> first | rfl | assumption

/-! ## The travel timer (R45, R49, R124) -/

theorem exec_travel {s : State} {v : Side} (supply : s.supply = true) (runs : (s.vdu.drive v).inOperation = true) :
    exec (.travelTimerExpiry v) s =
      .next (finish (settle (putDrive v (Drive.expire s.travelMs (s.vdu.drive v)) s))) := by
  show Host.Outcome.next _ = _
  rw [powered_of_supply supply, travelExpired, if_pos runs]

theorem not_fault_of_operation {d : Drive} (runs : d.inOperation = true) : d.state ≠ .fault := by
  intro fault
  simp [Drive.inOperation, fault] at runs

/-- A drive that enters FAULT makes its entry (R49, R157). -/
theorem entered_putDrive_of_fault {d : Side} {x : Drive} {s : State} (working : s.working = true)
    (before : (s.vdu.drive d).state ≠ .fault) (after : x.state = .fault) :
    entered s (putDrive d x s) { kind := .valveFault, minute := s.ini.minute } := by
  have moves : x.state ≠ (s.vdu.drive d).state := fun same => before (same.symm.trans after)
  have notClosed : ¬ (d = .outlet ∧ x.state = .isClosed) := fun h => by simp [after] at h
  obtain ⟨z, hz, zAcu, zIni, zWorking⟩ : ∃ z : State,
      driveMoved d x s = makeEntry .valveFault (raise (valveFaultKind d) z) ∧ z.acu = s.acu ∧ z.ini = s.ini ∧
        z.working = true := by
    refine ⟨if d = .outlet ∧ (s.vdu.drive d).state = .isOpen then shutGovernor { s with vdu := s.vdu.setDrive d x }
      else { s with vdu := s.vdu.setDrive d x }, ?_, ?_, ?_, ?_⟩
    · unfold driveMoved
      dsimp only
      rw [if_neg notClosed, signalDrive, if_pos ⟨after, before⟩]
    · split <;> rfl
    · split <;> rfl
    · split <;> exact working
  have entry := entered_of_raise zWorking (valveFaultKind d) .valveFault
  rw [putDrive_of_moved moves, hz]
  unfold entered at *
  rw [judgeSilentWindow_acu, judgeLossWindow_acu]
  rwa [zAcu, zIni] at entry

/-- Settles O32. -/
theorem travelExpiryRetriesThenFails : Obligations.TravelExpiryRetriesThenFails := by
  intro v s supply runs
  have sound := not_fault_of_operation runs
  have done := exec_travel supply runs
  rw [settle_eq] at done
  obtain ⟨x, hx⟩ : ∃ x, x = Drive.expire s.travelMs (s.vdu.drive v) := ⟨_, rfl⟩
  have again : (s.vdu.drive v).retry < 2 →
      x = { s.vdu.drive v with retry := (s.vdu.drive v).retry + 1, travel := some s.travelMs } := fun few => by
    rw [hx, Drive.expire, if_pos runs, if_pos few]
  have failed : 2 ≤ (s.vdu.drive v).retry → x = (s.vdu.drive v).fail := fun many => by
    rw [hx, Drive.expire, if_pos runs, if_neg (by omega)]
  rw [← hx] at done
  obtain ⟨p, hp⟩ : ∃ p, p = putDrive v x s := ⟨_, rfl⟩
  rw [← hp] at done
  have drive : p.vdu.drive v = x := by rw [hp, putDrive_drive]
  have endDrive : drivenFrom s (finish (settleFrom p p)) v x :=
    drivenFrom_ended drive (by rw [hp, putDrive_plug]) p
  have endFault : ((finish (settleFrom p p)).vdu.drive v).state = .fault ↔ x.state = .fault := by
    rw [finish_vdu, settleFrom_fault, drive]
  have oau : (finish (settleFrom p p)).oau = p.oau := by rw [finish_oau, settleFrom_oau]
  have frame : dutyFrame s (finish (settleFrom p p)) := by
    refine dutyFrame_ended ?_ p
    rw [dutyFrame_iff, hp]
    simp
  have accounts : accountsKept s (finish (settleFrom p p)) :=
    accountsKept_ended (by rw [hp]; exact accountsKept_putDrive v x s) p
  have faultEnd : x.state = .fault → (∃ k, (settleFrom p p).vdu.drive v = { x with command := k }) ∧
      (v = .inlet → (finish (settleFrom p p)).holdsTake = false) ∧
      (v = .outlet → (finish (settleFrom p p)).holdsGive = false) := fun fault => by
    have pFault : (p.vdu.drive v).state = .fault := by rw [drive, fault]
    have stands := settle_of_fault pFault
    rw [drive, settle_eq] at stands
    refine ⟨stands, fun inlet => ?_, fun outlet => ?_⟩
    · subst inlet
      have left := settle_holdsTake_of_fault pFault
      rw [settle_eq] at left
      rw [State.holdsTake, finish_ysu]
      exact left
    · subst outlet
      have left := settle_holdsGive_of_fault pFault
      rw [settle_eq] at left
      rw [State.holdsGive, finish_ysu]
      exact left
  have entry : s.working = true → x.state = .fault →
      entered s (finish (settleFrom p p)) { kind := .valveFault, minute := s.ini.minute } := fun working fault =>
    entered_ended (by rw [hp]; exact entered_putDrive_of_fault working sound fault) p
  have vdu : (finish (settleFrom p p)).vdu = (settleFrom p p).vdu := finish_vdu _
  refine ⟨_, done, fun few => ?_, fun many => ?_, fun few => ?_, frame, accounts⟩
  · have state : x.state = (s.vdu.drive v).state := by rw [again few]
    refine ⟨fun fault => sound (state.symm.trans (endFault.1 fault)), ?_⟩
    rw [oau, hp, putDrive_of_still state]
  · have fault : x.state = .fault := by rw [failed many]; rfl
    obtain ⟨⟨k, stands⟩, take, give⟩ := faultEnd fault
    have raised : p.oau = (raise (valveFaultKind v) s).oau := by rw [hp]; exact putDrive_oau_of_fault sound fault
    refine ⟨endFault.2 fault, ?_, ?_, ?_, ?_, take, give, fun working => entry working fault⟩
    · rw [vdu, stands, failed many]; rfl
    · rw [vdu, stands, failed many]; rfl
    · rw [vdu, stands, failed many]; rfl
    · rw [State.isCurrent, oau, raised]
      simpa [State.isCurrent] using isCurrent_raise (valveFaultKind v) (valveFaultKind v) s
  · rw [← again few]
    exact endDrive

end Sys2Proof.Machine

end

/-! A hold timer that expires (R21, R30), and a write that fails (R180, R184). -/

section

namespace Sys2Proof.Machine

/-! ## A hold timer (R21, R23, R24, R30, R66, R158) -/

/-- The record of a HELD input whose hold timer has run out (R30). -/
def heldOut (i : InputId) (s : State) : State := { s with ini := s.ini.setInput i (s.ini.input i).expire }

theorem exec_holdTimer {s : State} {i : InputId} (supply : s.supply = true) (runs : (s.ini.input i).hold.isSome = true) :
    exec (.holdTimerExpiry i) s = .next (finish (inputReaders i (heldOut i s))) := by
  show Host.Outcome.next _ = _
  rw [powered_of_supply supply, holdExpired, if_pos runs]
  rfl

theorem expire_of_held {r : InputRecord} (held : r.status = .held) (runs : r.hold.isSome = true) :
    r.expire = { r with status := .invalid, hold := none } := by
  rw [InputRecord.expire, if_pos (by simp [held, runs])]

theorem gradeNow_of_invalidCrown {s : State} (invalid : s.ini.crown.status = .invalid) : gradeNow s = .invalid := by
  have taken : s.ini.crown.statusTaken = .invalid := by
    unfold InputRecord.statusTaken
    rw [invalid]
  rw [gradeNow, taken]
  rfl

/-- On a stock that is not trusted neither window runs. -/
def noWindows (s : State) : Prop :=
  s.srk.record.status.trusted = false ∧ s.mvc.window = none ∧ s.acu.silentWindow = none

theorem noWindows_judged {s : State} (doubted : s.srk.record.status.trusted = false) :
    noWindows (judgeSilentWindow (judgeLossWindow s)) := by
  have loss : (judgeLossWindow s).mvc.window = none := by
    rw [judgeLossWindow, if_neg (by simp [State.lossWindowHolds, doubted])]
  have silent : ∀ q : State, q.srk.record.status.trusted = false → (judgeSilentWindow q).acu.silentWindow = none := fun q h => by
    rw [judgeSilentWindow, if_neg (by simp [State.silentWindowHolds, h])]
  have srk : (judgeLossWindow s).srk = s.srk := judgeLossWindow_srk s
  refine ⟨by rw [judgeSilentWindow_srk, srk]; exact doubted, by rw [judgeSilentWindow_mvc]; exact loss, silent _ ?_⟩
  rw [srk]
  exact doubted

theorem noWindows_putDrive {s : State} (d : Side) (x : Drive) (h : noWindows s) : noWindows (putDrive d x s) := by
  by_cases still : x.state = (s.vdu.drive d).state
  · rw [putDrive_of_still still]
    exact h
  · have srk : (putDrive d x s).srk = s.srk := putDrive_srk d x s
    rw [putDrive_of_moved still] at srk ⊢
    refine noWindows_judged ?_
    rw [judgeSilentWindow_srk, judgeLossWindow_srk] at srk
    rw [srk]
    exact h.1

theorem noWindows_settleFrom {old s : State} (h : noWindows s) : noWindows (settleFrom old s) := by
  obtain ⟨z, hz, mvc, acu, -, -, -, -⟩ := settleFrom_blocks old s
  obtain ⟨-, -, acu', -, -, -, window⟩ := handOn_chosen old s
  have srk : (handOn old (chooseRoles s)).srk = s.srk := by simp
  have began : noWindows (handOn old (chooseRoles s)) := by
    unfold noWindows
    rw [srk, window, acu']
    exact h
  have derived : noWindows z := hz ▸ deriveCommands_keeps (fun d x _ => noWindows_putDrive d x) began
  have zSrk : z.srk = s.srk := by rw [hz, deriveCommands_srk, srk]
  unfold noWindows at derived ⊢
  rw [mvc, acu, settleFrom_srk, ← zSrk]
  exact derived

/-- TAKE is left on an INVALID stock (R124). -/
theorem holdsTake_of_invalid {old s : State} (invalid : s.srk.record.status = .invalid) :
    (finish (settleFrom old s)).holdsTake = false := by
  have settled := settled_ended old s
  have srk : (finish (settleFrom old s)).srk.record.status = .invalid := by rw [finish_srk, settleFrom_srk, invalid]
  generalize finish (settleFrom old s) = t at *
  obtain ⟨-, take, -⟩ := settled.role fun _ => by rw [srk]; decide
  rw [Bool.eq_false_iff]
  intro held
  exact (take held).2.2.2.2 srk

/-- What the re-grade to INVALID of a crown height leaves: the stock INVALID, its figures unchanged; where it was not INVALID
before, the kind, the entry and no window (R21, R23, R24, R66, R158). -/
theorem regrade_of_invalidCrown {s q : State} (same : q = heldOut .crown s) (working : s.working = true)
    (graded : s.srk.graded = true) (invalid : q.ini.crown.status = .invalid) :
    (regrade q).srk = { s.srk with record := { s.srk.record with status := .invalid } } ∧
    (s.srk.record.status ≠ .invalid → (regrade q).isCurrent .stockInvalid = true ∧ noWindows (regrade q) ∧
      (alarmLaw s → (regrade q).isLatched .stockInvalid = true) ∧
      (s.acu.period.entries.length < 8 →
        { kind := .stockInvalid, minute := s.ini.minute } ∈ (regrade q).acu.period.entries)) := by
  have srk : q.srk = s.srk := by rw [same]; rfl
  have oau : q.oau = s.oau := by rw [same]; rfl
  have acu : q.acu = s.acu := by rw [same]; rfl
  have minute : q.ini.minute = s.ini.minute := by rw [same]; rfl
  have workingQ : q.working = true := by rw [same]; exact working
  have grade : gradeNow q = .invalid := gradeNow_of_invalidCrown invalid
  clear same
  refine ⟨?_, fun change => ?_⟩
  · have status := regrade_status (s := q) workingQ (by rw [srk]; exact graded)
    rw [regrade_srk, status, grade, srk]
  · have changed : gradeNow q ≠ q.srk.record.status := by rw [grade, srk]; exact change.symm
    have whole := regrade_of_change workingQ (by rw [srk]; exact graded) changed
    rw [grade] at whole
    obtain ⟨z, hz⟩ : ∃ z, z = gradedAs .invalid q := ⟨_, rfl⟩
    have zOau : z.oau = s.oau := by rw [hz]; exact oau
    have signalled : signalGrade .invalid z = makeEntry .stockInvalid (raise .stockInvalid z) := rfl
    have doubted : (signalGrade .invalid z).srk.record.status.trusted = false := by rw [signalled, hz]; simp [gradedAs]; rfl
    rw [whole, ← hz]
    refine ⟨?_, noWindows_judged doubted, fun law => ?_, fun room => ?_⟩
    · rw [State.isCurrent, judgeSilentWindow_oau, judgeLossWindow_oau]
      exact (isCurrent_signalGrade .invalid z).2 rfl
    · rw [State.isLatched, judgeSilentWindow_oau, judgeLossWindow_oau, signalled, makeEntry_oau]
      refine isLatched_raise fun current => ?_
      unfold State.isCurrent State.isLatched at *
      rw [zOau] at current ⊢
      exact isLatched_of_isCurrent law current
    · rw [judgeSilentWindow_list, judgeLossWindow_acu, ← minute]
      have within : z.acu.period.entries.length < 8 := by rw [hz]; simpa [gradedAs, acu] using room
      have stands := (mem_signalGrade (s := z) (by rw [hz]; exact workingQ) within).1
      have zMinute : z.ini.minute = q.ini.minute := by rw [hz]; rfl
      rwa [zMinute] at stands

/-- Settles O21. -/
theorem holdExpiryMakesInvalid : Obligations.HoldExpiryMakesInvalid := by
  intro i s supply held runs
  obtain ⟨q, hq⟩ : ∃ q, q = heldOut i s := ⟨_, rfl⟩
  have done := exec_holdTimer supply runs
  rw [← hq] at done
  have input : q.ini.input i = { s.ini.input i with status := .invalid, hold := none } := by
    rw [hq, heldOut, input_setInput, expire_of_held held runs]
  have others : ∀ j, j ≠ i → q.ini.input j = s.ini.input j := fun j other => by
    rw [hq]
    exact input_setInput_other _ _ _ _ other
  have ini : (finish (inputReaders i q)).ini = q.ini := by rw [finish_ini, inputReaders_ini]
  have rest : (finish (inputReaders i q)).rst = s.rst ∧ (finish (inputReaders i q)).station = s.station ∧
      (finish (inputReaders i q)).acu.list = s.acu.list := by
    rw [finish_rst, inputReaders_rst, finish_station, inputReaders_station, finish_acu, inputReaders_list, hq]
    exact ⟨rfl, rfl, rfl⟩
  refine ⟨_, done, by rw [ini, input], by rw [ini, input], by rw [ini, input], by rw [ini, input],
    fun j other => by rw [ini, others j other], fun crown working graded => ?_, fun other => ?_, rest⟩
  · subst crown
    have invalid : q.ini.crown.status = .invalid := congrArg InputRecord.status input
    obtain ⟨srk, signalled⟩ := regrade_of_invalidCrown hq working graded invalid
    have reads : inputReaders .crown q = settleFrom (regrade q) (regrade q) := rfl
    rw [reads]
    generalize regrade q = w at *
    refine ⟨by rw [finish_srk, settleFrom_srk, srk], holdsTake_of_invalid (by rw [srk]), fun change => ?_⟩
    obtain ⟨current, windows, latched, entry⟩ := signalled change
    obtain ⟨-, loss, silent⟩ := noWindows_settleFrom (old := w) windows
    refine ⟨by rw [isCurrent_ended, current], by rw [finish_mvc, loss], by rw [finish_acu, silent], fun law => ?_, fun room => ?_⟩
    · rw [State.isLatched, finish_oau, settleFrom_oau]
      exact latched law
    · rw [finish_acu, settleFrom_acu]
      exact entry room
  · rw [finish_srk, inputReaders_srk other, hq]
    rfl

/-! ## A failed write (R135, R180, R184) -/

/-- The write done, its half holding something else. -/
def writeSpoilt (w : StoreWrite) (now : Option StoreHalf) (s : State) : State :=
  { s with rst := { s.rst.setHalf w.half now with writing := none } }

theorem exec_writeFailed {s : State} {w : StoreWrite} (supply : s.supply = true) (writing : s.rst.writing = some w)
    (noRestart : s.rst.restartDue = false) (now : Option StoreHalf) (r : StartReadings) :
    exec (.retainedWriteComplete (.differs now) r) s = .next (finish (enterFault (writeSpoilt w now s))) := by
  show Host.Outcome.next _ = _
  rw [powered_of_supply supply]
  unfold writeDone
  rw [writing]
  dsimp only
  rw [if_neg (by simp [noRestart])]
  rfl

/-- FAULT's station ends its event as it entered it: its line is empty, and no REPORT is due. -/
theorem finish_enterFault (s : State) : finish (enterFault s) = enterFault s := by
  have yli := enterFault_yli s
  obtain ⟨queue, -, -, -, -, rests, -⟩ := emptied_frame s.yli
  refine finish_of_emptied ?_ ?_ ?_ <;> rw [yli]
  · exact queue
  · exact rests

/-- The blocks at the entry to FAULT, before the commands go to NONE. -/
def faultBegun (s : State) : State := cease .alone (cease .numberClash (faultBlocks s))

theorem faultEntered_eq (s : State) : faultEntered s = releaseGovernor (deriveCommands (faultBegun s)) := rfl

theorem enterFault_drive (v : Side) (s : State) : (enterFault s).vdu.drive v = (deriveCommands (faultBegun s)).vdu.drive v := by
  rw [enterFault_eq, raise_vdu, faultEntered_eq]
  cases v <;> rfl

/-- In FAULT each drive has taken NONE from the record it had (R43, R180). -/
theorem drivenFrom_enterFault {s q : State} (vdu : q.vdu = s.vdu) (plug : q.plug = s.plug) (v : Side) :
    drivenFrom s (enterFault q) v (s.vdu.drive v) := by
  have taken := deriveCommands_drive v (faultBegun q)
  have from_ : (faultBegun q).vdu.drive v = s.vdu.drive v := by rw [← vdu]; rfl
  have travel : (faultBegun q).travelMs = s.travelMs := by
    rw [State.travelMs, State.travelMs, State.cfg, State.cfg, ← plug]
    rfl
  rw [← enterFault_drive, from_, travel] at taken
  exact taken

theorem enterFault_pgv (s : State) : (enterFault s).pgv.mode = .released ∧ (enterFault s).pgv.opening = 0 ∧
    (enterFault s).pgv.step = none ∧ (enterFault s).vdu.governor = .released := by
  rw [enterFault_eq, raise_pgv, raise_vdu]
  exact ⟨rfl, rfl, rfl, rfl⟩

theorem accountsKept_enterFault (s : State) : accountsKept s (enterFault s) := by
  have began : accountsKept s (faultBegun s) := ⟨rfl, rfl, rfl, rfl, rfl, rfl, rfl, rfl⟩
  have derived : accountsKept s (deriveCommands (faultBegun s)) :=
    deriveCommands_keeps (P := accountsKept s) (fun d x q h => accountsKept_trans h (accountsKept_putDrive d x q)) began
  have acu : (enterFault s).acu = (deriveCommands (faultBegun s)).acu := by
    rw [enterFault_eq, raise_acu, faultEntered_eq]
    rfl
  unfold accountsKept at derived ⊢
  rw [acu]
  exact derived

theorem enterFault_rst (s : State) :
    (enterFault s).rst = { s.rst with writing := none, again := false, restartDue := false } := by
  rw [enterFault_eq, raise_rst, faultEntered, releaseGovernor_rst, deriveCommands_rst]
  rfl

/-- CONFIG FAULT is latched at the entry to FAULT (R177, R180). -/
theorem isLatched_enterFault {s : State} (law : alarmLaw s) : (enterFault s).isLatched .configFault = true := by
  have oau : (faultEntered s).oau = (faultBegun s).oau := by
    rw [faultEntered_eq, releaseGovernor_oau, deriveCommands_oau]
  rw [enterFault_eq]
  refine isLatched_raise fun current => ?_
  rw [State.isCurrent, oau] at current
  rw [State.isLatched, oau]
  show s.isLatched .configFault = true
  refine isLatched_of_isCurrent law ?_
  have ceased : (faultBegun s).isCurrent .configFault = (cease .alone (cease .numberClash (cease .txBlocked s))).isCurrent
      .configFault := rfl
  rw [← State.isCurrent, ceased, isCurrent_cease, isCurrent_cease, isCurrent_cease] at current
  simpa using current

theorem contactClosed_of_latched {s : State} {k : AlarmKind} (latched : s.isLatched k = true) : s.contactClosed = true := by
  unfold State.contactClosed
  rw [bne_iff_ne]
  intro none_
  rw [State.isLatched, none_] at latched
  simp [hasAlarm] at latched

/-- Settles O12. -/
theorem failedWriteEntersFault : Obligations.FailedWriteEntersFault := by
  intro r s w now supply writing noRestart law
  obtain ⟨q, hq⟩ : ∃ q, q = writeSpoilt w now s := ⟨_, rfl⟩
  have done := exec_writeFailed supply writing noRestart now r
  rw [← hq, finish_enterFault] at done
  have same : q.ysu = s.ysu ∧ q.yli = s.yli ∧ q.srk = s.srk ∧ q.ini = s.ini ∧ q.oau = s.oau ∧ q.acu = s.acu ∧ q.vdu = s.vdu ∧
      q.plug = s.plug := by
    rw [hq]
    exact ⟨rfl, rfl, rfl, rfl, rfl, rfl, rfl, rfl⟩
  obtain ⟨qYsu, qYli, qSrk, qIni, qOau, qAcu, qVdu, qPlug⟩ := same
  have qRst : q.rst = { s.rst.setHalf w.half now with writing := none } := by rw [hq]; rfl
  have current := fun k => isCurrent_enterFault k q
  have latched := isLatched_enterFault (s := q) (by unfold alarmLaw; rw [qOau]; exact law)
  have drives := drivenFrom_enterFault qVdu qPlug
  have command := fun v => enterFault_command v q
  obtain ⟨mode, opening, step, governor⟩ := enterFault_pgv q
  have ysu := enterFault_ysu q
  have yli := enterFault_yli q
  have srk := enterFault_srk q
  have rst := enterFault_rst q
  have accounts := accountsKept_trans (accountsKept_of_acu qAcu) (accountsKept_enterFault q)
  have ini := enterFault_ini q
  have station := enterFault_station q
  rw [qYsu] at ysu
  rw [qYli] at yli
  rw [qSrk] at srk
  rw [qRst] at rst
  rw [qIni] at ini
  clear hq
  generalize enterFault q = t at *
  have inlet : t.vdu.inlet.command = .none := command .inlet
  have outlet : t.vdu.outlet.command = .none := command .outlet
  refine ⟨t, done, station, by simp [current], latched, contactClosed_of_latched latched, by simp [current], by simp [current],
    by simp [current], inlet, outlet, drives, governor, mode, opening, step, ?_⟩
  rw [State.holdsTake, State.holdsGive, ysu, yli, srk, rst, ini]
  refine ⟨rfl, rfl, rfl, rfl, rfl, rfl, rfl, rfl, rfl, rfl, rfl, rfl, rfl, rfl, rfl, rfl, ?_, ?_, accounts, rfl⟩
  · exact half_setHalf s.rst w.half now
  · exact half_setHalf_other s.rst w.half w.half.other now (by cases w.half <;> decide)

end Sys2Proof.Machine

end

/-! START (R180 to R186): what each of its outcomes leaves, and the statement on a good store. -/

section

namespace Sys2Proof.Machine

/-! ## Raised and latched kinds -/

theorem isLatched_raise_eq (k j : AlarmKind) (s : State) : (raise k s).isLatched j =
    if s.isCurrent k = true then s.isLatched j else (s.isLatched j || decide (j = k)) := by
  unfold raise
  split
  · rfl
  · rw [isLatched_latch]
    rfl

/-- Both end switches of a drive are made. -/
def Switches.bothMade (w : Switches) : Prop := w.openMade = true ∧ w.closedMade = true

theorem startState_fault_iff (w : Switches) : w.startState = .fault ↔ w.bothMade := by
  obtain ⟨o, c⟩ := w
  cases o <;> cases c <;> simp [Switches.startState, Switches.bothMade]

/-- The kinds that a start finds: the VALVE FAULT of a drive with both switches made (R42, R176). -/
def foundKind (n : Ini) (k : AlarmKind) : Prop :=
  (k = .inletValveFault ∧ n.inletSwitches.bothMade) ∨ (k = .outletValveFault ∧ n.outletSwitches.bothMade)

theorem raiseDriveFault_alarms {d : Side} {s : State} (free : s.isCurrent (valveFaultKind d) = false) (k : AlarmKind) :
    ((raiseDriveFault d s).isCurrent k = true ↔
      s.isCurrent k = true ∨ (k = valveFaultKind d ∧ (s.vdu.drive d).state = .fault)) ∧
    ((raiseDriveFault d s).isLatched k = true ↔
      s.isLatched k = true ∨ (k = valveFaultKind d ∧ (s.vdu.drive d).state = .fault)) := by
  unfold raiseDriveFault
  split
  · next fault =>
    rw [isCurrent_raise, isLatched_raise_eq, if_neg (by simp [free])]
    simp [fault]
  · next sound => simp [sound]

/-- Before its steps a start holds the kinds it finds, current and latched, and no other (R176, R179). -/
theorem startBlocks_alarms (k : StartKind) (s : State) (j : AlarmKind) :
    ((startBlocks k s).isCurrent j = true ↔ foundKind s.ini j) ∧ ((startBlocks k s).isLatched j = true ↔ foundKind s.ini j) := by
  have none_ : ∀ i, (blocksAtStart k s).isCurrent i = false ∧ (blocksAtStart k s).isLatched i = false := fun i => by
    simp [State.isCurrent, State.isLatched, blocksAtStart, Oau.initial, hasAlarm]
  have inlet := raiseDriveFault_alarms (d := .inlet) (none_ _).1
  have free : (raiseDriveFault .inlet (blocksAtStart k s)).isCurrent (valveFaultKind .outlet) = false := by
    rw [Bool.eq_false_iff]
    intro current
    rcases (inlet _).1.1 current with h | ⟨h, -⟩
    · simp [none_] at h
    · simp [valveFaultKind] at h
  have outlet := raiseDriveFault_alarms free j
  have vdu : (raiseDriveFault .inlet (blocksAtStart k s)).vdu = (blocksAtStart k s).vdu := by
    rw [raiseDriveFault_frame (starting_blocksAtStart k s).working]
  have inletState : ((blocksAtStart k s).vdu.drive .inlet).state = .fault ↔ s.ini.inletSwitches.bothMade :=
    startState_fault_iff _
  have outletState : ((blocksAtStart k s).vdu.drive .outlet).state = .fault ↔ s.ini.outletSwitches.bothMade :=
    startState_fault_iff _
  rw [vdu, (inlet j).1, (inlet j).2, (none_ j).1, (none_ j).2, inletState, outletState] at outlet
  simp only [startBlocks, outlet.1, outlet.2, foundKind, valveFaultKind]
  simp

theorem alarmLaw_startBlocks (k : StartKind) (s : State) : alarmLaw (startBlocks k s) := by
  have raised : ∀ (d : Side) (q : State), alarmLaw q → alarmLaw (raiseDriveFault d q) := fun d q law => by
    unfold raiseDriveFault
    split
    · exact alarmLaw_raise _ law
    · exact law
  exact raised _ _ (raised _ _ (by show (0#16 : Word) &&& ~~~ 0#16 = 0#16; decide))

/-! ## START's steps (R181 to R185) -/

/-- START's state with the number read (R181). -/
def numbered (k : StartKind) (r : StartReadings) (s : State) : State :=
  { blocksAtStart k s with oau := (startBlocks k s).oau, number := r.straps }

/-- START's state with the plug read (R182). -/
def plugged (k : StartKind) (r : StartReadings) (s : State) : State :=
  { numbered k r s with plugSum := plugCheckWord r.plug, plug := plugTaken r.plug }

theorem start_eq (k : StartKind) (r : StartReadings) (s : State) : start k r s =
    if (!(numbered k r s).numberValid) = true then enterFault (numbered k r s)
    else if (plugTaken r.plug).isNone = true then enterFault (plugged k r s)
    else if (!lineTestPasses r.straps r.loop) = true then enterFault (plugged k r s)
    else storeCheck r.clearing (plugged k r s) := by
  have frame := startBlocks_frame k s
  show startSteps r (startBlocks k s) = _
  unfold startSteps
  dsimp only
  rw [frame]
  rfl

theorem numberValid_numbered {k : StartKind} {r : StartReadings} {s : State} :
    (numbered k r s).numberValid = true ↔ 1 ≤ r.straps ∧ r.straps ≤ 16 := by
  exact decide_eq_true_iff

theorem start_of_badNumber (k : StartKind) {r : StartReadings} (s : State) (bad : r.straps = 0 ∨ 16 < r.straps) :
    start k r s = enterFault (numbered k r s) := by
  have invalid : (numbered k r s).numberValid = false := by
    rw [Bool.eq_false_iff, Ne, numberValid_numbered]
    omega
  rw [start_eq, if_pos (by simp [invalid])]

theorem start_of_badPlug (k : StartKind) {r : StartReadings} (s : State) (low : 1 ≤ r.straps) (high : r.straps ≤ 16)
    (bad : plugTaken r.plug = none ∨ lineTestPasses r.straps r.loop = false) :
    start k r s = enterFault (plugged k r s) := by
  have valid := (numberValid_numbered (k := k) (r := r) (s := s)).2 ⟨low, high⟩
  rw [start_eq, if_neg (by simp [valid])]
  rcases bad with absent | failed
  · rw [if_pos (by simp [absent])]
  · rw [if_pos (c := (!lineTestPasses r.straps r.loop) = true) (by simp [failed]), ite_self]

theorem start_of_steps (k : StartKind) {r : StartReadings} (s : State) {p : Settings} (low : 1 ≤ r.straps)
    (high : r.straps ≤ 16) (taken : plugTaken r.plug = some p) (line : lineTestPasses r.straps r.loop = true) :
    start k r s = storeCheck r.clearing (plugged k r s) := by
  have valid := (numberValid_numbered (k := k) (r := r) (s := s)).2 ⟨low, high⟩
  rw [start_eq, if_neg (by simp [valid]), if_neg (by simp [taken]), if_neg (by simp [line])]

/-- The store of a start is that it finds (R185). -/
theorem newestGood_plugged (k : StartKind) (r : StartReadings) (s : State) :
    (plugged k r s).rst.newestGood = s.rst.newestGood := rfl

/-- A good copy taken: its contents in their blocks, and START's steps done (R185). -/
def storeTaken (h : HalfId) (x : StoreHalf) (s : State) : State :=
  stepsFinished (takeContents x.contents { s with rst := { s.rst with newest := h } })

theorem start_of_goodStore (k : StartKind) {r : StartReadings} {s : State} {p : Settings} (low : 1 ≤ r.straps)
    (high : r.straps ≤ 16) (taken : plugTaken r.plug = some p) (line : lineTestPasses r.straps r.loop = true)
    {h : HalfId} {x : StoreHalf} (found : s.rst.newestGood = some (h, x)) :
    start k r s = storeTaken h x (plugged k r s) := by
  rw [start_of_steps k s low high taken line, storeCheck, newestGood_plugged, found]
  rfl

/-- A bad store cleared, before RETAINED LOST is latched (R171, R185). -/
def storeCleared (s : State) : State :=
  { takeContents clearedContents s with
    rst := { s.rst with a := some (StoreHalf.make clearedContents 1), newest := .a },
    acu := { (takeContents clearedContents s).acu with openingDue := true } }

/-- A bad store whose clearing write is not read back as written (R185; log 14). -/
def clearingFailed (now : Option StoreHalf) (s : State) : State :=
  { takeContents clearedContents s with rst := { s.rst with a := now, newest := .a } }

theorem start_of_badStore (k : StartKind) {r : StartReadings} {s : State} {p : Settings} (low : 1 ≤ r.straps)
    (high : r.straps ≤ 16) (taken : plugTaken r.plug = some p) (line : lineTestPasses r.straps r.loop = true)
    (none_ : s.rst.newestGood = none) : start k r s = match r.clearing with
      | .asWritten => stepsFinished (latch .retainedLost (storeCleared (plugged k r s)))
      | .differs now => enterFault (clearingFailed now (plugged k r s)) := by
  rw [start_of_steps k s low high taken line, storeCheck, newestGood_plugged, none_]
  unfold clearStore
  cases r.clearing <;> rfl

theorem latch_storeCleared (s : State) (stopped : s.working = false) : latch .retainedLost (storeCleared s) =
    { storeCleared s with oau := (latch .retainedLost (storeCleared s)).oau } := latch_of_stopped stopped

theorem working_plugged (k : StartKind) (r : StartReadings) (s : State) : (plugged k r s).working = false := rfl

/-! ## The newest good half (R185) -/

theorem goodHalf_iff (r : Rst) (h : HalfId) (x : StoreHalf) : r.goodHalf h = some x ↔
    r.half h = some x ∧ x.checkWord = halfCheckWord x.contents x.writeCount := by
  rw [Rst.goodHalf, Option.filter_eq_some_iff, StoreHalf.good, beq_iff_eq]

theorem goodHalf_of_bad {r : Rst} {h : HalfId} {x : StoreHalf}
    (bad : r.half h = none ∨ (r.half h = some x ∧ ¬ x.checkWord = halfCheckWord x.contents x.writeCount)) :
    r.goodHalf h = none := by
  rcases bad with absent | ⟨there, wrong⟩
  · rw [Rst.goodHalf, absent]
    rfl
  · rw [Rst.goodHalf, there]
    simp [StoreHalf.good, wrong]

theorem newestGood_both {r : Rst} {x y : StoreHalf} (a : r.goodHalf .a = some x) (b : r.goodHalf .b = some y) :
    r.newestGood = if aheadOf y.writeCount x.writeCount then some (.b, y) else some (.a, x) := by
  rw [Rst.newestGood, a, b]

theorem newestGood_a {r : Rst} {x : StoreHalf} (a : r.goodHalf .a = some x) (b : r.goodHalf .b = none) :
    r.newestGood = some (.a, x) := by
  rw [Rst.newestGood, a, b]

theorem newestGood_b {r : Rst} {y : StoreHalf} (a : r.goodHalf .a = none) (b : r.goodHalf .b = some y) :
    r.newestGood = some (.b, y) := by
  rw [Rst.newestGood, a, b]

theorem newestGood_none {r : Rst} (a : r.goodHalf .a = none) (b : r.goodHalf .b = none) : r.newestGood = none := by
  rw [Rst.newestGood, a, b]

theorem aheadOf_iff (n m : Nat) : aheadOf n m = true ↔
    1 ≤ (n % 65536 + 65536 - m % 65536) % 65536 ∧ (n % 65536 + 65536 - m % 65536) % 65536 ≤ 32767 := by
  simp [aheadOf]

/-! ## A power-on on a good store -/

theorem tearWrite_frame (s : State) : tearWrite s = { s with rst := (tearWrite s).rst } := by
  unfold tearWrite
  split <;> rfl

theorem tearWrite_ini (s : State) : (tearWrite s).ini = s.ini := by rw [tearWrite_frame]

theorem atStart_eq (w : Switches) : Drive.atStart w =
    { state := if w.openMade = true ∧ w.closedMade = true then .fault else if w.openMade = true then .isOpen
        else if w.closedMade = true then .isClosed else .closing,
      command := .none, output := .notDriven, travel := none, retry := 0 } := by
  obtain ⟨o, c⟩ := w
  cases o <;> cases c <;> rfl

theorem storeTaken_alarms (k : StartKind) (r : StartReadings) (s : State) (h : HalfId) (x : StoreHalf) (j : AlarmKind) :
    ((storeTaken h x (plugged k r s)).isCurrent j = true ↔ foundKind s.ini j) ∧
    ((storeTaken h x (plugged k r s)).isLatched j = true ↔ foundKind s.ini j) := startBlocks_alarms k s j

theorem restoredFrom_storeTaken {k : StartKind} {r : StartReadings} {s : State} {p : Settings}
    (taken : plugTaken r.plug = some p) (h : HalfId) (x : StoreHalf) :
    restoredFrom r p h x (storeTaken h x (plugged k r s)) := by
  have alarms := storeTaken_alarms k r s h x
  have lost : (storeTaken h x (plugged k r s)).isLatched .retainedLost = false := by
    rw [Bool.eq_false_iff, Ne, (alarms _).2]
    simp [foundKind]
  have config : (storeTaken h x (plugged k r s)).isCurrent .configFault = false := by
    rw [Bool.eq_false_iff, Ne, (alarms _).1]
    simp [foundKind]
  exact ⟨rfl, rfl, rfl, taken, rfl, rfl, rfl, rfl, rfl, rfl, rfl, rfl, rfl, rfl, rfl, rfl, rfl, rfl, rfl, rfl, rfl, rfl, rfl, rfl,
    rfl, lost, config⟩

theorem exec_powerOn (r : StartReadings) (s : State) : exec (.powerOn r) s = .next (start .powerOn r (tearWrite s)) := rfl

theorem blocksStarted_storeTaken (r : StartReadings) (s : State) (h : HalfId) (x : StoreHalf) :
    blocksStarted s (storeTaken h x (plugged .powerOn r (tearWrite s))) := by
  have alarms := storeTaken_alarms .powerOn r (tearWrite s) h x
  rw [tearWrite_ini] at alarms
  have ini : (storeTaken h x (plugged .powerOn r (tearWrite s))).ini = { Ini.initial false (tearWrite s).ini.button
      (tearWrite s).ini.inletSwitches (tearWrite s).ini.outletSwitches with
        minute := x.contents.minute, impulse := some Config.impulseTime } := rfl
  have vdu : (storeTaken h x (plugged .powerOn r (tearWrite s))).vdu =
      ⟨Drive.atStart (tearWrite s).ini.inletSwitches, Drive.atStart (tearWrite s).ini.outletSwitches, .released⟩ := rfl
  rw [tearWrite_ini] at ini vdu
  rw [atStart_eq, atStart_eq] at vdu
  refine ⟨rfl, rfl, vdu, rfl, rfl, ?_, rfl, rfl, rfl, fun k => (alarms k).1, fun k => (alarms k).2⟩
  rw [ini]
  rfl

/-- Settles O7. -/
theorem powerOnTakesTheGoodStore : Obligations.PowerOnTakesTheGoodStore := by
  refine ⟨fun r s p h x low high taken line found => ?_, fun r x y => ?_⟩
  · have done := exec_powerOn r s
    rw [start_of_goodStore .powerOn low high taken line found] at done
    exact ⟨_, done, rfl, restoredFrom_storeTaken taken h x, blocksStarted_storeTaken r s h x, rfl, rfl⟩
  · have goodA : r.a = some x → x.checkWord = halfCheckWord x.contents x.writeCount → r.goodHalf .a = some x :=
      fun there good => (goodHalf_iff r .a x).2 ⟨there, good⟩
    have goodB : r.b = some y → y.checkWord = halfCheckWord y.contents y.writeCount → r.goodHalf .b = some y :=
      fun there good => (goodHalf_iff r .b y).2 ⟨there, good⟩
    refine ⟨fun a b good good' low high => ?_, fun a b good good' away => ?_, fun a good bad => ?_, fun bad b good => ?_,
      fun bad bad' => ?_⟩
    · rw [newestGood_both (goodA a good) (goodB b good'), if_pos ((aheadOf_iff _ _).2 ⟨low, high⟩)]
    · rw [newestGood_both (goodA a good) (goodB b good'), if_neg]
      rw [aheadOf_iff]
      omega
    · exact newestGood_a (goodA a good) (goodHalf_of_bad (h := .b) bad)
    · exact newestGood_b (goodHalf_of_bad (h := .a) bad) (goodB b good)
    · exact newestGood_none (goodHalf_of_bad (h := .a) bad) (goodHalf_of_bad (h := .b) bad')

end Sys2Proof.Machine

end

/-! START that fails a step or finds no good half (R171, R181 to R183, R185), and the plug's tests field by field. -/

section

namespace Sys2Proof.Machine

/-! ## The plug (R182, R189) -/

theorem ascending_map_range' (f : Nat → Nat) (m : Nat) : ∀ a, ascending ((List.range' a m).map f) = true ↔
    ∀ k, a ≤ k → k + 1 < a + m → f k < f (k + 1) := by
  induction m with
  | zero => exact fun a => ⟨fun _ k low high => by omega, fun _ => rfl⟩
  | succ m ih =>
    intro a
    cases m with
    | zero => exact ⟨fun _ k low high => by omega, fun _ => rfl⟩
    | succ m =>
      have two : (List.range' a (m + 2)).map f = f a :: f (a + 1) :: (List.range' (a + 2) m).map f := rfl
      have rest : f (a + 1) :: (List.range' (a + 2) m).map f = (List.range' (a + 1) (m + 1)).map f := rfl
      rw [two, ascending, Bool.and_eq_true, decide_eq_true_iff, rest, ih]
      refine ⟨fun ⟨first, later⟩ k low high => ?_, fun all => ⟨all a le_rfl (by omega), fun k low high => ?_⟩⟩
      · by_cases same : k = a
        · rw [same]; exact first
        · exact later k (by omega) (by omega)
      · exact all k (by omega) (by omega)

theorem ascending_map_range (f : Nat → Nat) (m : Nat) :
    ascending ((List.range m).map f) = true ↔ ∀ k < m - 1, f k < f (k + 1) := by
  rw [List.range_eq_range', ascending_map_range']
  exact ⟨fun all k lt => all k (Nat.zero_le k) (by omega), fun all k _ lt => all k (by omega)⟩

theorem all_map_range {α : Type} (f : Nat → α) (test : α → Bool) (m : Nat) :
    ((List.range m).map f).all test = true ↔ ∀ k < m, test (f k) = true := by
  simp

/-- The tests of the settings, one by one (R182). -/
theorem valid_iff (p : Settings) : p.valid = true ↔
    (match p.cls with
      | .waterSealed => 1 ≤ p.lifts.length ∧ p.lifts.length ≤ 4
      | .waterless => p.lifts.length = 1) ∧
    p.lifts.all Lift.valid = true ∧ totalTravel p.lifts ≤ 65000 ∧
    (p.l0 < p.lwl ∧ p.lwl < p.uwl ∧ p.uwl < p.tg ∧ p.tg ≤ totalTravel p.lifts) ∧
    (1 ≤ p.pulseIn ∧ p.pulseIn ≤ 100 ∧ 1 ≤ p.pulseOut ∧ p.pulseOut ≤ 100) ∧
    (30 ≤ p.travelLimit ∧ p.travelLimit ≤ 240) ∧ (20 ≤ p.interval ∧ p.interval ≤ 120) ∧
    (p.takeCall ≤ 1000 ∧ p.takeRelease < p.takeCall) ∧ (10 ≤ p.stillLossLimit ∧ p.stillLossLimit ≤ 5000) ∧
    (4 ≤ p.stagnationHours ∧ p.stagnationHours ≤ 72) ∧ (-100 ≤ p.frostLevel ∧ p.frostLevel ≤ 100) ∧
    p.profile.length = 48 ∧ p.profile.all (fun x => decide (50 ≤ x ∧ x ≤ 300)) = true ∧
    (1 ≤ p.gain ∧ p.gain ≤ 64) ∧ p.lagStep ≤ 50 ∧ (1 ≤ p.boundaries.length ∧ p.boundaries.length ≤ 4) ∧
    p.boundaries.all (fun b => decide (b ≤ 1439)) = true ∧ ascending p.boundaries = true ∧
    (1 ≤ p.balanceLimit ∧ p.balanceLimit ≤ 1000) := by
  unfold Settings.valid
  cases p.cls <;> simp only [Bool.and_eq_true, decide_eq_true_eq, beq_iff_eq, and_assoc]

theorem plugLift_valid_iff (cs : List Byte) (k : Nat) : (plugLift cs k).valid = true ↔
    (1 ≤ fieldAt cs (2 + 2 * k) 2 ∧ fieldAt cs (2 + 2 * k) 2 ≤ 60000) ∧
    (1 ≤ fieldAt cs (10 + 2 * k) 2 ∧ fieldAt cs (10 + 2 * k) 2 ≤ 65000) ∧
    (fieldAt cs (18 + 4 * k) 2 ≤ fieldAt cs (20 + 4 * k) 2 ∧ fieldAt cs (20 + 4 * k) 2 ≤ 600) := by
  exact decide_eq_true_iff.trans (by simp only [plugLift, and_assoc])

section Counted

variable {cs : List Byte} (lifts : fieldAt cs 1 1 ≤ 4) (boundaries : fieldAt cs 152 1 ≤ 4)

include lifts in
theorem plugSettings_lifts : (plugSettings cs).lifts = (List.range (fieldAt cs 1 1)).map (plugLift cs) := by
  show (List.range (min (fieldAt cs 1 1) 4)).map _ = _
  rw [Nat.min_eq_left lifts]

include boundaries in
theorem plugSettings_boundaries :
    (plugSettings cs).boundaries = (List.range (fieldAt cs 152 1)).map fun i => fieldAt cs (153 + 2 * i) 2 := by
  show (List.range (min (fieldAt cs 152 1) 4)).map _ = _
  rw [Nat.min_eq_left boundaries]

include lifts in
theorem plugSettings_total : totalTravel (plugSettings cs).lifts =
    ((List.range (fieldAt cs 1 1)).map fun k => fieldAt cs (10 + 2 * k) 2).sum := by
  rw [totalTravel, plugSettings_lifts lifts, List.map_map]
  rfl

include lifts in
theorem plugSettings_class (known : fieldAt cs 0 1 = 1 ∨ fieldAt cs 0 1 = 2) :
    (match (plugSettings cs).cls with
      | .waterSealed => 1 ≤ (plugSettings cs).lifts.length ∧ (plugSettings cs).lifts.length ≤ 4
      | .waterless => (plugSettings cs).lifts.length = 1) ↔
    (fieldAt cs 0 1 = 1 ∧ 1 ≤ fieldAt cs 1 1 ∧ fieldAt cs 1 1 ≤ 4) ∨ (fieldAt cs 0 1 = 2 ∧ fieldAt cs 1 1 = 1) := by
  have length : (plugSettings cs).lifts.length = fieldAt cs 1 1 := by rw [plugSettings_lifts lifts]; simp
  rw [length]
  have cls : (plugSettings cs).cls = if fieldAt cs 0 1 = 1 then .waterSealed else .waterless := rfl
  rw [cls]
  rcases known with sealed | waterless
  · rw [if_pos sealed]
    simp [sealed]
  · rw [if_neg (by omega)]
    simp [waterless]

include lifts in
theorem plugSettings_allLifts : (plugSettings cs).lifts.all Lift.valid = true ↔
    (∀ k < fieldAt cs 1 1, 1 ≤ fieldAt cs (2 + 2 * k) 2 ∧ fieldAt cs (2 + 2 * k) 2 ≤ 60000) ∧
    (∀ k < fieldAt cs 1 1, 1 ≤ fieldAt cs (10 + 2 * k) 2 ∧ fieldAt cs (10 + 2 * k) 2 ≤ 65000) ∧
    (∀ k < fieldAt cs 1 1, fieldAt cs (18 + 4 * k) 2 ≤ fieldAt cs (20 + 4 * k) 2 ∧ fieldAt cs (20 + 4 * k) 2 ≤ 600) := by
  rw [plugSettings_lifts lifts, all_map_range]
  simp only [plugLift_valid_iff]
  exact ⟨fun all => ⟨fun k lt => (all k lt).1, fun k lt => (all k lt).2.1, fun k lt => (all k lt).2.2⟩,
    fun ⟨area, travel, band⟩ k lt => ⟨area k lt, travel k lt, band k lt⟩⟩

theorem plugSettings_profile : (plugSettings cs).profile.length = 48 ∧
    ((plugSettings cs).profile.all (fun x => decide (50 ≤ x ∧ x ≤ 300)) = true ↔
      ∀ k < 48, 50 ≤ fieldAt cs (54 + 2 * k) 2 ∧ fieldAt cs (54 + 2 * k) 2 ≤ 300) := by
  have profile : (plugSettings cs).profile = (List.range 48).map fun i => fieldAt cs (54 + 2 * i) 2 := rfl
  rw [profile, all_map_range]
  simp only [decide_eq_true_eq, List.length_map, List.length_range, true_and]

include boundaries in
theorem plugSettings_times :
    ((1 ≤ (plugSettings cs).boundaries.length ∧ (plugSettings cs).boundaries.length ≤ 4) ∧
      (plugSettings cs).boundaries.all (fun b => decide (b ≤ 1439)) = true ∧ ascending (plugSettings cs).boundaries = true) ↔
    1 ≤ fieldAt cs 152 1 ∧ fieldAt cs 152 1 ≤ 4 ∧ (∀ k < fieldAt cs 152 1, fieldAt cs (153 + 2 * k) 2 ≤ 1439) ∧
      ∀ k < fieldAt cs 152 1 - 1, fieldAt cs (153 + 2 * k) 2 < fieldAt cs (153 + 2 * (k + 1)) 2 := by
  rw [plugSettings_boundaries boundaries, all_map_range, ascending_map_range]
  simp only [decide_eq_true_eq, List.length_map, List.length_range, and_assoc]

end Counted

/-- The plug's tests are R182's, field by field. -/
theorem passes_iff (cs : List Byte) : passesR182 cs ↔
    (plugSumOf cs == fieldAt cs 163 2 && plugCountsValid cs && (plugSettings cs).valid) = true := by
  have counts : plugCountsValid cs = true ↔
      (fieldAt cs 0 1 = 1 ∨ fieldAt cs 0 1 = 2) ∧ fieldAt cs 1 1 ≤ 4 ∧ fieldAt cs 152 1 ≤ 4 := by
    simp only [plugCountsValid, Bool.and_eq_true, Bool.or_eq_true, beq_iff_eq, decide_eq_true_eq, and_assoc]
  rw [Bool.and_eq_true, Bool.and_eq_true, beq_iff_eq, counts, valid_iff]
  constructor
  · rintro ⟨sum, cls, area, travel, total, band, l0, lwl, uwl, tg, in1, in2, out1, out2, t1, t2, i1, i2, c1, c2, s1, s2, h1, h2, f1,
      f2, profile, g1, g2, lag, m1, m2, times, order, b1, b2⟩
    have lifts : fieldAt cs 1 1 ≤ 4 := by omega
    obtain ⟨length, all⟩ := plugSettings_profile (cs := cs)
    have known : fieldAt cs 0 1 = 1 ∨ fieldAt cs 0 1 = 2 := cls.imp And.left And.left
    obtain ⟨many, within, ascends⟩ := (plugSettings_times m2).2 ⟨m1, m2, times, order⟩
    refine ⟨⟨sum, known, lifts, m2⟩, (plugSettings_class lifts known).2 cls, (plugSettings_allLifts lifts).2 ⟨area, travel, band⟩,
      ?_, ⟨l0, lwl, uwl, ?_⟩, ⟨in1, in2, out1, out2⟩, ⟨t1, t2⟩, ⟨i1, i2⟩, ⟨c1, c2⟩, ⟨s1, s2⟩, ⟨h1, h2⟩, ⟨f1, f2⟩, length,
      all.2 profile, ⟨g1, g2⟩, lag, many, within, ascends, b1, b2⟩
    · rw [plugSettings_total lifts]; exact total
    · rw [plugSettings_total lifts]; exact tg
  · rintro ⟨⟨sum, known, lifts, m2⟩, cls, allLifts, total, ⟨l0, lwl, uwl, tg⟩, ⟨in1, in2, out1, out2⟩, ⟨t1, t2⟩, ⟨i1, i2⟩, ⟨c1, c2⟩,
      ⟨s1, s2⟩, ⟨h1, h2⟩, ⟨f1, f2⟩, -, profile, ⟨g1, g2⟩, lag, many, within, ascends, b1, b2⟩
    obtain ⟨area, travel, band⟩ := (plugSettings_allLifts lifts).1 allLifts
    obtain ⟨m1, -, times, order⟩ := (plugSettings_times m2).1 ⟨many, within, ascends⟩
    rw [plugSettings_total lifts] at total tg
    exact ⟨sum, (plugSettings_class lifts known).1 cls, area, travel, total, band, l0, lwl, uwl, tg, in1, in2, out1, out2, t1, t2, i1,
      i2, c1, c2, s1, s2, h1, h2, f1, f2, plugSettings_profile.2.1 profile, g1, g2, lag, m1, m2, times, order, b1, b2⟩

theorem plugRead_of_length {cs : List Byte} (length : cs.length = 165) : plugRead (some cs) = some cs := by
  simp [plugRead, Option.filter, length]

theorem plugRead_of_other {cs : List Byte} (other : cs.length ≠ 165) : plugRead (some cs) = none := by
  simp [plugRead, Option.filter, other]

theorem plug_tests (cs : List Byte) :
    (cs.length ≠ 165 → plugTaken (some cs) = none ∧ plugCheckWord (some cs) = 0) ∧
    (cs.length = 165 → plugCheckWord (some cs) = ((cs.take 163).map BitVec.toNat).sum % 65536 ∧
      (passesR182 cs → plugTaken (some cs) = some (plugSettings cs)) ∧ (¬ passesR182 cs → plugTaken (some cs) = none)) ∧
    plugTaken none = none ∧ plugCheckWord none = 0 := by
  refine ⟨fun other => ?_, fun length => ?_, rfl, rfl⟩
  · unfold plugTaken plugCheckWord
    rw [plugRead_of_other other]
    exact ⟨rfl, rfl⟩
  · unfold plugTaken plugCheckWord
    rw [plugRead_of_length length, passes_iff]
    exact ⟨rfl, fun passes => if_pos passes, fun fails => if_neg fails⟩

/-! ## The line test (R183) -/

theorem lineTestPasses_iff {n : Nat} (low : 1 ≤ n) (high : n ≤ 16) (loop : Option (List LineChar)) :
    lineTestPasses n loop = true ↔ loop.getD (testFrame n) = testFrame n := by
  have judged : loopJudgedValid (testFrame n) = true := by
    interval_cases n <;> decide +kernel
  rw [lineTestPasses, Bool.and_eq_true, beq_iff_eq]
  exact ⟨And.left, fun same => ⟨same, by rw [same]; exact judged⟩⟩

/-! ## FAULT from START -/

theorem enterFault_pins (s : State) : (enterFault s).supply = s.supply ∧ (enterFault s).number = s.number ∧
    (enterFault s).plug = s.plug ∧ (enterFault s).plugSum = s.plugSum ∧ (enterFault s).startKind = s.startKind := by
  simp [enterFault, faultBlocks, emptyLine]

theorem isLatched_enterFault_other {k : AlarmKind} (other : k ≠ .configFault) (s : State) :
    (enterFault s).isLatched k = s.isLatched k := by
  have same : (faultEntered s).isLatched k = s.isLatched k := by
    rw [State.isLatched, faultEntered_eq, releaseGovernor_oau, deriveCommands_oau]
    rfl
  rw [enterFault_eq, isLatched_raise_eq, same]
  simp [other]

theorem onLine_enterFault (s : State) : (enterFault s).onLine = s.numberValid := by
  have number := (enterFault_pins s).2.1
  simp [State.onLine, State.working, State.numberValid, enterFault_station, number]

theorem half_enterFault (s : State) (h : HalfId) : (enterFault s).rst.half h = s.rst.half h := by
  rw [enterFault_rst]
  cases h <;> rfl

theorem half_tearWrite {s : State} {h : HalfId} (whole : ∀ w ∈ s.rst.writing, w.half ≠ h) :
    (tearWrite s).rst.half h = s.rst.half h := by
  unfold tearWrite
  split
  · next w writing =>
    have other : h ≠ w.half := fun same => whole w writing same.symm
    have kept := half_setHalf_other s.rst w.half h none other
    cases h <;> exact kept
  · rfl

/-- What FAULT keeps of START's figures, on a start with a number read. -/
theorem fault_of_start {k : StartKind} {r : StartReadings} {s q : State}
    (same : q = numbered k r s ∨ q = plugged k r s) : (enterFault q).supply = true ∧ (enterFault q).number = r.straps ∧
      (enterFault q).isCurrent .configFault = true ∧ (enterFault q).isLatched .configFault = true ∧
      (enterFault q).isLatched .retainedLost = false ∧ (enterFault q).yli = .initial ∧ (enterFault q).acu.list = [] ∧
      ∀ h, (enterFault q).rst.half h = s.rst.half h := by
  have base : q.supply = true ∧ q.number = r.straps ∧ q.yli = .initial ∧ q.acu.list = [] ∧ q.oau = (startBlocks k s).oau ∧
      ∀ h, q.rst.half h = s.rst.half h := by
    rcases same with rfl | rfl <;> exact ⟨rfl, rfl, rfl, rfl, rfl, fun h => by cases h <;> rfl⟩
  obtain ⟨supply, number, yli, list, oau, halves⟩ := base
  obtain ⟨fSupply, fNumber, -⟩ := enterFault_pins q
  have law : alarmLaw q := by
    unfold alarmLaw
    rw [oau]
    exact alarmLaw_startBlocks k s
  have lost : q.isLatched .retainedLost = false := by
    rw [State.isLatched, oau, Bool.eq_false_iff]
    intro latched
    have found := (startBlocks_alarms k s .retainedLost).2.1 latched
    simp [foundKind] at found
  refine ⟨fSupply.trans supply, fNumber.trans number, ?_, isLatched_enterFault law, ?_, enterFault_yli_of_initial yli,
    (accountsKept_enterFault q).1.trans list, fun h => (half_enterFault q h).trans (halves h)⟩
  · rw [isCurrent_enterFault]
    simp
  · rw [isLatched_enterFault_other (by decide), lost]

/-! ## A bad store (R171, R185) -/

theorem clearedStore_storeCleared (k : StartKind) (r : StartReadings) (s : State) :
    clearedStore (stepsFinished (latch .retainedLost (storeCleared (plugged k r s)))) := by
  have latched : (latch .retainedLost (storeCleared (plugged k r s))).isLatched .retainedLost = true := by
    rw [isLatched_latch]
    simp
  have current : (latch .retainedLost (storeCleared (plugged k r s))).isCurrent .retainedLost = false := by
    rw [isCurrent_latch, Bool.eq_false_iff]
    intro held
    have found := (startBlocks_alarms k s .retainedLost).1.1 held
    simp [foundKind] at found
  have frame := latch_storeCleared (plugged k r s) rfl
  generalize (latch .retainedLost (storeCleared (plugged k r s))) = z at *
  obtain ⟨o, ho⟩ : ∃ o, o = z.oau := ⟨_, rfl⟩
  rw [← ho] at frame
  have latched' : (stepsFinished z).isLatched .retainedLost = true := latched
  have current' : (stepsFinished z).isCurrent .retainedLost = false := current
  refine ⟨?_, ?_, latched', current', ?_⟩
  · rw [frame]; rfl
  · rfl
  · rw [frame]
    exact ⟨rfl, rfl, rfl, rfl, rfl, rfl, rfl, rfl, rfl, rfl, rfl, rfl, rfl, rfl, rfl, rfl, rfl, rfl, rfl, rfl⟩

theorem fault_of_clearing {k : StartKind} {r : StartReadings} {s : State} (now : Option StoreHalf) :
    let t := enterFault (clearingFailed now (plugged k r s))
    t.station = .fault ∧ t.rst.a = now ∧ t.isCurrent .configFault = true ∧ t.isLatched .retainedLost = false := by
  have lost : (clearingFailed now (plugged k r s)).isLatched .retainedLost = false := by
    rw [Bool.eq_false_iff]
    intro latched
    have found := (startBlocks_alarms k s .retainedLost).2.1 latched
    simp [foundKind] at found
  refine ⟨enterFault_station _, ?_, ?_, ?_⟩
  · exact half_enterFault (clearingFailed now (plugged k r s)) .a
  · rw [isCurrent_enterFault]
    simp
  · rw [isLatched_enterFault_other (by decide), lost]

/-- Settles O6. -/
theorem powerOnOnBadStrapsOrStore : Obligations.PowerOnOnBadStrapsOrStore := by
  refine ⟨fun r s bad => ?_, plug_tests, fun n loop low high => lineTestPasses_iff low high loop, fun r s low high bad => ?_,
    fun r s p low high taken line none_ => ?_⟩
  · have done := exec_powerOn r s
    rw [start_of_badNumber .powerOn _ bad] at done
    obtain ⟨supply, number, current, latched, -, yli, -, halves⟩ :=
      fault_of_start (k := .powerOn) (r := r) (s := tearWrite s) (.inl rfl)
    obtain ⟨-, -, plug, sum, -⟩ := enterFault_pins (numbered .powerOn r (tearWrite s))
    have line := onLine_enterFault (numbered .powerOn r (tearWrite s))
    have invalid : (numbered .powerOn r (tearWrite s)).numberValid = false := by
      rw [Bool.eq_false_iff, Ne, numberValid_numbered]
      omega
    refine ⟨_, done, supply, enterFault_station _, number, plug, sum, current, latched, contactClosed_of_latched latched,
      line.trans invalid, ?_, ?_, fun h whole => (halves h).trans (half_tearWrite whole)⟩
    · rw [yli]; rfl
    · rw [yli]; rfl
  · have done := exec_powerOn r s
    rw [start_of_badPlug .powerOn _ low high bad] at done
    obtain ⟨supply, number, current, latched, lost, yli, list, halves⟩ :=
      fault_of_start (k := .powerOn) (r := r) (s := tearWrite s) (.inr rfl)
    obtain ⟨-, -, plug, sum, -⟩ := enterFault_pins (plugged .powerOn r (tearWrite s))
    have line := onLine_enterFault (plugged .powerOn r (tearWrite s))
    have valid := (numberValid_numbered (k := .powerOn) (r := r) (s := tearWrite s)).2 ⟨low, high⟩
    refine ⟨_, done, supply, enterFault_station _, number, plug, sum, current, latched, lost, contactClosed_of_latched latched,
      line.trans valid, ?_, ?_, list, fun h whole => (halves h).trans (half_tearWrite whole)⟩
    · rw [yli]; rfl
    · rw [yli]; rfl
  · have done := exec_powerOn r s
    rw [start_of_badStore .powerOn low high taken line none_] at done
    refine ⟨_, done, fun written => ?_, fun now differs => ?_⟩
    · rw [written]
      exact clearedStore_storeCleared .powerOn r (tearWrite s)
    · rw [differs]
      exact fault_of_clearing now

end Sys2Proof.Machine

end

/-! A station restart by order or by the held button, at once or after the write in progress (R40, R174, R184, R186). -/

section

namespace Sys2Proof.Machine

/-! ## What every start holds -/

/-- The figures of a restart that neither its steps nor FAULT move (R179, R186). -/
structure Restarting (r : StartReadings) (s q : State) : Prop where
  kind : q.startKind = .restart
  number : q.number = r.straps
  ini : q.ini.synced = s.ini.synced ∧ q.ini.inletCount = 0 ∧ q.ini.outletCount = 0 ∧ q.ini.keyTaken = false
  yli : q.yli = .initial
  ysu : q.ysu = .initial
  mode : q.pgv.mode = .released
  governor : q.vdu.governor = .released
  timer : q.srk.timer = none
  writing : q.rst.writing = none
  current : ∀ k, q.isCurrent k = true → k = .inletValveFault ∨ k = .outletValveFault
  latched : ∀ k, q.isLatched k = true → k = .inletValveFault ∨ k = .outletValveFault ∨ k = .retainedLost

theorem foundKind_valve {n : Ini} {k : AlarmKind} (found : foundKind n k) : k = .inletValveFault ∨ k = .outletValveFault :=
  found.imp And.left And.left

section Begun

variable (r : StartReadings) (s : State)

theorem restarting_numbered : Restarting r s (numbered .restart r s) :=
  ⟨rfl, rfl, ⟨rfl, rfl, rfl, rfl⟩, rfl, rfl, rfl, rfl, rfl, rfl,
    fun k h => foundKind_valve ((startBlocks_alarms .restart s k).1.1 h),
    fun k h => (foundKind_valve ((startBlocks_alarms .restart s k).2.1 h)).imp_right .inl⟩

theorem restarting_plugged : Restarting r s (plugged .restart r s) := by
  obtain ⟨-, -, -, -, -, -, -, -, -, current, latched⟩ := restarting_numbered r s
  exact ⟨rfl, rfl, ⟨rfl, rfl, rfl, rfl⟩, rfl, rfl, rfl, rfl, rfl, rfl, current, latched⟩

theorem restarting_clearingFailed (now : Option StoreHalf) : Restarting r s (clearingFailed now (plugged .restart r s)) := by
  obtain ⟨-, -, -, -, -, -, -, -, -, current, latched⟩ := restarting_plugged r s
  exact ⟨rfl, rfl, ⟨rfl, rfl, rfl, rfl⟩, rfl, rfl, rfl, rfl, rfl, rfl, current, latched⟩

theorem restarting_storeTaken (h : HalfId) (x : StoreHalf) : Restarting r s (storeTaken h x (plugged .restart r s)) := by
  obtain ⟨-, -, -, -, -, -, -, -, -, current, latched⟩ := restarting_plugged r s
  exact ⟨rfl, rfl, ⟨rfl, rfl, rfl, rfl⟩, rfl, rfl, rfl, rfl, rfl, rfl, current, latched⟩

theorem restarting_storeCleared :
    Restarting r s (stepsFinished (latch .retainedLost (storeCleared (plugged .restart r s)))) := by
  obtain ⟨-, -, -, -, -, -, -, -, -, current, latched⟩ := restarting_plugged r s
  have current' : ∀ k, (latch .retainedLost (storeCleared (plugged .restart r s))).isCurrent k = true →
      k = .inletValveFault ∨ k = .outletValveFault := fun k h => by
    rw [isCurrent_latch] at h
    exact current k h
  have latched' : ∀ k, (latch .retainedLost (storeCleared (plugged .restart r s))).isLatched k = true →
      k = .inletValveFault ∨ k = .outletValveFault ∨ k = .retainedLost := fun k h => by
    rw [isLatched_latch, Bool.or_eq_true, decide_eq_true_iff] at h
    exact h.elim (latched k) fun lost => .inr (.inr lost)
  have frame := latch_storeCleared (plugged .restart r s) rfl
  generalize latch .retainedLost (storeCleared (plugged .restart r s)) = z at *
  obtain ⟨o, ho⟩ : ∃ o, o = z.oau := ⟨_, rfl⟩
  rw [← ho] at frame
  have kept : Restarting r s z := by
    have ini : z.ini.synced = s.ini.synced ∧ z.ini.inletCount = 0 ∧ z.ini.outletCount = 0 ∧ z.ini.keyTaken = false := by
      rw [frame]
      exact ⟨rfl, rfl, rfl, rfl⟩
    refine ⟨?_, ?_, ini, ?_, ?_, ?_, ?_, ?_, ?_, current', latched'⟩ <;> rw [frame] <;> rfl
  obtain ⟨h1, h2, h3, h4, h5, h6, h7, h8, h9, h10, h11⟩ := kept
  exact ⟨h1, h2, h3, h4, h5, h6, h7, h8, h9, h10, h11⟩

end Begun

theorem Restarting.passed {r : StartReadings} {s q : State} (h : Restarting r s q) (station : q.station = .start) :
    restarted r s q := by
  obtain ⟨kind, number, ⟨synced, inlet, outlet, key⟩, yli, ysu, mode, governor, timer, writing, current, latched⟩ := h
  rw [restarted, State.holdsTake, State.holdsGive, yli, ysu]
  exact ⟨kind, number, .inl station, synced, inlet, outlet, key, rfl, rfl, rfl, rfl, rfl, rfl, rfl, rfl, mode, governor, timer,
    writing, fun k on => (current k on).imp_right .inl,
    fun k on => (latched k on).imp_right fun other => other.imp_right .inr⟩

theorem Restarting.failed {r : StartReadings} {s q : State} (h : Restarting r s q) : restarted r s (enterFault q) := by
  obtain ⟨kind, number, ⟨synced, inlet, outlet, key⟩, yli, ysu, mode, governor, timer, writing, current, latched⟩ := h
  obtain ⟨-, number', -, -, kind'⟩ := enterFault_pins q
  obtain ⟨mode', -, -, governor'⟩ := enterFault_pgv q
  have isCurrent := fun k => isCurrent_enterFault k q
  have isLatched := fun k other => isLatched_enterFault_other (k := k) other q
  have ysu' := enterFault_ysu q
  rw [ysu] at ysu'
  have yli' := enterFault_yli_of_initial yli
  have srk' := enterFault_srk q
  have rst' := enterFault_rst q
  have ini' := enterFault_ini q
  have station' := enterFault_station q
  generalize enterFault q = t at *
  rw [restarted, State.holdsTake, State.holdsGive, yli', ysu', srk', rst', ini']
  refine ⟨kind'.trans kind, number'.trans number, .inr station', synced, inlet, outlet, key, rfl, rfl, rfl, rfl, rfl, rfl, rfl, rfl,
    mode', governor', rfl, rfl, fun k on => ?_, fun k on => ?_⟩
  · rw [isCurrent] at on
    by_cases fault : k = .configFault
    · exact .inr (.inr fault)
    · simp only [fault, decide_false, Bool.false_or, Bool.and_eq_true] at on
      exact (current k on.1.1.1).imp_right .inl
  · by_cases fault : k = .configFault
    · exact .inr (.inr (.inl fault))
    · rw [isLatched k fault] at on
      exact (latched k on).imp_right fun other => other.imp_right .inr

/-! ## A restart, whatever its steps find (R181 to R186) -/

/-- START's steps fail before the store is read. -/
def StepsFail (r : StartReadings) : Prop :=
  r.straps = 0 ∨ 16 < r.straps ∨ plugTaken r.plug = none ∨ lineTestPasses r.straps r.loop = false

theorem start_of_fail (k : StartKind) {r : StartReadings} (s : State) (fails : StepsFail r) :
    ∃ q, (q = numbered k r s ∨ q = plugged k r s) ∧ start k r s = enterFault q := by
  by_cases bad : r.straps = 0 ∨ 16 < r.straps
  · exact ⟨_, .inl rfl, start_of_badNumber k s bad⟩
  · refine ⟨_, .inr rfl, start_of_badPlug k s (by omega) (by omega) ?_⟩
    rcases fails with h | h | h | h
    · exact absurd (.inl h) bad
    · exact absurd (.inr h) bad
    · exact .inl h
    · exact .inr h

theorem pass_of_not_fail {r : StartReadings} (passes : ¬ StepsFail r) :
    1 ≤ r.straps ∧ r.straps ≤ 16 ∧ lineTestPasses r.straps r.loop = true ∧ ∃ p, plugTaken r.plug = some p := by
  simp only [StepsFail, not_or, Bool.not_eq_false] at passes
  obtain ⟨low, high, plug, line⟩ := passes
  exact ⟨by omega, by omega, line, Option.ne_none_iff_exists'.1 plug⟩

theorem restarted_start (r : StartReadings) (s : State) : restarted r s (start .restart r s) := by
  by_cases fails : StepsFail r
  · obtain ⟨q, same, start⟩ := start_of_fail .restart s fails
    rw [start]
    rcases same with rfl | rfl
    · exact (restarting_numbered r s).failed
    · exact (restarting_plugged r s).failed
  · obtain ⟨low, high, line, p, taken⟩ := pass_of_not_fail fails
    cases found : s.rst.newestGood with
    | some c =>
      rw [start_of_goodStore .restart (h := c.1) (x := c.2) low high taken line found]
      exact (restarting_storeTaken r s c.1 c.2).passed rfl
    | none =>
      rw [start_of_badStore .restart low high taken line found]
      split
      · have cleared := clearedStore_storeCleared .restart r s
        exact (restarting_storeCleared r s).passed cleared.1
      · next now _ => exact (restarting_clearingFailed r s now).failed

/-- A restart leaves the halves of a store with a good half (R184, R185). -/
theorem half_start {k : StartKind} {r : StartReadings} {s : State} (good : s.rst.newestGood.isSome = true) (h : HalfId) :
    (start k r s).rst.half h = s.rst.half h := by
  by_cases fails : StepsFail r
  · obtain ⟨q, same, start⟩ := start_of_fail k s fails
    rw [start]
    exact (fault_of_start same).2.2.2.2.2.2.2 h
  · obtain ⟨low, high, line, p, taken⟩ := pass_of_not_fail fails
    obtain ⟨c, found⟩ := Option.isSome_iff_exists.1 good
    rw [start_of_goodStore k (h := c.1) (x := c.2) low high taken line found]
    cases h <;> rfl

theorem restartedOn_start (r : StartReadings) (s : State) : restartedOn r s.rst s (start .restart r s) := by
  refine ⟨restarted_start r s, fun low high line p taken => ⟨fun c found => ?_, fun none_ written => ?_⟩⟩
  · rw [start_of_goodStore .restart (h := c.1) (x := c.2) low high taken line found]
    exact ⟨restoredFrom_storeTaken taken c.1 c.2, rfl, rfl⟩
  · rw [start_of_badStore .restart low high taken line none_, written]
    have b := latch_storeCleared (plugged .restart r s) rfl
    refine ⟨clearedStore_storeCleared .restart r s, ?_⟩
    have kept : (latch .retainedLost (storeCleared (plugged .restart r s))).rst.b = s.rst.b := by
      rw [b]
      rfl
    exact kept

/-- The steps of a restart read neither the clock's state nor a half under writing. -/
theorem restartedOn_of_same {r : StartReadings} {store : Rst} {q s t : State} (synced : q.ini.synced = s.ini.synced)
    (a : q.rst.a = store.a) (b : q.rst.b = store.b) (h : restartedOn r q.rst q t) : restartedOn r store s t := by
  have good : q.rst.newestGood = store.newestGood := by
    simp only [Rst.newestGood, Rst.goodHalf, Rst.half, a, b]
  rw [restartedOn, restarted, good, a, b, synced] at h
  exact h

theorem finish_start (k : StartKind) (r : StartReadings) (s : State) : finish (start k r s) = start k r s := by
  have yli := start_yli k r s
  refine finish_of_emptied ?_ ?_ ?_ <;> rw [yli]
  · rfl
  · rfl
  · exact .inr rfl

/-! ## The commands -/

theorem stationRestart_of_free {s : State} (free : s.rst.writing = none) (r : StartReadings) :
    stationRestart r s = start .restart r s := if_neg (by simp [free])

/-- The restart of the held button stands its 10 s down first (R40). -/
def buttonDone (s : State) : State := { s with ini := { s.ini with buttonHold := none } }

theorem stationRestart_of_writing {s : State} {w : StoreWrite} (writing : s.rst.writing = some w) (r : StartReadings) :
    stationRestart r s = { s with rst := { s.rst with restartDue := true } } := if_pos (by simp [writing])

theorem exec_restart {s : State} (supply : s.supply = true) (onLine : s.onLine = true) (r : StartReadings) :
    exec (.restart .own r) s = .next (finish (stationRestart r s)) := by
  have taken : orderTaken s .own .restart = true := by
    simp only [State.onLine, Bool.or_eq_true, Bool.and_eq_true, orderTaken] at onLine ⊢
    rcases onLine with working | ⟨fault, -⟩
    · exact .inl working
    · exact .inr ⟨fault, .inr rfl⟩
  exact (exec_orderRow supply .own .restart r).trans (congrArg (Host.Outcome.next ∘ finish) (judgeOrder_of_taken onLine taken r))

theorem exec_buttonHeld {s : State} (supply : s.supply = true) (button : s.ini.button = true)
    (runs : s.ini.buttonHold.isSome = true) (r : StartReadings) :
    exec (.acceptButtonHeld r) s = .next (stationRestart r (buttonDone s)) := by
  show Host.Outcome.next _ = _
  rw [powered_of_supply supply, buttonHeld, if_pos ⟨button, runs⟩]
  rfl

/-- What the read-back found in the written half. -/
def halfReadBack (back : ReadBack) (w : StoreWrite) : Option StoreHalf :=
  match back with
  | .asWritten => some w.image
  | .differs now => now

theorem exec_writeDone_of_restartDue {s : State} {w : StoreWrite} (supply : s.supply = true) (writing : s.rst.writing = some w)
    (due : s.rst.restartDue = true) (back : ReadBack) (r : StartReadings) :
    exec (.retainedWriteComplete back r) s = .next (start .restart r (writeSpoilt w (halfReadBack back w) s)) := by
  have done : writeDone back r s = restartAfterWrite w (halfReadBack back w) r s := by
    unfold writeDone
    rw [writing]
    dsimp only
    cases back
    · dsimp only
      rw [if_pos due]
      rfl
    · dsimp only
      rw [if_pos due]
      rfl
  exact congrArg Host.Outcome.next ((powered_of_supply supply _).trans done)

theorem restarts_after_write {s : State} {w : StoreWrite} (supply : s.supply = true) (writing : s.rst.writing = some w)
    (due : s.rst.restartDue = true) (back : ReadBack) (r : StartReadings) :
    ∃ t, exec (.retainedWriteComplete back r) s = .next t ∧ restartedOn r (s.rst.setHalf w.half (halfReadBack back w)) s t ∧
      ((s.rst.setHalf w.half (halfReadBack back w)).newestGood.isSome = true →
        t.rst.half w.half = halfReadBack back w ∧ t.rst.half w.half.other = s.rst.half w.half.other) := by
  have halves := fun good h => half_start (k := .restart) (r := r) (s := writeSpoilt w (halfReadBack back w) s) good h
  refine ⟨_, exec_writeDone_of_restartDue supply writing due back r, ?_, fun good => ?_⟩
  · exact restartedOn_of_same (q := writeSpoilt w (halfReadBack back w) s) rfl rfl rfl (restartedOn_start r _)
  · exact ⟨(halves good w.half).trans (setHalf_half s.rst w.half (halfReadBack back w)),
      (halves good w.half.other).trans (setHalf_other s.rst w.half (halfReadBack back w))⟩

/-- Settles O8. -/
theorem restartEntersStart : Obligations.RestartEntersStart := by
  refine ⟨fun r s supply onLine free => ?_, fun r s supply button runs free => ?_, fun r s w supply onLine writing => ?_,
    fun r s w supply button runs writing => ?_, fun r s w supply writing due => ?_, fun r s w now supply writing due => ?_⟩
  · refine ⟨_, exec_restart supply onLine r, ?_⟩
    rw [stationRestart_of_free free, finish_start]
    exact restartedOn_start r s
  · refine ⟨_, exec_buttonHeld supply button runs r, ?_⟩
    rw [stationRestart_of_free (s := buttonDone s) free]
    exact restartedOn_of_same (q := buttonDone s) rfl rfl rfl (restartedOn_start r _)
  · refine ⟨_, exec_restart supply onLine r, ?_⟩
    rw [stationRestart_of_writing writing]
    obtain ⟨q, hq⟩ : ∃ q, q = { s with rst := { s.rst with restartDue := true } } := ⟨_, rfl⟩
    rw [← hq]
    have frame := finish_frame q
    rw [frame, hq]
  · exact ⟨_, exec_buttonHeld supply button runs r, stationRestart_of_writing (s := buttonDone s) writing r⟩
  · exact restarts_after_write supply writing due .asWritten r
  · exact restarts_after_write supply writing due (.differs now) r

end Sys2Proof.Machine

end

/-! Frames handed to their owners (R78, R79, R102, R173). -/

section

namespace Sys2Proof.Machine

/-! ## Line heard (R102, R103) -/

theorem withoutAlarm_of_free {w : Word} {k : AlarmKind} (free : hasAlarm w k = false) : withoutAlarm w k = w := by
  have bit : w.getLsbD k.bit = false := free
  refine BitVec.eq_of_getLsbD_eq fun i lt => ?_
  have shifted : (alarmBit k).getLsbD i = decide (i = k.bit) := by
    unfold alarmBit
    simp only [BitVec.getLsbD_shiftLeft, BitVec.getLsbD_one, lt]
    by_cases same : i = k.bit
    · simp [same]
    · simp [same]; omega
  rw [withoutAlarm, BitVec.getLsbD_and, BitVec.getLsbD_not, shifted]
  by_cases same : i = k.bit
  · rw [same, bit]; rfl
  · simp [same, lt]

theorem cease_of_free {k : AlarmKind} {s : State} (free : s.isCurrent k = false) : cease k s = s := by
  unfold cease
  rw [withoutAlarm_of_free free]

/-- The state that line heard leaves of one that is not ALONE (R77, R102). -/
def heardOn (s : State) : State :=
  { s with
    yli := { s.yli with inFrame := false }
    ysu := if s.working = true then { s.ysu with silence := some (5 * s.intervalMs) } else s.ysu }

theorem lineHeard_eq (s : State) : lineHeard (setInFrame false s) =
    if s.working = true then cease .alone (heardOn s) else heardOn s := by
  unfold heardOn
  by_cases working : s.working = true
  · rw [if_pos working, if_pos working, lineHeard_of_working (s := setInFrame false s) working]
    rfl
  · rw [if_neg working, if_neg working]
    exact if_neg working

/-- Line heard moves the alarm set only, beside what is heard. -/
theorem lineHeard_frame (s : State) :
    lineHeard (setInFrame false s) = { heardOn s with oau := (lineHeard (setInFrame false s)).oau } ∧
    (lineHeard (setInFrame false s)).oau.latched = s.oau.latched ∧
    (s.working = true → (lineHeard (setInFrame false s)).isCurrent .alone = false) := by
  rw [lineHeard_eq]
  by_cases working : s.working = true
  · rw [if_pos working]
    exact ⟨rfl, rfl, fun _ => (isCurrent_cease .alone .alone _).trans (by simp)⟩
  · rw [if_neg working]
    exact ⟨rfl, rfl, fun on => absurd on working⟩

theorem lineHeard_of_free {s : State} (free : s.isCurrent .alone = false ∨ s.working = false) :
    lineHeard (setInFrame false s) = heardOn s := by
  rw [lineHeard_eq]
  split
  · next working =>
    have notAlone : s.isCurrent .alone = false := free.resolve_right (by simp [working])
    exact cease_of_free notAlone
  · rfl

/-! ## Messages left, refused or counted (R78, R79) -/

/-- A message that none of the owners acts on: to another destination, from a foreign source, the office's own kinds, and a
station's beside the REPORT heard in LISTEN and RUN (R78, R79). -/
def LeftThere (src d : Nat) (k : MessageKind) (s : State) : Prop :=
  (d ≠ 0 ∧ d ≠ s.number) ∨ (src = 0 ∨ (17 ≤ src ∧ src ≠ 30)) ∨ (src = 30 ∧ k ≠ .order) ∨
    (1 ≤ src ∧ src ≤ 16 ∧ (k ≠ .report ∨ s.station = .fault))

/-- What such a message counts (R74, R78). -/
def countLeft (src d : Nat) (k : MessageKind) (s : State) (c : LineCounters) : LineCounters :=
  if d ≠ 0 ∧ d ≠ s.number then c
  else if src = 0 ∨ (17 ≤ src ∧ src ≠ 30) then { c with foreignSource := min (c.foreignSource + 1) 65535 }
  else if src ≠ 30 ∧ k = .order then { c with ordersRefused := min (c.ordersRefused + 1) 65535 }
  else c

def countersSet (c : LineCounters) (s : State) : State := { s with yli := { s.yli with counters := c } }

theorem acceptedAs_none {d : Nat} {s : State} (other : d ≠ 0 ∧ d ≠ s.number) : acceptedAs s d = none := by
  rw [acceptedAs, if_neg other.1, if_neg other.2]

theorem routeAccepted_left {src d : Nat} {k : MessageKind} {s h : State} (left : LeftThere src d k s)
    (own : d = 0 ∨ d = s.number) (station : h.station = s.station) (a : Address) (body : List Byte) (r : StartReadings) :
    routeAccepted src a k body r h = countersSet (countLeft src d k s h.yli.counters) h := by
  have accepted : ¬ (d ≠ 0 ∧ d ≠ s.number) := by omega
  rcases left with other | foreign | ⟨office, kind⟩ | ⟨low, high, kind⟩
  · exact absurd other accepted
  · have holder : holderSource src = false := by
      rw [holderSource, decide_eq_false_iff_not]
      omega
    have notOffice : src ≠ 30 := by omega
    rw [countLeft, if_neg accepted, if_pos foreign]
    simp only [routeAccepted, holder, Bool.false_eq_true, if_false, if_neg notOffice]
    rfl
  · subst office
    rw [countLeft, if_neg accepted, if_neg (by omega), if_neg (by omega)]
    cases k with
    | order => exact absurd rfl kind
    | report => rfl
    | account => rfl
    | status => rfl
  · have holder : holderSource src = true := by simp [holderSource, low, high]
    have notOffice : src ≠ 30 := by omega
    rw [countLeft, if_neg accepted, if_neg (by omega)]
    simp only [routeAccepted, holder, if_true]
    cases k with
    | report =>
      have stopped : h.working = false := by
        have fault := kind.resolve_left fun h => h rfl
        simp [State.working, station, fault]
      simp only [stopped, Bool.false_eq_true, if_false]
      exact (congrArg (countersSet · h) (if_neg (by simp))).symm
    | order => exact (congrArg (countersSet · h) (if_pos ⟨notOffice, rfl⟩)).symm
    | account => exact (congrArg (countersSet · h) (if_neg (by simp))).symm
    | status => exact (congrArg (countersSet · h) (if_neg (by simp))).symm

theorem routedMessage_left {src d : Nat} {k : MessageKind} {s : State} (left : LeftThere src d k s) (body : List Byte)
    (r : StartReadings) : routedMessage src d k body r (setInFrame false s) =
      countersSet (countLeft src d k s s.yli.counters) (lineHeard (setInFrame false s)) := by
  obtain ⟨frame, -⟩ := lineHeard_frame s
  have number : (lineHeard (setInFrame false s)).number = s.number := by rw [frame]; rfl
  have station : (lineHeard (setInFrame false s)).station = s.station := by rw [frame]; rfl
  have counters : (lineHeard (setInFrame false s)).yli.counters = s.yli.counters := by rw [frame]; rfl
  unfold routedMessage
  generalize lineHeard (setInFrame false s) = h at *
  by_cases other : d ≠ 0 ∧ d ≠ s.number
  · rw [acceptedAs_none (by rw [number]; exact other), countLeft, if_pos other, ← counters]
    rfl
  · have own : d = 0 ∨ d = s.number := by omega
    obtain ⟨a, accepted⟩ := acceptedAs_isSome (s := h) (d := d) (by rw [number]; exact own)
    rw [accepted, ← counters]
    exact routeAccepted_left left own station a body r

/-! ## Orders from the office (R79, R188) -/

theorem routedMessage_order {d : Nat} {a : Address} {s : State} (free : s.isCurrent .alone = false)
    (accepted : acceptedAs s d = some a) (body : List Byte) (r : StartReadings) :
    validMessage 30 d .order body r (setInFrame false s) = takeOrderBody a body r (heardOn s) := by
  have heard := lineHeard_of_free (s := s) (.inl free)
  have same : acceptedAs (heardOn s) d = some a := accepted
  have routed : routedMessage 30 d .order body r (setInFrame false s) = takeOrderBody a body r (heardOn s) := by
    unfold routedMessage
    rw [heard, same]
    rfl
  have notAlone : (setInFrame false s).isCurrent .alone = false := free
  rw [validMessage_eq, routed, notAlone, Bool.false_and]
  rfl

/-! ## What such a message leaves -/

/-- A message left there leaves the state of line heard with its count, settled where the station was ALONE (R127). -/
theorem heardLeft_ended {s q : State} {c : LineCounters}
    (heard : q = countersSet c (lineHeard (setInFrame false s))) {t : State} (ends : t = finish q ∨ t = finish (settle q)) :
    t.yli.counters = c ∧ t.ini = s.ini ∧ t.srk = s.srk ∧ t.rst = s.rst ∧ t.oau.latched = s.oau.latched ∧
      t.ysu.table = s.ysu.table ∧ (s.working = true → t.isCurrent .alone = false ∧ t.ysu.silence = some (5 * s.intervalMs)) ∧
      accountsKept s t ∧ dutyFrame s t := by
  obtain ⟨frame, latched, alone⟩ := lineHeard_frame s
  have whole : q = countersSet c { heardOn s with oau := q.oau } := by
    rw [heard]
    rw [frame]
    rfl
  have qLatched : q.oau.latched = s.oau.latched := by rw [heard]; exact latched
  have qAlone : s.working = true → q.isCurrent .alone = false := fun on => by rw [heard]; exact alone on
  generalize ho : q.oau = o at whole
  have ysu : q.ysu = (heardOn s).ysu := by rw [whole]; rfl
  have table : q.ysu.table = s.ysu.table := by rw [ysu, heardOn]; split <;> rfl
  have silence : s.working = true → q.ysu.silence = some (5 * s.intervalMs) := fun on => by
    rw [ysu, heardOn, if_pos on]
  have rest : q.yli.counters = c ∧ q.ini = s.ini ∧ q.srk = s.srk ∧ q.rst = s.rst ∧ q.acu = s.acu := by
    rw [whole]
    exact ⟨rfl, rfl, rfl, rfl, rfl⟩
  have duty : dutyFrame s q := by
    rw [dutyFrame, ← ho] at *
    rw [whole]
    rfl
  obtain ⟨counters, ini, srk, rst, acu⟩ := rest
  have accounts : accountsKept s q := accountsKept_of_acu acu
  clear whole heard ho
  rcases ends with rfl | rfl
  · refine ⟨(finish_yli_counters q).trans counters, by rw [finish_ini, ini], by rw [finish_srk, srk], by rw [finish_rst, rst],
      by rw [finish_oau, qLatched], by rw [finish_ysu, table], fun on => ⟨?_, by rw [finish_ysu, silence on]⟩, ?_,
      dutyFrame_trans duty (dutyFrame_finish q)⟩
    · rw [State.isCurrent, finish_oau]
      exact qAlone on
    · exact accountsKept_trans accounts (accountsKept_of_acu (finish_acu q))
  · rw [settle_eq]
    have unit := sameUnit_ended q q
    have line := settleFrom_yli_frame q q
    refine ⟨?_, by rw [finish_ini, settleFrom_ini, ini], by rw [finish_srk, settleFrom_srk, srk],
      by rw [finish_rst, settleFrom_rst, rst], by rw [finish_oau, settleFrom_oau, qLatched], unit.table.trans table,
      fun on => ⟨(isCurrent_ended q q .alone).trans (qAlone on), unit.silence.trans (silence on)⟩,
      accountsKept_ended accounts q, dutyFrame_ended duty q⟩
    rw [finish_yli_counters, line]
    exact counters

/-- Settles O40. -/
theorem framesGoToTheirOwners : Obligations.FramesGoToTheirOwners := by
  refine ⟨fun chars r s data body bad d a supply onLine quiet free gathered valid accepted => ?_,
    fun chars r s data body bad src d k supply onLine quiet gathered valid left => ?_⟩
  · have done := exec_frameReceived_of_valid (r := r) supply onLine quiet gathered valid
    rw [routedMessage_order free accepted] at done
    refine ⟨_, done, fun o order => ?_, fun none_ => ?_⟩
    · have row := exec_orderRow (s := heardOn s) supply a o r
      rw [takeOrderBody, order]
      exact row
    · rw [takeOrderBody, none_]
      have frame := finish_frame (refuseOrder (heardOn s))
      have counters := finish_yli_counters (refuseOrder (heardOn s))
      have table : (heardOn s).ysu.table = s.ysu.table := by rw [heardOn]; split <;> rfl
      dsimp only
      generalize finish (refuseOrder (heardOn s)) = t at *
      refine ⟨?_, ?_, ?_, ?_, counters⟩
      · rw [frame]; rfl
      · rw [frame]; exact table
      · rw [frame]; rfl
      · rw [frame]; rfl
  · intro heard count
    have done := exec_frameReceived_of_valid (r := r) supply onLine quiet gathered valid
    obtain ⟨q, hq⟩ : ∃ q, q = countersSet (countLeft src d k s s.yli.counters) (lineHeard (setInFrame false s)) := ⟨_, rfl⟩
    have routed := routedMessage_left left body r
    rw [← hq] at routed
    rw [validMessage_eq, routed] at done
    obtain ⟨t, ht⟩ : ∃ t, t = finish (if (setInFrame false s).isCurrent .alone && q.working then settle q else q) := ⟨_, rfl⟩
    rw [← ht] at done
    have ends : t = finish q ∨ t = finish (settle q) := by
      rw [ht]
      split
      · exact .inr rfl
      · exact .inl rfl
    obtain ⟨counters, ini, srk, rst, latched, table, on, accounts, duty⟩ := heardLeft_ended hq ends
    refine ⟨t, done, counters, ini, srk, rst, latched, table, on, accounts, duty, fun still law nothing => ?_⟩
    rw [lineHeard_of_free still] at hq
    have stands : lineLaw q := by rw [hq]; exact law
    have skips : ¬ ((setInFrame false s).isCurrent .alone && q.working) = true := by
      have alone : (setInFrame false s).isCurrent .alone = s.isCurrent .alone := rfl
      have working : q.working = s.working := by rw [hq]; rfl
      rw [alone, working, Bool.and_eq_true]
      rintro ⟨isAlone, isWorking⟩
      rcases still with h | h
      · simp [isAlone] at h
      · simp [isWorking] at h
    rw [ht, if_neg skips, finish_of_lineLaw stands, hq]
    rfl

end Sys2Proof.Machine

end

/-! What a close of the open period leaves (R153, R164 to R168, R184), and the end of the event that closes it. -/

section

namespace Sys2Proof.Machine

/-! ## The ACCOUNT message in the queue (R80, R81, R166) -/

theorem othersHeld_offerReport (b : List Byte) (y : Yli) : (y.offerReport b).othersHeld = y.othersHeld := by
  unfold Yli.offerReport
  dsimp only
  split
  · have same := (filter_replaceReport { kind := .report, body := b } rfl y.queue).2
    simp only [Yli.othersHeld, same]
  · simp [Yli.othersHeld, Message.isReport]

/-- A REPORT offered replaces no other message. -/
theorem mem_offerReport {m : Message} {y : Yli} (other : m.isReport = false) (queued : m ∈ y.queue) (b : List Byte) :
    m ∈ (y.offerReport b).queue := by
  unfold Yli.offerReport
  dsimp only
  split
  · exact List.mem_map.2 ⟨m, queued, by simp [other]⟩
  · exact List.mem_append_left _ queued

/-- An event whose work leaves the line still keeps a queued message that is no REPORT. -/
theorem mem_finish {m : Message} {s : State} (other : m.isReport = false) (queued : m ∈ s.yli.queue)
    (nothing : nothingBegins s) : m ∈ (finish s).yli.queue := by
  have flush := (flushed_frame s).1
  have stands : nothingBegins (flushed s) := by
    unfold nothingBegins
    rw [flush]
    exact nothing
  rw [finish_eq, (txSettle_of_nothingBegins stands).1, flushed, flushReport]
  split
  · exact mem_offerReport other queued _
  · exact queued

/-- What a message offered leaves of the line (R80, R81). -/
theorem offerMessage_line (m : Message) (s : State) : (s.yli.othersHeld < 3 → m ∈ (offerMessage m s).yli.queue) ∧
    (3 ≤ s.yli.othersHeld → (offerMessage m s).yli.counters.dropped = min (s.yli.counters.dropped + 1) 65535) ∧
    (offerMessage m s).yli.line = s.yli.line ∧ (offerMessage m s).yli.tx = s.yli.tx ∧
    (offerMessage m s).yli.quiet = s.yli.quiet := by
  have flush : (flushReport s).yli.othersHeld = s.yli.othersHeld ∧ (flushReport s).yli.counters = s.yli.counters ∧
      (flushReport s).yli.line = s.yli.line ∧ (flushReport s).yli.tx = s.yli.tx ∧
      (flushReport s).yli.quiet = s.yli.quiet := by
    unfold flushReport
    split
    · obtain ⟨frame, -⟩ := offerReport_frame (reportBody s) s.yli
      refine ⟨othersHeld_offerReport _ _, offerReport_counters _ _, ?_, ?_, offerReport_quiet _ _⟩ <;> rw [frame]
    · exact ⟨rfl, rfl, rfl, rfl, rfl⟩
  obtain ⟨held, counters, line, tx, quiet⟩ := flush
  have whole : (offerMessage m s).yli = (flushReport s).yli.offerOther m := rfl
  rw [whole]
  generalize (flushReport s).yli = y at *
  rw [← held, ← counters, ← line, ← tx, ← quiet]
  by_cases room : y.othersHeld < 3
  · rw [offerOther_of_room room]
    exact ⟨fun _ => by simp, fun full => by omega, rfl, rfl, rfl⟩
  · rw [offerOther_of_full (by omega)]
    exact ⟨fun less => absurd less room, fun _ => rfl, rfl, rfl, rfl⟩

theorem judgeBalance_line (s : State) : (judgeBalance s).yli.othersHeld = s.yli.othersHeld ∧
    (judgeBalance s).yli.counters = s.yli.counters ∧ (judgeBalance s).yli.line = s.yli.line ∧
    (judgeBalance s).yli.tx = s.yli.tx ∧ (judgeBalance s).yli.quiet = s.yli.quiet := by
  unfold judgeBalance raiseMomentary latch
  split
  · split
    · exact ⟨rfl, rfl, rfl, rfl, rfl⟩
    · rw [trigger_yli_frame]
      exact ⟨rfl, rfl, rfl, rfl, rfl⟩
  · exact ⟨rfl, rfl, rfl, rfl, rfl⟩

theorem judgeBalance_oau (s : State) : (judgeBalance s).oau.current = s.oau.current ∧
    (unbalanced s = true → (judgeBalance s).isLatched .balance = true) := by
  unfold judgeBalance raiseMomentary
  split
  · next fails => exact ⟨latch_current _ _, fun _ => by rw [isLatched_latch]; simp⟩
  · next balanced => exact ⟨rfl, fun fails => absurd fails balanced⟩

/-! ## The write (R184) -/

theorem beginWrite_rst_of_working {s : State} (working : s.working = true) : (beginWrite s).rst.writing.isSome = true ∧
    (s.rst.writing.isSome = true → (beginWrite s).rst.again = true) := by
  unfold beginWrite
  rw [if_neg (by simp [working])]
  split
  · next writing => exact ⟨writing, fun _ => rfl⟩
  · next free => exact ⟨rfl, fun writing => absurd writing free⟩

/-! ## A close -/

/-- The books that a close leaves of those of its take (R164 to R167). -/
def booksClosed (n : Nat) (cause : CloseCause) (next : Nat) (w : State) : Acu :=
  { w.acu with
    list := appendRecord (closingRecord n cause w) w.acu.list
    period := OpenPeriod.openedOn next (closingStock w).1 (closingStock w).2.1
    served := servedBy cause w }

/-- What a close in `q` leaves in `z`, by the figures of the take (R164 to R167, R184). -/
structure Closes (n : Nat) (cause : CloseCause) (next : Nat) (q z : State) : Prop where
  acu : z.acu = booksClosed n cause next (takeMeters q)
  plug : z.plug = q.plug
  ini : z.ini = { q.ini with inletCount := 0, outletCount := 0 }
  lowest : z.pgv.lowest = none
  current : z.oau.current = q.oau.current
  latched : unbalanced (takeMeters q) = true → z.isLatched .balance = true
  room : q.yli.othersHeld < 3 →
    { kind := .account, body := accountClosedBody (closingRecord n cause (takeMeters q)) } ∈ z.yli.queue
  full : 3 ≤ q.yli.othersHeld → z.yli.counters.dropped = min (q.yli.counters.dropped + 1) 65535
  line : z.yli.line = q.yli.line ∧ z.yli.tx = q.yli.tx ∧ z.yli.quiet = q.yli.quiet
  timer : z.yli.reportTimer = some q.intervalMs
  writing : z.rst.writing.isSome = true
  again : q.rst.writing.isSome = true → z.rst.again = true

theorem closes_closePeriod {n next : Nat} {cause : CloseCause} {q : State} (working : q.working = true) :
    Closes n cause next q (closePeriod n cause next q) := by
  have zPlug := closePeriod_plug n cause next q
  obtain ⟨w, hw⟩ : ∃ w, w = takeMeters q := ⟨_, rfl⟩
  have wWorking : w.working = true := by rw [hw]; exact working
  have wSame : w.yli = q.yli ∧ w.rst = q.rst ∧ w.oau = q.oau ∧ w.plug = q.plug ∧
      w.ini = { q.ini with inletCount := 0, outletCount := 0 } ∧ w.acu.list = q.acu.list := by
    rw [hw]
    exact ⟨rfl, rfl, rfl, rfl, rfl, rfl⟩
  obtain ⟨yli, rst, oau, plug, ini, list⟩ := wSame
  rw [closePeriod_eq, ← hw] at zPlug ⊢
  obtain ⟨held, counters, line, tx, quiet⟩ := judgeBalance_line w
  obtain ⟨current, latched⟩ := judgeBalance_oau w
  obtain ⟨room, full, line', tx', quiet'⟩ :=
    offerMessage_line { kind := .account, body := accountClosedBody (closingRecord n cause w) } (judgeBalance w)
  have offered : offerMessage { kind := .account, body := accountClosedBody (closingRecord n cause w) } (judgeBalance w) =
    offerAccount n cause w := rfl
  have oPlug : (offerAccount n cause w).plug = w.plug := by
    rw [offerAccount, offerMessage_plug]
    unfold judgeBalance
    split <;> simp
  have oWorking : (offerAccount n cause w).working = true := by
    rw [State.working, offerAccount, offerMessage_station, judgeBalance_station]
    exact wWorking
  have oRest : (offerAccount n cause w).acu = w.acu ∧ (offerAccount n cause w).ini = w.ini ∧
      (offerAccount n cause w).rst = w.rst ∧ (offerAccount n cause w).oau = (judgeBalance w).oau := by
    have rst' : (judgeBalance w).rst = w.rst := by
      unfold judgeBalance
      split <;> simp
    refine ⟨by simp [offerAccount], by simp [offerAccount], by simp [offerAccount, rst'], by simp [offerAccount]⟩
  obtain ⟨oAcu, oIni, oRst, oOau⟩ := oRest
  rw [offered] at room full line' tx' quiet'
  generalize offerAccount n cause w = o at *
  obtain ⟨p, hp⟩ : ∃ p, p = openNext n cause next w o := ⟨_, rfl⟩
  have pWorking : p.working = true := by rw [hp]; exact oWorking
  have pAcu : p.acu = booksClosed n cause next w := by rw [hp, openNext, oAcu, booksClosed]
  have pSame : p.yli = o.yli ∧ p.rst = o.rst ∧ p.oau = o.oau ∧ p.plug = o.plug ∧ p.ini = o.ini ∧ p.pgv.lowest = none := by
    rw [hp]
    exact ⟨rfl, rfl, rfl, rfl, rfl, rfl⟩
  obtain ⟨pYli, pRst, pOau, pPlug, pIni, pLowest⟩ := pSame
  have interval : p.intervalMs = q.intervalMs := by
    rw [State.intervalMs, State.cfg, pPlug, oPlug, plug]
    rfl
  rw [← hp] at zPlug ⊢
  clear hp
  have tWorking : (trigger p).working = true := by rw [State.working, trigger_station]; exact pWorking
  obtain ⟨writes, again⟩ := beginWrite_rst_of_working tWorking
  have tLine := trigger_yli_frame p
  have tTimer : (trigger p).yli.reportTimer = some p.intervalMs := by rw [trigger, if_pos pWorking]
  refine ⟨?_, zPlug, ?_, ?_, ?_, fun fails => ?_, fun less => ?_, fun more => ?_, ⟨?_, ?_, ?_⟩, ?_, writes, fun before => ?_⟩
  · rw [beginWrite_acu, trigger_acu, pAcu, hw]
  · rw [beginWrite_ini, trigger_ini, pIni, oIni, ini]
  · rw [beginWrite_pgv, trigger_pgv, pLowest]
  · rw [beginWrite_oau, trigger_oau, pOau, oOau, current, oau]
  · rw [State.isLatched, beginWrite_oau, trigger_oau, pOau, oOau]
    exact latched (hw ▸ fails)
  · rw [beginWrite_yli, tLine, pYli]
    rw [← hw]
    exact room (by rw [held, yli]; exact less)
  · rw [beginWrite_yli, tLine, pYli]
    refine (full (by rw [held, yli]; exact more)).trans ?_
    rw [counters, yli]
  · rw [beginWrite_yli, tLine, pYli]
    exact line'.trans (line.trans (by rw [yli]))
  · rw [beginWrite_yli, tLine, pYli]
    exact tx'.trans (tx.trans (by rw [yli]))
  · rw [beginWrite_yli, tLine, pYli]
    exact quiet'.trans (quiet.trans (by rw [yli]))
  · rw [beginWrite_yli, tTimer, interval]
  · refine again ?_
    rw [trigger_rst, pRst, oRst, rst]
    exact before

/-! ## The event that closes -/

/-- The state `q` in which an event begun in `s` closes: the figures of the close are those of `s`, the minute is its own. -/
structure ClosesFrom (minute : Nat) (s q : State) : Prop where
  working : q.working = true
  counts : q.ini.inletCount = s.ini.inletCount ∧ q.ini.outletCount = s.ini.outletCount
  minute : q.ini.minute = minute
  plug : q.plug = s.plug
  srk : q.srk = s.srk
  acu : q.acu = { s.acu with served := q.acu.served }
  rst : q.rst = s.rst
  yli : q.yli = { s.yli with inFrame := q.yli.inFrame }
  balance : q.isCurrent .balance = s.isCurrent .balance

/-- What the work of an event after its close leaves of it: entries join the new period, the settling pass may end the
meter-silent window, and the line stands but for the report trigger. -/
structure FollowsClose (z y : State) : Prop where
  acu : y.acu = { z.acu with
    period := { z.acu.period with entries := y.acu.period.entries }
    silentWindow := y.acu.silentWindow }
  window : ∀ w ∈ z.acu.silentWindow, ∀ x ∈ y.acu.silentWindow, x = w
  ini : y.ini.inletCount = z.ini.inletCount ∧ y.ini.outletCount = z.ini.outletCount
  lowest : z.pgv.lowest = none → y.pgv.lowest = none
  current : y.isCurrent .balance = z.isCurrent .balance
  latched : z.isLatched .balance = true → y.isLatched .balance = true
  yli : y.yli = { z.yli with reportTimer := y.yli.reportTimer, reportDue := y.yli.reportDue }
  timer : z.yli.reportTimer = some z.intervalMs → y.yli.reportTimer = some z.intervalMs
  rst : y.rst = z.rst

theorem FollowsClose.refl (z : State) : FollowsClose z z :=
  ⟨rfl, fun _ stood _ stands => Option.some.inj (stands.symm.trans stood), ⟨rfl, rfl⟩, id, rfl, id, rfl, id, rfl⟩

theorem finish_reportTimer (s : State) : (finish s).yli.reportTimer = s.yli.reportTimer := by
  have flush : (flushed s).yli.reportTimer = s.yli.reportTimer := by rw [(flushed_frame s).1]
  rw [finish_eq]
  rcases txSettle_cases (flushed s) with still | ⟨waits, -⟩ | ⟨m, rest, -, -, -, began⟩
  · rw [still, flush]
  · rw [waits]
    exact flush
  · rw [began]
    exact flush

theorem closingStock_cases (s : State) :
    (s.srk.record.status.trusted = true → closingStock s = (s.srk.record.stock, s.srk.record.status, false)) ∧
    (s.srk.record.status.trusted = false → (closingStock s).2.2 = true ∧
      (∀ g ∈ s.acu.lastGood, (closingStock s).1 = g.stock ∧ (closingStock s).2.1 = g.status) ∧
      (s.acu.lastGood = none → (closingStock s).1 = s.acu.period.openingStock ∧
        (closingStock s).2.1 = s.acu.period.openingStatus)) := by
  refine ⟨fun trusted => if_pos trusted, fun doubted => ?_⟩
  rw [closingStock, if_neg (by simp [doubted])]
  cases good : s.acu.lastGood with
  | none => exact ⟨rfl, fun g h => (by cases h), fun _ => ⟨rfl, rfl⟩⟩
  | some g => exact ⟨rfl, fun x h => Option.some.inj h ▸ ⟨rfl, rfl⟩, fun h => (by cases h)⟩

/-- The figures of the take in the state that closes, from those that the event began with (R153). -/
theorem takeMeters_from {minute : Nat} {s q : State} (began : ClosesFrom minute s q) :
    let inSum := s.ini.inletCount * s.cfg.pulseIn * s.srk.record.factor + s.acu.inletResidue
    let outSum := s.ini.outletCount * s.cfg.pulseOut * s.srk.record.factor + s.acu.outletResidue
    (takeMeters q).acu = { s.acu with
      period := { s.acu.period with
        makeIn := min (s.acu.period.makeIn + inSum / 65536) 16777215
        sendOut := min (s.acu.period.sendOut + outSum / 65536) 16777215 }
      inletResidue := inSum % 65536
      outletResidue := outSum % 65536
      slot := s.acu.slot + outSum / 65536
      served := q.acu.served
      silentWindow := s.acu.silentWindow.map (fun w => { w with pulses := min (w.pulses + s.ini.outletCount) 65535 }) } ∧
    (takeMeters q).srk = s.srk ∧ (takeMeters q).cfg = s.cfg ∧ (takeMeters q).ini.minute = minute := by
  obtain ⟨-, ⟨inlet, outlet⟩, hMinute, plug, srk, acu, -⟩ := began
  have cfg : q.cfg = s.cfg := by rw [State.cfg, plug]; rfl
  intro inSum outSum
  refine ⟨?_, srk, cfg, hMinute⟩
  unfold takeMeters
  dsimp only
  rw [acu, inlet, outlet, cfg, srk]
  rfl

theorem unbalanced_iff (s : State) : unbalanced s = true ↔
    s.cfg.balanceLimit * max (s.acu.period.makeIn + s.acu.period.sendOut) 1 <
      ((s.acu.period.openingStock : Int) + s.acu.period.makeIn - s.acu.period.sendOut - (closingStock s).1).natAbs * 1000 := by
  exact decide_eq_true_iff

theorem closedBy_of {cause : CloseCause} {n next minute : Nat} {s q z y : State} (began : ClosesFrom minute s q)
    (closes : Closes n cause next q z) (follows : FollowsClose z y) :
    closedBy cause n next minute s (finish y) ∧ (finish y).acu.period.entries = y.acu.period.entries ∧
      (finish y).acu.served = servedBy cause (takeMeters q) := by
  obtain ⟨wAcu, wSrk, wCfg, wMinute⟩ := takeMeters_from began
  obtain ⟨working, -, -, plug, -, -, rst, yli, balance⟩ := began
  obtain ⟨zAcu, zPlug, zIni, zLowest, zCurrent, zLatched, zRoom, zFull, ⟨zLine, zTx, zQuiet⟩, zTimer, zWriting, zAgain⟩ := closes
  obtain ⟨yAcu, yWindow, ⟨yInlet, yOutlet⟩, yLowest, yCurrent, yLatched, yYli, yTimer, yRst⟩ := follows
  obtain ⟨w, hw⟩ : ∃ w, w = takeMeters q := ⟨_, rfl⟩
  rw [← hw] at zAcu zLatched zRoom wAcu wSrk wCfg wMinute ⊢
  clear hw
  have interval : z.intervalMs = s.intervalMs := by
    rw [State.intervalMs, State.intervalMs, State.cfg, State.cfg, zPlug, plug]
  have qInterval : q.intervalMs = s.intervalMs := by rw [State.intervalMs, State.intervalMs, State.cfg, State.cfg, plug]
  have others : q.yli.othersHeld = s.yli.othersHeld := by rw [yli]; rfl
  have dropped : q.yli.counters = s.yli.counters := by rw [yli]
  have yOthers : y.yli.line = s.yli.line ∧ y.yli.tx = s.yli.tx ∧ y.yli.quiet = s.yli.quiet := by
    rw [yYli]
    refine ⟨zLine.trans ?_, zTx.trans ?_, zQuiet.trans ?_⟩ <;> rw [yli]
  obtain ⟨yLine, yTx, yQuiet⟩ := yOthers
  obtain ⟨trusted, doubted⟩ := closingStock_cases w
  rw [wSrk] at trusted doubted
  have good : w.acu.lastGood = s.acu.lastGood := by rw [wAcu]
  have opening : w.acu.period.openingStock = s.acu.period.openingStock ∧
      w.acu.period.openingStatus = s.acu.period.openingStatus := by rw [wAcu]; exact ⟨rfl, rfl⟩
  rw [good, opening.1, opening.2] at doubted
  have fails := unbalanced_iff w
  rw [wCfg] at fails
  obtain ⟨r, hr⟩ : ∃ r, r = closingRecord n cause w := ⟨_, rfl⟩
  have list : y.acu.list = s.acu.list.drop (s.acu.list.length - 11) ++ [r] := by
    rw [yAcu, zAcu, hr, booksClosed, appendRecord]
    dsimp only
    rw [wAcu]
  have tAcu : (finish y).acu = y.acu := finish_acu y
  have last : (finish y).acu.list.getLast? = some r := by rw [tAcu, list]; simp
  have figures : (finish y).acu.inletResidue = w.acu.inletResidue ∧ (finish y).acu.outletResidue = w.acu.outletResidue ∧
      (finish y).acu.slot = w.acu.slot ∧ (finish y).acu.slots = w.acu.slots ∧ (finish y).acu.rate = w.acu.rate ∧
      (finish y).acu.lastGood = w.acu.lastGood ∧ z.acu.silentWindow = w.acu.silentWindow := by
    rw [tAcu, yAcu, zAcu]
    exact ⟨rfl, rfl, rfl, rfl, rfl, rfl, rfl⟩
  obtain ⟨inRes, outRes, slot, slots, rate, lastGood, zWindow⟩ := figures
  have period : (finish y).acu.period = { OpenPeriod.openedOn next (closingStock w).1 (closingStock w).2.1 with
      entries := y.acu.period.entries } := by
    rw [tAcu, yAcu, zAcu]
    rfl
  have entries : (finish y).acu.period.entries = y.acu.period.entries := by rw [tAcu]
  have served : (finish y).acu.served = servedBy cause w := by rw [tAcu, yAcu, zAcu]; rfl
  have count : (finish y).ini.inletCount = 0 ∧ (finish y).ini.outletCount = 0 := by
    rw [finish_ini, yInlet, yOutlet, zIni]
    exact ⟨rfl, rfl⟩
  refine ⟨⟨by rw [last]; rfl, fun x member => ?_, ?_, ?_, count.1, count.2, inRes.trans (by rw [wAcu]), outRes.trans (by rw [wAcu]),
    slot.trans (by rw [wAcu]), slots.trans (by rw [wAcu]), rate.trans (by rw [wAcu]), lastGood.trans good, fun v stood x stands => ?_,
    fun full => ?_, ?_, ?_, fun writing => ?_⟩, entries, served⟩
  · have same : x = r := by
      rw [last] at member
      exact (Option.some.inj member).symm
    subst same
    refine ⟨by rw [tAcu]; exact list, by rw [hr]; rfl, by rw [hr]; rfl, by rw [hr]; exact wMinute, by rw [hr]; exact opening.1,
      by rw [hr]; exact opening.2, fun trust => ?_, fun doubt => ?_, by rw [hr, closingRecord, wAcu]; rfl,
      by rw [hr, closingRecord, wAcu]; rfl, by rw [hr]; rfl, ?_, fun loses => ?_, by rw [hr, closingRecord, closingFlags, wAcu]; rfl,
      by rw [hr, closingRecord, closingFlags, wAcu]; rfl, by rw [hr, closingRecord, closingFlags, wAcu]; rfl,
      by rw [hr, closingRecord, wAcu]; rfl, by rw [hr, closingRecord, wAcu]; rfl, by rw [hr, closingRecord, wAcu]; rfl,
      by rw [hr, closingRecord, wAcu]; rfl, by rw [hr, closingRecord, wAcu]; rfl, by rw [hr, closingRecord, wAcu]; rfl,
      by rw [hr, closingRecord, wAcu]; rfl, ?_, fun room nothing => ?_⟩
    · have stock := trusted trust
      rw [hr, closingRecord, closingFlags, stock, wAcu]
      exact ⟨rfl, rfl, Bool.or_false _⟩
    · obtain ⟨doubtful, fromGood, fromOpening⟩ := doubted doubt
      rw [hr, closingRecord, closingFlags, doubtful]
      exact ⟨Bool.or_true _, fromGood, fromOpening⟩
    · have flags : x.flags.balance = (s.acu.period.flags.balance || unbalanced w) := by
        rw [hr, closingRecord, closingFlags, wAcu]
        rfl
      rw [flags, Bool.or_eq_true, fails, hr]
      rfl
    · have latched := yLatched (zLatched (fails.2 (by rw [hr] at loses; exact loses)))
      rw [State.isLatched, finish_oau]
      exact latched
    · rw [period, hr]
      rfl
    · have queued := zRoom (by rw [others]; exact room)
      rw [← hr] at queued
      refine mem_finish rfl ?_ ?_
      · rw [yYli]
        exact queued
      · rw [nothingBegins, yLine, yTx, yQuiet]
        exact nothing
  · rw [State.isCurrent, finish_oau, ← balance]
    refine yCurrent.trans ?_
    rw [State.isCurrent, zCurrent]
    rfl
  · rw [finish_pgv]
    exact yLowest zLowest
  · rw [tAcu] at stands
    refine yWindow _ ?_ x stands
    rw [zWindow, wAcu]
    dsimp only
    rw [Option.mem_def.1 stood]
    rfl
  · rw [finish_yli_counters, yYli]
    refine (zFull (by rw [others]; exact full)).trans ?_
    rw [dropped]
  · rw [finish_reportTimer, ← interval]
    exact yTimer (by rw [zTimer, qInterval, interval])
  · rw [finish_rst, yRst]
    exact zWriting
  · rw [finish_rst, yRst]
    exact zAgain (by rw [rst]; exact writing)

end Sys2Proof.Machine

end

/-! Boundaries and peer marks (R37, R161 to R163): what the end of an event leaves of a close, and the statement. -/

section

namespace Sys2Proof.Machine

/-! ## The meter-silent window at a close (R158) -/

/-- A meter-silent window stands as it was, or has ended with its conditions (R158). -/
def windowStandsOrEnded (w : SilentWindow) (s : State) : Prop :=
  s.acu.silentWindow = some w ∨ (s.acu.silentWindow = none ∧ s.silentWindowHolds = false)

theorem judgeSilentWindow_stands {w : SilentWindow} {s : State}
    (h : s.silentWindowHolds = true → s.acu.silentWindow = some w) : windowStandsOrEnded w (judgeSilentWindow s) := by
  unfold judgeSilentWindow
  split
  · next holds =>
    rw [if_pos (by rw [h holds]; rfl)]
    exact .inl (h holds)
  · next ended => exact .inr ⟨rfl, Bool.eq_false_iff.2 ended⟩

theorem raiseWithEntry_silentWindow (k : AlarmKind) (e : EventKind) (s : State) :
    (raiseWithEntry k e s).acu.silentWindow = s.acu.silentWindow := by
  unfold raiseWithEntry makeEntry
  split
  · rfl
  · split <;> rw [raise_acu]

theorem judgeLimitGuard_silentWindow (s : State) : (judgeLimitGuard s).acu.silentWindow = s.acu.silentWindow := by
  unfold judgeLimitGuard
  split
  · exact raiseWithEntry_silentWindow _ _ _
  · rfl

theorem signalDrive_silentWindow (d : Side) (b a : DriveState) (s : State) :
    (signalDrive d b a s).acu.silentWindow = s.acu.silentWindow := by
  unfold signalDrive makeEntry
  split
  · split <;> rw [raise_acu]
  · split <;> rfl

theorem driveMoved_silentWindow (d : Side) (x : Drive) (s : State) :
    (driveMoved d x s).acu.silentWindow = s.acu.silentWindow := by
  unfold driveMoved endLanding
  dsimp only
  split
  · refine (judgeLimitGuard_silentWindow _).trans ((signalDrive_silentWindow _ _ _ _).trans ?_)
    split <;> rfl
  · refine (signalDrive_silentWindow _ _ _ _).trans ?_
    split <;> rfl

/-- No command brings a drive to CLOSED (R43). -/
theorem take_isClosed {travel : Nat} {c : DriveCommand} {d : Drive} (closed : (Drive.take travel c d).state = .isClosed) :
    d.state = .isClosed := by
  obtain ⟨state, command, output, timer, retry⟩ := d
  cases state <;> cases c <;> simp_all [Drive.take, Drive.act, Drive.rest, Drive.driveOpen, Drive.driveClosed]
  all_goals split at closed <;> simp_all

/-- A command brings no drive to CLOSED that was not there. -/
theorem closed_of_putDrive {s : State} {d : Side} {x : Drive} (closed : x.state = .isClosed → (s.vdu.drive d).state = .isClosed)
    {v : Side} (after : ((putDrive d x s).vdu.drive v).state = .isClosed) : (s.vdu.drive v).state = .isClosed := by
  have moved := putDrive_state d x s v
  rw [after] at moved
  split at moved
  · next own => subst own; exact closed moved.symm
  · exact moved.symm

theorem silentWindowHolds_of_putDrive {s : State} {d : Side} {x : Drive}
    (closed : x.state = .isClosed → (s.vdu.drive d).state = .isClosed) (h : (putDrive d x s).silentWindowHolds = true) :
    s.silentWindowHolds = true := by
  simp only [State.silentWindowHolds, State.working, putDrive_station, putDrive_srk, Bool.and_eq_true, beq_iff_eq] at h ⊢
  obtain ⟨⟨on, state⟩, trusted⟩ := h
  exact ⟨⟨on, closed_of_putDrive closed (v := .inlet) state⟩, trusted⟩

theorem silentWindowHolds_judged (s : State) :
    (judgeSilentWindow (judgeLossWindow s)).silentWindowHolds = (judgeLossWindow s).silentWindowHolds := by
  simp [State.silentWindowHolds, State.working]

theorem windowStandsOrEnded_giveCommand {w : SilentWindow} {s : State} (d : Side) (c : DriveCommand)
    (h : windowStandsOrEnded w s) : windowStandsOrEnded w (giveCommand d c s) := by
  unfold giveCommand
  split
  · exact h
  · obtain ⟨x, hx⟩ : ∃ x, x = Drive.take s.travelMs c (s.vdu.drive d) := ⟨_, rfl⟩
    rw [← hx]
    have closed : x.state = .isClosed → (s.vdu.drive d).state = .isClosed := fun h => take_isClosed (hx ▸ h)
    have holds := silentWindowHolds_of_putDrive closed
    have stood : s.silentWindowHolds = true → s.acu.silentWindow = some w := fun on =>
      h.resolve_right fun ⟨_, off⟩ => by simp [on] at off
    by_cases still : x.state = (s.vdu.drive d).state
    · have acu : (putDrive d x s).acu = s.acu := by rw [putDrive_of_still still]
      rcases h with same | ⟨none_, off⟩
      · exact .inl (by rw [acu, same])
      · exact .inr ⟨by rw [acu, none_], Bool.eq_false_iff.2 fun on => by simp [holds on] at off⟩
    · rw [putDrive_of_moved still] at holds ⊢
      refine judgeSilentWindow_stands fun on => ?_
      rw [judgeLossWindow_acu, driveMoved_silentWindow]
      exact stood (holds ((silentWindowHolds_judged _).trans on))

theorem windowStandsOrEnded_settleFrom {w : SilentWindow} {old s : State} (h : windowStandsOrEnded w s) :
    windowStandsOrEnded w (settleFrom old s) := by
  obtain ⟨q, hq⟩ : ∃ q, q = handOn old (chooseRoles s) := ⟨_, rfl⟩
  have began : windowStandsOrEnded w q := by
    obtain ⟨vdu, -, acu, -⟩ := handOn_chosen old s
    have station : q.station = s.station := by rw [hq]; simp
    have srk : q.srk = s.srk := by rw [hq]; simp
    rw [← hq] at vdu acu
    unfold windowStandsOrEnded State.silentWindowHolds State.working
    rw [acu, vdu, srk, station]
    exact h
  have derived : windowStandsOrEnded w (deriveCommands q) :=
    windowStandsOrEnded_giveCommand _ _ (windowStandsOrEnded_giveCommand _ _ began)
  obtain ⟨z, hz, -, acu, -, drive, -, -⟩ := settleFrom_blocks old s
  rw [← hq] at hz
  rw [← hz] at derived
  have station : (settleFrom old s).station = z.station := by rw [hz, hq]; simp
  have srk : (settleFrom old s).srk = z.srk := by rw [hz, hq]; simp
  have inlet : (settleFrom old s).vdu.inlet = z.vdu.inlet := drive .inlet
  unfold windowStandsOrEnded State.silentWindowHolds State.working at derived ⊢
  rw [acu, inlet, srk, station]
  exact derived

/-! ## The end of an event that closes -/

theorem followsClose_judgeCalls (z : State) : FollowsClose z (judgeCalls z) := by
  obtain ⟨acu, window, ini, lowest, current, latched, yli, timer, rst⟩ := FollowsClose.refl z
  have oau : (judgeCalls z).oau = z.oau := judgeCalls_oau z
  constructor
  · rw [judgeCalls_acu]
  · rw [judgeCalls_acu]; exact window
  · rw [judgeCalls_ini]; exact ini
  · rw [judgeCalls_pgv]; exact lowest
  · rw [State.isCurrent, oau]; rfl
  · unfold State.isLatched at latched ⊢
    rw [oau]
    exact latched
  · rw [judgeCalls_yli]
  · rw [judgeCalls_yli]; exact timer
  · rw [judgeCalls_rst]

theorem latch_yli_frame (k : AlarmKind) (s : State) : (latch k s).yli =
    { s.yli with reportTimer := (latch k s).yli.reportTimer, reportDue := (latch k s).yli.reportDue } ∧
    (s.yli.reportTimer = some s.intervalMs → (latch k s).yli.reportTimer = some s.intervalMs) := by
  unfold latch
  split
  · exact ⟨rfl, id⟩
  · refine ⟨trigger_yli_frame _, fun timer => ?_⟩
    unfold trigger
    split
    · rfl
    · exact timer

/-- A kind raised with its entry after a close (R157, R176). -/
theorem followsClose_raiseWithEntry {k : AlarmKind} (other : k ≠ .balance) (e : EventKind) {z : State}
    (room : z.acu.period.entries.length < 8) : FollowsClose z (raiseWithEntry k e z) := by
  by_cases free : z.isCurrent k = true
  · rw [raiseWithEntry, if_pos free]
    exact .refl z
  · have raised : raise k z = latch k { z with oau := { z.oau with current := withAlarm z.oau.current k } } :=
      if_neg free
    have line := latch_yli_frame k { z with oau := { z.oau with current := withAlarm z.oau.current k } }
    rw [← raised] at line
    have current : (raiseWithEntry k e z).isCurrent .balance = z.isCurrent .balance := by
      rw [isCurrent_raiseWithEntry]
      simp [Ne.symm other]
    rw [raiseWithEntry, if_neg free] at current ⊢
    obtain ⟨r, hr⟩ : ∃ r, r = raise k z := ⟨_, rfl⟩
    have latched : z.isLatched .balance = true → r.isLatched .balance = true := fun h => by
      rw [hr, isLatched_raise_eq, if_neg free, h]
      rfl
    have same : r.acu = z.acu ∧ r.ini = z.ini ∧ r.pgv = z.pgv ∧ r.rst = z.rst := by rw [hr]; simp
    obtain ⟨acu, ini, pgv, rst⟩ := same
    rw [← hr] at line current ⊢
    clear hr raised
    have entry : (makeEntry e r).acu = { z.acu with period := { z.acu.period with
        entries := (makeEntry e r).acu.period.entries } } := by
      unfold makeEntry
      split
      · dsimp only
        rw [OpenPeriod.addEntry, acu, if_pos room]
      · rw [acu]
    refine ⟨?_, ?_, ?_, ?_, current, ?_, ?_, ?_, ?_⟩
    · rw [entry]
    · rw [entry]
      exact fun _ stood _ stands => Option.some.inj (stands.symm.trans stood)
    · rw [makeEntry_ini, ini]
      exact ⟨rfl, rfl⟩
    · rw [makeEntry_pgv, pgv]
      exact id
    · unfold State.isLatched at latched ⊢
      rw [makeEntry_oau]
      exact latched
    · rw [makeEntry_yli]
      exact line.1
    · rw [makeEntry_yli]
      exact line.2
    · rw [makeEntry_rst, rst]

theorem settleFrom_lowest (old s : State) : (settleFrom old s).pgv.lowest = s.pgv.lowest := by
  obtain ⟨z, hz, -, -, -, -, -, pgv⟩ := settleFrom_blocks old s
  obtain ⟨-, pgv', -⟩ := handOn_chosen old s
  have judged : (judgeMode z).pgv.lowest = z.pgv.lowest := by
    unfold judgeMode
    dsimp only
    split
    · rfl
    · split
      · rfl
      · split <;> rfl
  have put : ∀ (d : Side) (x : Drive) (q : State), q.pgv.lowest = s.pgv.lowest → (putDrive d x q).pgv.lowest = s.pgv.lowest :=
    fun d x q h => by
      rcases putDrive_pgv d x q with same | shut
      · rw [same, h]
      · rw [shut]; exact h
  have derived := deriveCommands_keeps (P := fun q => q.pgv.lowest = s.pgv.lowest) put
    (s := handOn old (chooseRoles s)) (congrArg Pgv.lowest pgv')
  rw [pgv, judged, hz]
  exact derived

theorem handOn_reportTimer {old s : State} (timer : s.yli.reportTimer = some s.intervalMs) :
    (handOn old s).yli.reportTimer = some s.intervalMs := by
  unfold handOn
  split
  · exact timer
  · have plug : ∀ q : State, q.yli = s.yli → q.plug = s.plug → (trigger q).yli.reportTimer = some s.intervalMs := by
      intro q yli plug
      unfold trigger
      split
      · rw [State.intervalMs, State.intervalMs, State.cfg, State.cfg, plug]
      · rw [yli]; exact timer
    exact plug _ rfl rfl

/-- What a pass of the settling leaves of a close. -/
theorem settleFrom_closed {old s : State} : (settleFrom old s).acu = { s.acu with silentWindow := (settleFrom old s).acu.silentWindow } ∧
    (settleFrom old s).ini = s.ini ∧ (settleFrom old s).pgv.lowest = s.pgv.lowest ∧ (settleFrom old s).oau = s.oau ∧
    (settleFrom old s).yli = { s.yli with
      reportTimer := (settleFrom old s).yli.reportTimer, reportDue := (settleFrom old s).yli.reportDue } ∧
    (settleFrom old s).intervalMs = s.intervalMs ∧
    (s.yli.reportTimer = some s.intervalMs → (settleFrom old s).yli.reportTimer = some s.intervalMs) ∧
    (settleFrom old s).rst = s.rst := by
  have plug : (settleFrom old s).plug = s.plug := settleFrom_plug old s
  have chosen : (chooseRoles s).yli = s.yli ∧ (chooseRoles s).plug = s.plug := by simp
  obtain ⟨yli, chosenPlug⟩ := chosen
  have interval : (chooseRoles s).intervalMs = s.intervalMs := by
    rw [State.intervalMs, State.intervalMs, State.cfg, State.cfg, chosenPlug]
  refine ⟨settleFrom_acu old s, settleFrom_ini old s, settleFrom_lowest old s, settleFrom_oau old s, settleFrom_yli_frame old s, ?_,
    fun timer => ?_, settleFrom_rst old s⟩
  · rw [State.intervalMs, State.intervalMs, State.cfg, State.cfg, plug]
  · rw [settleFrom_yli]
    generalize chooseRoles s = c at *
    rw [← interval]
    refine handOn_reportTimer ?_
    rw [yli, interval]
    exact timer

theorem eq_of_windowStandsOrEnded {w x : SilentWindow} {y : State} (ends : windowStandsOrEnded w y)
    (stands : x ∈ y.acu.silentWindow) : x = w := by
  rcases ends with same | ⟨none_, -⟩
  · exact Option.some.inj (Eq.trans (Eq.symm stands) same)
  · rw [none_] at stands
    cases stands

theorem windowStandsOrEnded_settle {w : SilentWindow} {s : State} (h : windowStandsOrEnded w s) :
    windowStandsOrEnded w (settle s) := by
  rw [settle_eq]
  exact windowStandsOrEnded_settleFrom h

theorem followsClose_settled {z y : State} (settles : y = settle z ∨ y = settle (settle z)) : FollowsClose z y := by
  obtain ⟨acu, ini, lowest, oau, yli, interval, timer, rst⟩ := settleFrom_closed (old := z) (s := z)
  have once : ∀ w, windowStandsOrEnded w z → windowStandsOrEnded w (settle z) := fun _ => windowStandsOrEnded_settle
  rw [← settle_eq] at *
  generalize settle z = u at *
  obtain ⟨acu', ini', lowest', oau', yli', -, timer', rst'⟩ := settleFrom_closed (old := u) (s := u)
  have twice : ∀ w, windowStandsOrEnded w u → windowStandsOrEnded w (settle u) := fun _ => windowStandsOrEnded_settle
  rw [← settle_eq] at *
  generalize settle u = v at *
  rcases settles with rfl | rfl
  · refine ⟨by rw [acu], fun w stood _ stands => eq_of_windowStandsOrEnded (once w (.inl stood)) stands, by rw [ini]; exact ⟨rfl, rfl⟩,
      fun h => by rw [lowest, h], by rw [State.isCurrent, oau]; rfl, by unfold State.isLatched; rw [oau]; exact id, yli, timer, rst⟩
  · refine ⟨?_, fun w stood _ stands => eq_of_windowStandsOrEnded (twice w (once w (.inl stood))) stands,
      by rw [ini', ini]; exact ⟨rfl, rfl⟩, fun h => by rw [lowest', lowest, h], by rw [State.isCurrent, oau', oau]; rfl,
      by unfold State.isLatched; rw [oau', oau]; exact id, ?_, fun h => ?_, rst'.trans rst⟩
    · rw [acu', acu]
    · rw [yli', yli]
    · rw [← interval]
      exact timer' (by rw [interval]; exact timer h)

/-! ## The minute of day moves onto a boundary, or passes one (R37, R161, R163) -/

/-- The state of an event whose clock has moved, before the minutes it has passed are judged. -/
structure ClockMoved (minute : Nat) (s q : State) : Prop where
  station : q.station = s.station
  counts : q.ini.inletCount = s.ini.inletCount ∧ q.ini.outletCount = s.ini.outletCount
  minute : q.ini.minute = minute
  rest : q.plug = s.plug ∧ q.srk = s.srk ∧ q.acu = s.acu ∧ q.rst = s.rst ∧ q.yli = s.yli
  balance : q.isCurrent .balance = s.isCurrent .balance

theorem ClockMoved.closesFrom {m : Nat} {s q : State} (moved : ClockMoved m s q) (working : s.working = true) (b : Option Nat) :
    ClosesFrom m s (servedAs b q) := by
  obtain ⟨station, counts, minute, ⟨plug, srk, acu, rst, yli⟩, balance⟩ := moved
  refine ⟨?_, counts, minute, plug, srk, ?_, rst, ?_, balance⟩
  · show q.working = true
    rw [State.working, station]
    exact working
  · rw [servedAs, acu]
  · have inFrame : (servedAs b q).yli.inFrame = s.yli.inFrame := congrArg Yli.inFrame yli
    rw [inFrame]
    exact yli

/-- A boundary other than the served one passed closes the period; what follows the close is left open (R161, R163). -/
theorem closedBy_of_passed {m n : Nat} {minutes : List Nat} {s q y : State} (moved : ClockMoved m s q)
    (working : s.working = true) (number : s.acu.period.number = some n) (passed : boundaryPassed minutes q)
    (follows : FollowsClose (passMinutes minutes q) y) :
    closedBy .ownBoundary n (nextPeriod n) m s (finish y) ∧ (finish y).acu.period.entries = y.acu.period.entries ∧
      (finish y).acu.served = none := by
  have began := moved.closesFrom working (servedAfter minutes q)
  have on : q.working = true := by rw [State.working, moved.station]; exact working
  have open_ : q.acu.period.number = some n := by rw [moved.rest.2.2.1]; exact number
  rw [passMinutes_of_passed on open_ passed] at follows
  exact closedBy_of began (closes_closePeriod began.working) follows

theorem entries_of_passed {n : Nat} {minutes : List Nat} {q : State} (working : q.working = true)
    (number : q.acu.period.number = some n) (passed : boundaryPassed minutes q) :
    (passMinutes minutes q).acu.period.entries = [] := by
  have closes := closes_closePeriod (n := n) (cause := .ownBoundary) (next := nextPeriod n)
    (q := servedAs (servedAfter minutes q) q) working
  rw [passMinutes_of_passed working number passed, closes.acu]
  rfl

/-- The books of an event that passes no boundary but the served one. -/
theorem books_of_none {m : Nat} {minutes : List Nat} {s q : State} (moved : ClockMoved m s q) (working : s.working = true)
    (none_ : ¬ boundaryPassed minutes q) : (passMinutes minutes q).acu = { s.acu with served := servedAfter minutes q } ∧
      (passMinutes minutes q).ini.inletCount = s.ini.inletCount ∧ (passMinutes minutes q).ini.outletCount = s.ini.outletCount := by
  have on : q.working = true := by rw [State.working, moved.station]; exact working
  rw [passMinutes_of_none on none_, servedAs, moved.rest.2.2.1]
  exact ⟨rfl, moved.counts⟩

theorem boundaryPassed_one {m : Nat} {q : State} : boundaryPassed [m] q ↔ m ∈ q.cfg.boundaries ∧ q.acu.served ≠ some m := by
  constructor
  · rintro ⟨b, boundary, among, other⟩
    rw [List.mem_singleton] at among
    subst among
    exact ⟨boundary, other⟩
  · exact fun ⟨boundary, other⟩ => ⟨m, boundary, List.mem_singleton.2 rfl, other⟩

theorem servedAfter_one {m : Nat} {q : State} (served : q.acu.served = some m) : servedAfter [m] q = none := by
  rw [servedAfter, served]
  simp

end Sys2Proof.Machine

end

/-! Boundaries and peer marks (R37, R161 to R163): the statement. -/

section

namespace Sys2Proof.Machine

/-! ## A minute step (R35, R36) -/

theorem stepMinute_eq (q : State) : stepMinute q =
    judgeCalls (passMinutes [(q.ini.minute + 1) % 1440] { q with ini := { q.ini with minute := (q.ini.minute + 1) % 1440 } }) := rfl

/-- A minute impulse heard, and its minute reached (R35). -/
def minuteReached (s : State) : State :=
  { impulseHeard none s with ini := { (impulseHeard none s).ini with minute := (s.ini.minute + 1) % 1440 } }

theorem clockMoved_minuteReached (s : State) : ClockMoved ((s.ini.minute + 1) % 1440) s (minuteReached s) :=
  ⟨rfl, ⟨rfl, rfl⟩, rfl, ⟨rfl, rfl, rfl, rfl, rfl⟩, (isCurrent_cease .clockLost .balance _).trans (by simp; rfl)⟩

theorem impulse_closes {s : State} {n : Nat} (supply : s.supply = true) (working : s.working = true)
    (runs : s.ini.impulse.isSome = true) (absorb : s.ini.absorb = none) (number : s.acu.period.number = some n)
    (boundary : (s.ini.minute + 1) % 1440 ∈ s.cfg.boundaries) :
    ∃ t, exec .minuteImpulse s = .next t ∧ t.acu.served = none ∧
      (s.acu.served ≠ some ((s.ini.minute + 1) % 1440) →
        closedBy .ownBoundary n (nextPeriod n) ((s.ini.minute + 1) % 1440) s t ∧ t.acu.period.entries = []) ∧
      (s.acu.served = some ((s.ini.minute + 1) % 1440) →
        booksStand s t ∧ t.ini.inletCount = s.ini.inletCount ∧ t.ini.outletCount = s.ini.outletCount) := by
  have done := exec_minuteImpulse supply runs
  rw [absorb, if_neg (by simp), stepMinute_eq] at done
  obtain ⟨q, hq⟩ : ∃ q, q = minuteReached s := ⟨_, rfl⟩
  have moved := clockMoved_minuteReached s
  have reached : exec .minuteImpulse s = .next (finish (judgeCalls (passMinutes [(s.ini.minute + 1) % 1440] q))) := by
    rw [hq]
    exact done
  rw [← hq] at moved
  clear done hq
  have cfg : q.cfg = s.cfg := by rw [State.cfg, moved.rest.1]; rfl
  have acu : q.acu = s.acu := moved.rest.2.2.1
  have on : q.working = true := by rw [State.working, moved.station]; exact working
  generalize (s.ini.minute + 1) % 1440 = m at *
  have passed : boundaryPassed [m] q ↔ s.acu.served ≠ some m := by
    rw [boundaryPassed_one, cfg, acu]
    exact ⟨And.right, fun other => ⟨boundary, other⟩⟩
  obtain ⟨p, hp⟩ : ∃ p, p = passMinutes [m] q := ⟨_, rfl⟩
  have tAcu : (finish (judgeCalls p)).acu = p.acu := by rw [finish_acu, judgeCalls_acu]
  have tIni : (finish (judgeCalls p)).ini = p.ini := by rw [finish_ini, judgeCalls_ini]
  rw [← hp] at reached
  by_cases same : s.acu.served = some m
  · obtain ⟨pAcu, inlet, outlet⟩ := books_of_none moved working (fun h => passed.1 h same)
    rw [← hp] at pAcu inlet outlet
    refine ⟨_, reached, ?_, fun other => absurd same other, fun _ => ⟨⟨?_, ?_⟩, by rw [tIni, inlet], by rw [tIni, outlet]⟩⟩
    · rw [tAcu, pAcu]
      exact servedAfter_one (by rw [acu]; exact same)
    · rw [tAcu, pAcu]
    · rw [tAcu, pAcu]
  · have closed := closedBy_of_passed moved working number (passed.2 same) (followsClose_judgeCalls _)
    have entries := entries_of_passed on (by rw [acu]; exact number) (passed.2 same)
    rw [← hp] at closed entries
    obtain ⟨closes, -, served⟩ := closed
    exact ⟨_, reached, served, fun _ => ⟨closes, by rw [tAcu]; exact entries⟩, fun h => absurd h same⟩

/-- The station's own count, and its minute reached (R36). -/
def minuteCounted (s : State) : State :=
  { s with ini := { s.ini with
      selfRun := min (s.ini.selfRun + 1) 3, absorb := some Config.absorbTime, impulse := some Config.impulseTime,
      minute := (s.ini.minute + 1) % 1440 } }

theorem clockMoved_minuteCounted (s : State) : ClockMoved ((s.ini.minute + 1) % 1440) s (minuteCounted s) :=
  ⟨rfl, ⟨rfl, rfl⟩, rfl, ⟨rfl, rfl, rfl, rfl, rfl⟩, rfl⟩

/-- The self-count run judged after the minutes are (R36; log 28). -/
theorem judgeRun_cases (z : State) : judgeRun z = z ∨
    (z.ini.selfRun = 3 ∧ judgeRun z = raiseWithEntry .clockLost .clockLost z) := by
  unfold judgeRun
  split
  · next run => exact .inr ⟨run, rfl⟩
  · exact .inl rfl

theorem followsClose_judgeRun {z : State} (room : z.acu.period.entries.length < 8) :
    FollowsClose z (judgeRun (judgeCalls z)) := by
  have calls := followsClose_judgeCalls z
  rcases judgeRun_cases (judgeCalls z) with still | ⟨-, raised⟩
  · rw [still]
    exact calls
  · rw [raised]
    have acu : (judgeCalls z).acu = z.acu := judgeCalls_acu z
    have plug : (judgeCalls z).plug = z.plug := judgeCalls_plug z
    have lost := followsClose_raiseWithEntry (k := .clockLost) (by decide) .clockLost (z := judgeCalls z) (by rw [acu]; exact room)
    obtain ⟨acu₁, window₁, ini₁, lowest₁, current₁, latched₁, yli₁, timer₁, rst₁⟩ := calls
    have interval : (judgeCalls z).intervalMs = z.intervalMs := by
      rw [State.intervalMs, State.intervalMs, State.cfg, State.cfg, plug]
    generalize judgeCalls z = c at *
    obtain ⟨acu₂, window₂, ini₂, lowest₂, current₂, latched₂, yli₂, timer₂, rst₂⟩ := lost
    refine ⟨?_, ?_, ⟨ini₂.1.trans ini₁.1, ini₂.2.trans ini₁.2⟩, lowest₂ ∘ lowest₁, current₂.trans current₁, latched₂ ∘ latched₁, ?_,
      fun h => ?_, rst₂.trans rst₁⟩
    · rw [acu₂, acu]
    · rw [← acu]
      exact window₂
    · rw [yli₂, yli₁]
    · rw [← interval]
      exact timer₂ (by rw [interval]; exact timer₁ h)

theorem judgeRun_acu {z : State} (working : z.working = true) : (judgeRun z).acu =
    if z.ini.selfRun = 3 ∧ z.isCurrent .clockLost = false then
      { z.acu with period := z.acu.period.addEntry { kind := .clockLost, minute := z.ini.minute } } else z.acu := by
  unfold judgeRun
  by_cases run : z.ini.selfRun = 3
  · rw [if_pos run]
    by_cases lost : z.isCurrent .clockLost = true
    · rw [raiseWithEntry, if_pos lost, if_neg (by simp [lost])]
    · have on : (raise .clockLost z).working = true := by rw [State.working, raise_station]; exact working
      rw [raiseWithEntry, if_neg lost, if_pos ⟨run, Bool.eq_false_iff.2 lost⟩, makeEntry, if_pos on]
      dsimp only
      rw [raise_acu, raise_ini]
  · rw [if_neg run, if_neg (fun h => run h.1)]

theorem count_closes {s : State} {n : Nat} (supply : s.supply = true) (working : s.working = true)
    (runs : s.ini.impulse.isSome = true) (number : s.acu.period.number = some n)
    (boundary : (s.ini.minute + 1) % 1440 ∈ s.cfg.boundaries) :
    ∃ t, exec .impulseTimerExpiry s = .next t ∧ t.acu.served = none ∧
      (s.acu.served ≠ some ((s.ini.minute + 1) % 1440) →
        closedBy .ownBoundary n (nextPeriod n) ((s.ini.minute + 1) % 1440) s t ∧
        t.acu.period.entries = (if 2 ≤ s.ini.selfRun ∧ s.isCurrent .clockLost = false then
          [{ kind := .clockLost, minute := (s.ini.minute + 1) % 1440 }] else [])) ∧
      (s.acu.served = some ((s.ini.minute + 1) % 1440) → t.acu.list = s.acu.list ∧
        t.acu.period.number = s.acu.period.number) := by
  have done := exec_impulseTimerExpiry supply runs
  rw [stepMinute_eq] at done
  obtain ⟨q, hq⟩ : ∃ q, q = minuteCounted s := ⟨_, rfl⟩
  have moved := clockMoved_minuteCounted s
  have counted : exec .impulseTimerExpiry s =
      .next (finish (judgeRun (judgeCalls (passMinutes [(s.ini.minute + 1) % 1440] q)))) := by
    rw [hq]
    exact done
  have selfRun : q.ini.selfRun = 3 ↔ 2 ≤ s.ini.selfRun := by
    rw [hq]
    show min (s.ini.selfRun + 1) 3 = 3 ↔ _
    omega
  have lost : q.isCurrent .clockLost = s.isCurrent .clockLost := by rw [hq]; rfl
  rw [← hq] at moved
  clear done hq
  have cfg : q.cfg = s.cfg := by rw [State.cfg, moved.rest.1]; rfl
  have acu : q.acu = s.acu := moved.rest.2.2.1
  have on : q.working = true := by rw [State.working, moved.station]; exact working
  have minute := moved.minute
  generalize (s.ini.minute + 1) % 1440 = m at *
  have passed : boundaryPassed [m] q ↔ s.acu.served ≠ some m := by
    rw [boundaryPassed_one, cfg, acu]
    exact ⟨And.right, fun other => ⟨boundary, other⟩⟩
  have kept := passMinutes_kept [m] q
  obtain ⟨p, hp⟩ : ∃ p, p = passMinutes [m] q := ⟨_, rfl⟩
  rw [← hp] at counted kept
  have calls : (judgeCalls p).working = true ∧ (judgeCalls p).acu = p.acu ∧ (judgeCalls p).ini.selfRun = q.ini.selfRun ∧
      (judgeCalls p).ini.minute = m ∧ (judgeCalls p).isCurrent .clockLost = q.isCurrent .clockLost := by
    refine ⟨?_, judgeCalls_acu p, ?_, ?_, ?_⟩
    · rw [State.working, judgeCalls_station, kept.station]; exact on
    · rw [judgeCalls_ini, kept.ini]
    · rw [judgeCalls_ini, kept.ini]; exact minute
    · rw [State.isCurrent, judgeCalls_oau, kept.current]; rfl
  obtain ⟨cWorking, cAcu, cRun, cMinute, cLost⟩ := calls
  have runAcu := judgeRun_acu cWorking
  rw [cAcu, cRun, cMinute, cLost, lost] at runAcu
  simp only [selfRun] at runAcu
  have tAcu : (finish (judgeRun (judgeCalls p))).acu = (judgeRun (judgeCalls p)).acu := finish_acu _
  by_cases same : s.acu.served = some m
  · obtain ⟨pAcu, -, -⟩ := books_of_none moved working (fun h => passed.1 h same)
    have none_ : servedAfter [m] q = none := servedAfter_one (by rw [acu]; exact same)
    rw [← hp, none_] at pAcu
    rw [pAcu] at runAcu
    refine ⟨_, counted, ?_, fun other => absurd same other, fun _ => ?_⟩
    · rw [tAcu, runAcu]
      split <;> rfl
    · rw [tAcu, runAcu]
      split
      · unfold OpenPeriod.addEntry
        dsimp only
        split <;> exact ⟨rfl, rfl⟩
      · exact ⟨rfl, rfl⟩
  · have empty := entries_of_passed on (by rw [acu]; exact number) (passed.2 same)
    rw [← hp] at empty
    have closed := closedBy_of_passed (y := judgeRun (judgeCalls p)) moved working number (passed.2 same)
      (by rw [← hp]; exact followsClose_judgeRun (by rw [empty]; decide))
    obtain ⟨closes, entries, served⟩ := closed
    refine ⟨_, counted, served, fun _ => ⟨closes, entries.trans ?_⟩, fun h => absurd h same⟩
    rw [runAcu]
    split
    · dsimp only
      rw [OpenPeriod.addEntry, if_pos (by rw [empty]; decide), empty]
      rfl
    · exact empty

/-! ## The synchronising impulse (R37) -/

theorem clockMoved_atSix (s : State) : ClockMoved 360 s (atSix s) :=
  ⟨rfl, ⟨rfl, rfl⟩, rfl, ⟨rfl, rfl, rfl, rfl, rfl⟩, (isCurrent_cease .clockLost .balance _).trans (by simp; rfl)⟩

theorem mem_minutesPassed {b m d : Nat} : b ∈ minutesPassed m d ↔ ∃ i, i < d ∧ b = (m + 1 + i) % 1440 := by
  simp only [minutesPassed, List.mem_map, List.mem_range]
  exact ⟨fun ⟨i, lt, eq⟩ => ⟨i, lt, eq.symm⟩, fun ⟨i, lt, eq⟩ => ⟨i, lt, eq.symm⟩⟩

theorem jump_closes {s : State} {n : Nat} (supply : s.supply = true) (working : s.working = true)
    (runs : s.ini.impulse.isSome = true) (number : s.acu.period.number = some n) :
    let d := (360 + 1440 - s.ini.minute % 1440) % 1440
    let passed := fun b => ∃ i, i < d ∧ b = (s.ini.minute + 1 + i) % 1440
    ∃ t, exec .synchronisingImpulse s = .next t ∧
      (1 ≤ d → d ≤ 720 → (∃ b ∈ s.cfg.boundaries, passed b ∧ s.acu.served ≠ some b) →
        closedBy .ownBoundary n (nextPeriod n) 360 s t ∧ t.acu.period.entries = [] ∧ t.acu.served = none) ∧
      (1 ≤ d → d ≤ 720 → (∀ b ∈ s.cfg.boundaries, passed b → s.acu.served = some b) →
        booksStand s t ∧ (∀ b ∈ s.acu.served, (passed b → t.acu.served = none) ∧ (¬ passed b → t.acu.served = some b))) ∧
      (d = 0 → booksStand s t ∧ t.acu.served = s.acu.served) ∧
      (720 < d → booksStand s t ∧ (∀ b ∈ s.acu.served, t.acu.served =
        if 30 < (b % 1440 + 1440 - 360) % 1440 then none else some b)) := by
  intro d passed
  have distance : minutesTo 360 s.ini.minute = d := rfl
  have done := exec_synchronisingImpulse supply runs
  have moved := clockMoved_atSix s
  generalize atSix s = q at *
  have cfg : q.cfg = s.cfg := by rw [State.cfg, moved.rest.1]; rfl
  have acu : q.acu = s.acu := moved.rest.2.2.1
  have on : q.working = true := by rw [State.working, moved.station]; exact working
  have among : ∀ b, b ∈ minutesPassed s.ini.minute d ↔ passed b := fun b => mem_minutesPassed
  have tAcu : ∀ p, (finish (judgeCalls p)).acu = p.acu := fun p => by rw [finish_acu, judgeCalls_acu]
  have forward : 1 ≤ d → d ≤ 720 → judgeJump s.ini.minute q = passMinutes (minutesPassed s.ini.minute d) q := fun low high => by
    rw [judgeJump, distance, if_neg (by omega), if_pos high]
  have isPassed : boundaryPassed (minutesPassed s.ini.minute d) q ↔ ∃ b ∈ s.cfg.boundaries, passed b ∧ s.acu.served ≠ some b := by
    unfold boundaryPassed
    rw [cfg, acu]
    simp only [among]
  refine ⟨_, done, fun low high passes => ?_, fun low high none_ => ?_, fun still => ?_, fun back => ?_⟩
  · rw [forward low high]
    obtain ⟨closes, entries, served⟩ :=
      closedBy_of_passed moved working number (isPassed.2 passes) (followsClose_judgeCalls _)
    refine ⟨closes, ?_, served⟩
    rw [tAcu]
    exact entries_of_passed on (by rw [acu]; exact number) (isPassed.2 passes)
  · rw [forward low high]
    have notPassed : ¬ boundaryPassed (minutesPassed s.ini.minute d) q := fun h => by
      obtain ⟨b, boundary, pass, other⟩ := isPassed.1 h
      exact other (none_ b boundary pass)
    obtain ⟨pAcu, -, -⟩ := books_of_none moved working notPassed
    rw [booksStand, tAcu, pAcu]
    refine ⟨⟨rfl, rfl⟩, fun b served => ⟨fun pass => ?_, fun away => ?_⟩⟩
    · show servedAfter _ q = none
      rw [servedAfter, acu, Option.mem_def.1 served, Option.filter_some, if_neg]
      simpa using (among b).2 pass
    · show servedAfter _ q = some b
      rw [servedAfter, acu, Option.mem_def.1 served, Option.filter_some, if_pos]
      simpa using fun h => away ((among b).1 h)
  · have jump : judgeJump s.ini.minute q = q := if_pos (distance.trans still)
    rw [booksStand, tAcu, jump, acu]
    exact ⟨⟨rfl, rfl⟩, rfl⟩
  · have jump : judgeJump s.ini.minute q = jumpBack q := by
      rw [judgeJump, distance, if_neg (by omega), if_neg (by omega)]
    rw [booksStand, tAcu, jump, jumpBack, acu]
    cases served : s.acu.served with
    | none =>
      rw [acu]
      exact ⟨⟨rfl, rfl⟩, fun b h => (by cases h)⟩
    | some b =>
      have away : minutesTo b q.ini.minute = (b % 1440 + 1440 - 360) % 1440 := by rw [moved.minute]; rfl
      dsimp only
      rw [away]
      refine ⟨?_, fun c h => ?_⟩
      · split
        · exact ⟨rfl, rfl⟩
        · rw [acu]; exact ⟨rfl, rfl⟩
      · obtain rfl := Option.some.inj h
        by_cases far : 30 < (b % 1440 + 1440 - 360) % 1440
        · rw [if_pos ⟨on, far⟩, if_pos far]
        · rw [if_neg (fun h => far h.2), if_neg far, acu, served]

end Sys2Proof.Machine

end

/-! A peer's mark closes the open period (R162, R163, R171), and the statement on closes. -/

section

namespace Sys2Proof.Machine

/-! ## The nearest boundary (R163) -/

theorem servedBoundary_concat (bs : List Nat) (b m : Nat) : servedBoundary (bs ++ [b]) m =
    if minutesTo b m ≤ 30 then
      match servedBoundary bs m with
      | some c => if minutesTo b m < minutesTo c m then some b else some c
      | none => some b
    else servedBoundary bs m := by
  unfold servedBoundary
  rw [List.foldl_append]
  rfl

/-- The boundary served by a peer's mark is the nearest, if one lies within 30 minutes (R163). -/
theorem servedBoundary_nearest (bs : List Nat) (m : Nat) :
    (∀ b ∈ servedBoundary bs m, b ∈ bs ∧ minutesTo b m ≤ 30 ∧ ∀ c ∈ bs, minutesTo b m ≤ minutesTo c m) ∧
    (servedBoundary bs m = none → ∀ b ∈ bs, 30 < minutesTo b m) := by
  induction bs using List.reverseRecOn with
  | nil => exact ⟨fun b h => (by cases h), fun _ b h => (by cases h)⟩
  | append_singleton bs b ih =>
    obtain ⟨nearest, far⟩ := ih
    rw [servedBoundary_concat]
    by_cases near : minutesTo b m ≤ 30
    · rw [if_pos near]
      cases before : servedBoundary bs m with
      | none =>
        refine ⟨fun x h => ?_, fun h => (by cases h)⟩
        obtain rfl := Option.some.inj h
        refine ⟨by simp, near, fun c among => ?_⟩
        rcases List.mem_append.1 among with old | new
        · have away := far before c old
          omega
        · rw [List.mem_singleton.1 new]
      | some c =>
        obtain ⟨boundary, within, least⟩ := nearest c before
        dsimp only
        refine ⟨fun x h => ?_, fun h => (by split at h <;> cases h)⟩
        split at h
        · next closer =>
          obtain rfl := Option.some.inj h
          refine ⟨by simp, near, fun e among => ?_⟩
          rcases List.mem_append.1 among with old | new
          · have away := least e old
            omega
          · rw [List.mem_singleton.1 new]
        · next farther =>
          obtain rfl := Option.some.inj h
          refine ⟨List.mem_append_left _ boundary, within, fun e among => ?_⟩
          rcases List.mem_append.1 among with old | new
          · exact least e old
          · rw [List.mem_singleton.1 new]
            omega
    · rw [if_neg near]
      refine ⟨fun x h => ?_, fun none_ e among => ?_⟩
      · obtain ⟨boundary, within, least⟩ := nearest x h
        refine ⟨List.mem_append_left _ boundary, within, fun e among => ?_⟩
        rcases List.mem_append.1 among with old | new
        · exact least e old
        · rw [List.mem_singleton.1 new]
          omega
      · rcases List.mem_append.1 among with old | new
        · exact far none_ e old
        · rw [List.mem_singleton.1 new]
          omega

/-! ## A peer's REPORT (R94, R162) -/

/-- A peer's REPORT heard, its entry made, and its period not yet judged. -/
theorem closesFrom_heard {s : State} (working : s.working = true) (tbl : List PeerEntry) :
    ClosesFrom s.ini.minute s (changeTable tbl (lineHeard (setInFrame false s))) ∧
      (changeTable tbl (lineHeard (setInFrame false s))).acu = s.acu := by
  obtain ⟨h, hh⟩ : ∃ h, h = lineHeard (setInFrame false s) := ⟨_, rfl⟩
  have frame := (lineHeard_frame s).1
  have alone : h.isCurrent .balance = s.isCurrent .balance := by
    rw [hh, lineHeard_of_working (s := setInFrame false s) working, isCurrent_cease]
    simp
    rfl
  rw [← hh] at frame ⊢
  clear hh
  have same : h.station = s.station ∧ h.ini = s.ini ∧ h.plug = s.plug ∧ h.srk = s.srk ∧ h.acu = s.acu ∧ h.rst = s.rst ∧
      h.yli = { s.yli with inFrame := false } := by
    rw [frame]
    exact ⟨rfl, rfl, rfl, rfl, rfl, rfl, rfl⟩
  obtain ⟨station, ini, plug, srk, acu, rst, yli⟩ := same
  have tAcu : (changeTable tbl h).acu = s.acu := by rw [changeTable_acu, acu]
  refine ⟨⟨?_, ?_, ?_, ?_, ?_, ?_, ?_, ?_, ?_⟩, tAcu⟩
  · rw [State.working, changeTable_station, station]
    exact working
  · rw [changeTable_ini, ini]
    exact ⟨rfl, rfl⟩
  · rw [changeTable_ini, ini]
  · rw [changeTable_plug, plug]
  · rw [changeTable_srk, srk]
  · rw [tAcu]
  · rw [changeTable_rst, rst]
  · rw [changeTable_yli, yli]
  · rw [State.isCurrent, changeTable_oau]
    exact alone

theorem settled_acu {z y : State} (settles : y = settle z ∨ y = settle (settle z)) :
    y.acu = { z.acu with silentWindow := y.acu.silentWindow } := by
  have once := settleFrom_acu z z
  rw [← settle_eq] at once
  generalize settle z = u at *
  have twice := settleFrom_acu u u
  rw [← settle_eq] at twice
  generalize settle u = v at *
  rcases settles with rfl | rfl
  · exact once
  · rw [twice, once]

theorem peerPeriod_of_zero (s : State) : peerPeriod 0 s = s := if_pos rfl

theorem peerPeriod_of_unset {p : Nat} {s : State} (number : s.acu.period.number = none) : (peerPeriod p s).acu =
    { s.acu with period := { s.acu.period with number := if p = 0 then none else some p } } := by
  unfold peerPeriod
  by_cases zero : p = 0
  · rw [if_pos zero, if_pos zero, ← number]
  · rw [if_neg zero, if_neg zero, number]

theorem peerPeriod_of_ahead {p n : Nat} {s : State} (number : s.acu.period.number = some n) (set_ : p ≠ 0)
    (ahead : aheadOf p n = true) : peerPeriod p s = closePeriod n .peerMark p s := by
  rw [peerPeriod, if_neg set_, number]
  exact if_pos ahead

theorem peerPeriod_of_behind {p n : Nat} {s : State} (number : s.acu.period.number = some n)
    (behind : p = 0 ∨ aheadOf p n = false) : peerPeriod p s = s := by
  unfold peerPeriod
  rcases behind with zero | behind
  · exact if_pos zero
  · rw [number]
    dsimp only
    rw [behind]
    exact ite_self _

theorem mark_closes {chars : List LineChar} {r : StartReadings} {s : State} {data body : List Byte} {bad : Bool} {p d : Nat}
    (supply : s.supply = true) (working : s.working = true) (silent : s.yli.tx ≠ .sending)
    (gathered : gather chars = (data, bad, some .close)) (valid : judgeFrame false bad data = .valid p d .report body)
    (low : 1 ≤ p) (high : p ≤ 16) (peer : p ≠ s.number) (accepted : d = 0 ∨ d = s.number) :
    let q := fieldAt body 0 2
    let away := fun b : Nat => (b % 1440 + 1440 - s.ini.minute % 1440) % 1440
    let ahead := fun n : Nat => (q % 65536 + 65536 - n % 65536) % 65536
    ∃ t, exec (.frameReceived chars r) s = .next t ∧
      (∀ n ∈ s.acu.period.number, q ≠ 0 → 1 ≤ ahead n → ahead n ≤ 32767 →
        closedBy .peerMark n q s.ini.minute s t ∧ t.acu.period.entries = [] ∧
        (∀ b ∈ t.acu.served, b ∈ s.cfg.boundaries ∧ away b ≤ 30 ∧ ∀ c ∈ s.cfg.boundaries, away b ≤ away c) ∧
        (t.acu.served = none → ∀ b ∈ s.cfg.boundaries, 30 < away b)) ∧
      (∀ n ∈ s.acu.period.number, q = 0 ∨ ahead n = 0 ∨ 32768 ≤ ahead n →
        booksStand s t ∧ t.acu.served = s.acu.served) ∧
      (s.acu.period.number = none → t.acu.list = s.acu.list ∧
        t.acu.period = { s.acu.period with number := if q = 0 then none else some q }) := by
  intro q away ahead
  have done := exec_frameReceived_of_valid (r := r) supply (onLine_of_working working) silent gathered valid
  have whole := validMessage_of_peer (s := setInFrame false s) working low high peer accepted body r
  obtain ⟨z, hz⟩ : ∃ z, z = peerHeard p body (lineHeard (setInFrame false s)) := ⟨_, rfl⟩
  obtain ⟨began, gAcu⟩ := closesFrom_heard working
    (enterPeer (entryOfReport p body) (lineHeard (setInFrame false s)).ysu.table)
  have heard : z = peerPeriod q (changeTable (enterPeer (entryOfReport p body) (lineHeard (setInFrame false s)).ysu.table)
      (lineHeard (setInFrame false s))) := hz
  dsimp only at whole
  rw [← hz] at whole
  clear hz
  generalize changeTable (enterPeer (entryOfReport p body) (lineHeard (setInFrame false s)).ysu.table)
    (lineHeard (setInFrame false s)) = g at *
  rw [whole] at done
  obtain ⟨y, hy⟩ : ∃ y, y = if (setInFrame false s).isCurrent .alone = true then settle (settle z) else settle z := ⟨_, rfl⟩
  rw [← hy] at done
  have settles : y = settle z ∨ y = settle (settle z) := by
    rw [hy]
    split
    · exact .inr rfl
    · exact .inl rfl
  clear hy whole
  have tAcu : (finish y).acu = y.acu := finish_acu y
  have yAcu := settled_acu settles
  refine ⟨_, done, fun n number set_ lower upper => ?_, fun n number behind => ?_, fun unset => ?_⟩
  · have numbered : g.acu.period.number = some n := by rw [gAcu]; exact number
    rw [peerPeriod_of_ahead numbered set_ ((aheadOf_iff q n).2 ⟨lower, upper⟩)] at heard
    have closes : Closes n .peerMark q g z := heard ▸ closes_closePeriod began.working
    obtain ⟨closed, -, served⟩ := closedBy_of began closes (followsClose_settled settles)
    have boundaries : servedBy .peerMark (takeMeters g) = servedBoundary s.cfg.boundaries s.ini.minute := by
      obtain ⟨-, -, cfg, minute⟩ := takeMeters_from began
      rw [servedBy, cfg, minute]
    obtain ⟨nearest, far⟩ := servedBoundary_nearest s.cfg.boundaries s.ini.minute
    rw [served, boundaries]
    refine ⟨closed, ?_, nearest, far⟩
    rw [tAcu, yAcu, closes.acu]
    rfl
  · have numbered : g.acu.period.number = some n := by rw [gAcu]; exact number
    have notAhead : q = 0 ∨ aheadOf q n = false := behind.imp_right fun off => by
      rw [Bool.eq_false_iff, Ne, aheadOf_iff]
      show ¬ (1 ≤ ahead n ∧ ahead n ≤ 32767)
      omega
    rw [peerPeriod_of_behind numbered notAhead] at heard
    rw [booksStand, tAcu, yAcu, heard, gAcu]
    exact ⟨⟨rfl, rfl⟩, rfl⟩
  · have open_ : g.acu.period.number = none := by rw [gAcu]; exact unset
    have zAcu : z.acu = { s.acu with period := { s.acu.period with number := if q = 0 then none else some q } } := by
      rw [heard, peerPeriod_of_unset open_, gAcu]
    rw [tAcu, yAcu, zAcu]
    exact ⟨rfl, rfl⟩

/-- Settles O26. -/
theorem boundariesAndPeerMarksCloseThePeriod : Obligations.BoundariesAndPeerMarksCloseThePeriod :=
  ⟨fun _ _ supply working runs absorb number boundary => impulse_closes supply working runs absorb number boundary,
    fun _ _ supply working runs number boundary => count_closes supply working runs number boundary,
    fun _ _ supply working runs number => jump_closes supply working runs number,
    fun _ _ _ _ _ _ _ _ supply working silent gathered valid low high peer accepted =>
      mark_closes supply working silent gathered valid low high peer accepted⟩

end Sys2Proof.Machine

end

/-! Volume, stock, factor and the lifts by pressure by their formulas, and their ranges (R11, R17 to R19). -/

section

namespace Sys2Proof

/-! ## The volume (R11) -/

/-- The part of the volume that a lift gives, its base at the sum of the travels below it and a height counted from `base`. -/
def liftPart (lifts : List Lift) (base h i : Nat) : Nat := ((lifts[i]?.map Lift.area).getD 0) *
  min (h - (base + ((lifts.take i).map Lift.travel).sum)) ((lifts[i]?.map Lift.travel).getD 0)

theorem holderVolume_eq_sum (h : Nat) (lifts : List Lift) : ∀ base,
    holderVolume h base lifts = ((List.range lifts.length).map (liftPart lifts base h)).sum := by
  induction lifts with
  | nil => exact fun _ => rfl
  | cons l rest ih =>
    intro base
    have tail : ∀ i, liftPart (l :: rest) base h (i + 1) = liftPart rest (base + l.travel) h i := fun i => by
      simp only [liftPart, List.getElem?_cons_succ, List.take_succ_cons, List.map_cons, List.sum_cons, Nat.add_assoc]
    rw [holderVolume, ih, List.length_cons, List.range_succ_eq_map, List.map_cons, List.map_map, List.sum_cons]
    congr 1
    congr 2
    exact funext fun i => (tail i).symm

theorem fullVolume_le {lifts : List Lift} (areas : ∀ l ∈ lifts, l.area ≤ 60000) :
    fullVolume lifts ≤ 60000 * totalTravel lifts := by
  unfold fullVolume totalTravel
  induction lifts with
  | nil => exact le_rfl
  | cons l rest ih =>
    have here : l.area * l.travel ≤ 60000 * l.travel := Nat.mul_le_mul_right _ (areas l List.mem_cons_self)
    have there := ih fun x among => areas x (List.mem_cons_of_mem _ among)
    simp only [List.map_cons, List.sum_cons]
    omega

/-! ## The lifts by pressure (R19) -/

/-- The bands of some lifts that hold a pressure. -/
def bandsHolding (pg : Nat) (lifts : List Lift) : List Bool := lifts.map fun l => decide (l.bandLow ≤ pg ∧ pg ≤ l.bandHigh)

theorem liftsByPressure_spec (pg : Nat) (lifts : List Lift) : ∀ k, 1 ≤ k →
    (liftsByPressure pg k lifts = 0 ∧ true ∉ bandsHolding pg lifts) ∨
    (k ≤ liftsByPressure pg k lifts ∧ (bandsHolding pg lifts)[liftsByPressure pg k lifts - k]? = some true ∧
      true ∉ (bandsHolding pg lifts).take (liftsByPressure pg k lifts - k)) := by
  induction lifts with
  | nil => exact fun _ _ => .inl ⟨rfl, by simp [bandsHolding]⟩
  | cons l rest ih =>
    intro k positive
    have bands : bandsHolding pg (l :: rest) = decide (l.bandLow ≤ pg ∧ pg ≤ l.bandHigh) :: bandsHolding pg rest := rfl
    rw [liftsByPressure, bands]
    by_cases within : l.bandLow ≤ pg ∧ pg ≤ l.bandHigh
    · rw [if_pos within]
      exact .inr ⟨le_rfl, by simp [within], by simp⟩
    · rw [if_neg within, decide_eq_false within]
      rcases ih (k + 1) (by omega) with ⟨zero, out⟩ | ⟨low, found, before⟩
      · exact .inl ⟨zero, by simp [out]⟩
      · have step : liftsByPressure pg (k + 1) rest - k = liftsByPressure pg (k + 1) rest - (k + 1) + 1 := by omega
        rw [step]
        exact .inr ⟨by omega, by simpa using found, by simpa using before⟩

/-! ## Quotients rounded half up (R17) -/

theorem roundHalfUp_le {n d m : Nat} (positive : 0 < d) (small : 2 * n < d * (2 * m + 1)) : roundHalfUp n d ≤ m := by
  have split_ := Nat.div_add_mod n d
  have rest := Nat.mod_lt n positive
  have product : d * (2 * m + 1) = 2 * (d * m) + d := by ring
  unfold roundHalfUp
  by_contra more
  split at more
  · have large : d * m ≤ d * (n / d) := Nat.mul_le_mul_left d (by omega)
    omega
  · have large : d * (m + 1) ≤ d * (n / d) := Nat.mul_le_mul_left d (by omega)
    rw [Nat.mul_succ] at large
    omega

theorem le_roundHalfUp {n d m : Nat} (positive : 0 < d) (large : d * (2 * m + 1) ≤ 2 * n) : m + 1 ≤ roundHalfUp n d := by
  have split_ := Nat.div_add_mod n d
  have rest := Nat.mod_lt n positive
  have product : d * (2 * m + 1) = 2 * (d * m) + d := by ring
  unfold roundHalfUp
  by_contra less
  split at less
  · have small : d * (n / d + 1) ≤ d * m := Nat.mul_le_mul_left d (by omega)
    rw [Nat.mul_succ] at small
    omega
  · have small : d * (n / d) ≤ d * m := Nat.mul_le_mul_left d (by omega)
    omega

theorem roundHalfUp_zero {d : Nat} (positive : 0 < d) : roundHalfUp 0 d = 0 := by
  unfold roundHalfUp
  rw [Nat.zero_div, Nat.zero_mod, if_neg (by omega)]

/-! ## The ranges (R17, R18) -/

theorem standardStock_le {v peff k : Nat} (volume : v ≤ 3900000000) (pressure : peff ≤ 11400) (cold : 2532 ≤ k) :
    standardStock v peff k ≤ 499999 := by
  have product : v * peff ≤ 3900000000 * 11400 := Nat.mul_le_mul volume pressure
  refine roundHalfUp_le (by omega) ?_
  omega

theorem correctionFactor_bounds {peff k : Nat} (low : 8262 ≤ peff) (high : peff ≤ 11400) (cold : 2532 ≤ k) (hot : k ≤ 3232) :
    47653 ≤ correctionFactor peff k ∧ correctionFactor peff k ≤ 83931 := by
  refine ⟨le_roundHalfUp (m := 47652) (by omega) (by omega), roundHalfUp_le (by omega) (by omega)⟩

namespace Machine

theorem Settings_areas_le {p : Settings} (valid : p.valid = true) : ∀ l ∈ p.lifts, l.area ≤ 60000 := fun l among => by
  have lift := Settings.lifts_valid valid l among
  unfold Lift.valid at lift
  rw [decide_eq_true_iff] at lift
  exact lift.2.1

/-- Settles O17. -/
theorem volumeStockAndFactorByTheirFormulas : Obligations.VolumeStockAndFactorByTheirFormulas := by
  refine ⟨fun s supply working timer => ?_, fun s supply working timer law valid => ?_⟩
  · obtain ⟨t, st, done, record⟩ := exec_reckoning_record supply working timer
    refine ⟨t, done, ?_⟩
    rw [record]
    dsimp only
    refine ⟨?_, fun _ => ⟨rfl, rfl⟩, fun substituted => ?_, fun measured => ?_⟩
    · have sum := holderVolume_eq_sum (acceptedHeight s) s.cfg.lifts 0
      unfold liftPart at sum
      simp only [Nat.zero_add] at sum
      exact sum
    · show pressureCount s _ _ = _
      rw [pressureCount, if_pos (by simp [substituted])]
      rfl
    · have count : (reckonedRecord s).liftsByPressure = liftsByPressure (reckonedRecord s).gaugeUsed 1 s.cfg.lifts :=
        if_neg (by simp [Option.isSome_iff_ne_none.1 measured])
      rw [count]
      rcases liftsByPressure_spec (reckonedRecord s).gaugeUsed s.cfg.lifts 1 le_rfl with ⟨zero, out⟩ | ⟨low, found, before⟩
      · exact ⟨fun _ => out, fun some => by omega⟩
      · exact ⟨fun none_ => by omega, fun _ => ⟨found, before⟩⟩
  · obtain ⟨t, st, done, record⟩ := exec_reckoning_record supply working timer
    obtain ⟨-, low, high, -, -, -, cold, hot, -, factor, stock⟩ := pressureAndTemperatureFollowTheTable.2 s law valid
    have total : totalTravel s.cfg.lifts ≤ 65000 := (valid_iff s.cfg).1 valid |>.2.2.1
    have volume : (reckonedRecord s).vRaw ≤ 3900000000 := by
      have full := holderVolume_le_full (acceptedHeight s) 0 s.cfg.lifts
      have area := fullVolume_le (Settings_areas_le valid)
      rw [reckonedRecord_vRaw]
      omega
    refine ⟨t, done, ?_⟩
    rw [record]
    dsimp only
    rw [stock, factor]
    obtain ⟨least, most⟩ := correctionFactor_bounds low high cold hot
    refine ⟨standardStock_le volume high cold, least, most, fun empty => ?_, ?_⟩
    · rw [empty, standardStock, Nat.zero_mul, Nat.zero_mul]
      exact roundHalfUp_zero (by omega)
    · exact gaugeTaken_le law.2.1 (Settings.lifts_valid valid) _

end Machine

end Sys2Proof

end

/-! What the readers of a new record leave of the books and of the windows (R64, R66, R154 to R160). -/

section

namespace Sys2Proof.Machine

/-! ## Event entries (R157) -/

/-- The books of `q` and `t` differ in at most `n` event entries, offered in `t` behind those of `q`, and in the meter-silent
window; the figures stand. -/
structure Logged (n : Nat) (q t : State) : Prop where
  acu : t.acu = { q.acu with
    period := { q.acu.period with
      entries := t.acu.period.entries
      flags := { q.acu.period.flags with eventsLost := t.acu.period.flags.eventsLost } }
    silentWindow := t.acu.silentWindow }
  grows : q.acu.period.entries <+: t.acu.period.entries
  length : t.acu.period.entries.length ≤ q.acu.period.entries.length + n
  full : 8 ≤ q.acu.period.entries.length → t.acu.period.entries = q.acu.period.entries
  lost : q.acu.period.flags.eventsLost = true → t.acu.period.flags.eventsLost = true

namespace Logged

variable {n m : Nat} {q t u : State}

theorem ofAcu (same : t.acu = { q.acu with silentWindow := t.acu.silentWindow }) : Logged n q t := by
  have period : t.acu.period = q.acu.period := by rw [same]
  refine ⟨?_, ?_, ?_, ?_, ?_⟩
  · rw [period]
    exact same
  · rw [period]
  · rw [period]
    omega
  · rw [period]
    exact fun _ => rfl
  · rw [period]
    exact id

theorem ofSame (same : t.acu = q.acu) : Logged n q t := ofAcu (by rw [same])

theorem refl (q : State) : Logged n q q := ofSame rfl

theorem trans (h : Logged n q t) (k : Logged m t u) : Logged (n + m) q u := by
  obtain ⟨acu, grows, length, full, lost⟩ := h
  obtain ⟨acu', grows', length', full', lost'⟩ := k
  refine ⟨?_, grows.trans grows', by omega, fun more => ?_, lost' ∘ lost⟩
  · rw [acu', acu]
  · rw [full' (by rw [full more]; exact more), full more]

/-- The rule rests on the books that it begins with. -/
theorem after {p : State} (h : Logged n q t) (same : q.acu = p.acu) : Logged n p t := by
  obtain ⟨acu, grows, length, full, lost⟩ := h
  rw [same] at *
  exact ⟨acu, grows, length, full, lost⟩

theorem mono (h : Logged n q t) (le : n ≤ m) : Logged m q t :=
  ⟨h.acu, h.grows, h.length.trans (by omega), h.full, h.lost⟩

theorem mem (h : Logged n q t) {e : EventEntry} (stands : e ∈ q.acu.period.entries) : e ∈ t.acu.period.entries :=
  h.grows.subset stands

theorem makeEntry (k : EventKind) (q : State) : Logged 1 q (makeEntry k q) := by
  unfold Machine.makeEntry
  split
  · unfold OpenPeriod.addEntry
    split
    · next room => exact ⟨rfl, List.prefix_append _ _, by simp, fun more => by omega, id⟩
    · exact ⟨rfl, List.prefix_rfl, by dsimp only; omega, fun _ => rfl, fun _ => rfl⟩
  · exact refl q

theorem raise (k : AlarmKind) (q : State) : Logged n q (raise k q) := ofSame (raise_acu k q)

theorem raiseWithEntry (k : AlarmKind) (e : EventKind) (q : State) : Logged 1 q (raiseWithEntry k e q) := by
  unfold Machine.raiseWithEntry
  split
  · exact refl q
  · exact (raise (n := 0) k q).trans (.makeEntry e _)

theorem signalGrade (st : StockStatus) (q : State) : Logged 1 q (signalGrade st q) := by
  cases st with
  | valid => exact ofSame rfl
  | doubtful => exact ofSame rfl
  | held => exact (makeEntry _ _).after rfl
  | invalid => exact (makeEntry _ _).after (raise_acu _ q)

theorem reckon (q : State) : Logged 1 q (reckon q) := by
  unfold Machine.reckon
  dsimp only
  split
  · exact (signalGrade _ _).after rfl
  · exact ofSame rfl

theorem liftCheck (q : State) : Logged 1 q (liftCheck q) := by
  unfold Machine.liftCheck
  split
  · split
    · dsimp only
      split <;> exact ofSame rfl
    · dsimp only
      split
      · exact (raiseWithEntry _ _ _).after rfl
      · exact ofSame rfl
  · exact refl q

theorem judgeLimitGuard (q : State) : Logged 1 q (judgeLimitGuard q) := by
  unfold Machine.judgeLimitGuard
  split
  · exact .raiseWithEntry _ _ _
  · exact ofSame rfl

theorem countLossWindow (q : State) : Logged 1 q (countLossWindow q) := by
  unfold Machine.countLossWindow
  split
  · split
    · exact ofSame (judgeLossWindow_acu q)
    · dsimp only
      split
      · unfold testLossWindow
        dsimp only
        split
        · exact (raiseWithEntry _ _ _).after rfl
        · exact ofSame rfl
      · exact ofSame rfl
  · exact ofSame (judgeLossWindow_acu q)

theorem movementRecord (q : State) : Logged 3 q (movementRecord q) := by
  have last : ∀ x : State, Logged 0 x (judgeTurnover (countRest (countCycle x))) := fun x =>
    ofSame (by rw [judgeTurnover_frame, countRest_frame, countCycle_frame])
  have placed : Logged 0 q (placeRecord q) := ofSame rfl
  exact placed.trans ((liftCheck _).trans ((judgeLimitGuard _).trans ((countLossWindow _).trans (last _))))

theorem judgeSilentWindow (q : State) : Logged n q (judgeSilentWindow q) := ofAcu (judgeSilentWindow_acu q)

theorem regrade (q : State) : Logged 1 q (regrade q) := by
  unfold Machine.regrade
  split
  · dsimp only
    split
    · exact refl q
    · have windows : ∀ x : State, Logged 0 x (Machine.judgeSilentWindow (judgeLossWindow x)) := fun x =>
        (judgeSilentWindow _).after (judgeLossWindow_acu x)
      exact ((signalGrade _ _).trans (windows _)).after rfl
  · exact refl q

theorem settleFrom (old q : State) : Logged n q (settleFrom old q) := ofAcu (settleFrom_acu old q)

end Logged

/-- A kind newly raised where the period has room has its entry (R157, R176). -/
theorem mem_raiseWithEntry {k : AlarmKind} {e : EventKind} {q : State} (working : q.working = true)
    (room : q.acu.period.entries.length < 8) (free : q.isCurrent k = false) :
    { kind := e, minute := q.ini.minute } ∈ (raiseWithEntry k e q).acu.period.entries := by
  have on : (raise k q).working = true := by rw [State.working, raise_station]; exact working
  have place : (raise k q).acu.period.entries.length < 8 := by rw [raise_acu]; exact room
  have stands := mem_makeEntry (k := e) on place
  rw [raise_ini] at stands
  rw [raiseWithEntry, if_neg (by simp [free])]
  exact stands

/-! ## The meter-silent check (R158, R159) -/

/-- The meter-silent check finds the outlet silent at this record (R159). -/
def silentFound (q : State) : Bool :=
  q.silentWindowHolds && (match q.acu.silentWindow with
    | some w => decide (60 ≤ w.count + 1) && foundSilent q { w with count := w.count + 1 }
    | none => false)

/-- The meter-silent check tests a window at this record (R159). -/
def silentTested (q : State) : Bool :=
  q.silentWindowHolds && (match q.acu.silentWindow with
    | some w => decide (60 ≤ w.count + 1)
    | none => false)

/-- The period marked by a test that finds the outlet silent (R159). -/
def silentMarked (q : State) : State :=
  { q with acu := { q.acu with period := { q.acu.period with
      flags := { q.acu.period.flags with meterSilent := q.acu.period.flags.meterSilent || silentFound q } } } }

/-- The window that a record leaves where its conditions hold (R158, R159). -/
def nextSilentWindow (q : State) : SilentWindow :=
  match q.acu.silentWindow with
  | none => q.newSilentWindow
  | some w => if 60 ≤ w.count + 1 then q.newSilentWindow else { w with count := w.count + 1 }

theorem silentMarked_of_none {q : State} (none_ : silentFound q = false) : silentMarked q = q := by
  unfold silentMarked
  rw [none_, Bool.or_false]

/-- What the meter-silent check of a new record leaves (R158, R159). -/
structure SilentChecked (q t : State) : Prop where
  log : Logged 1 (silentMarked q) t
  window : (q.silentWindowHolds = false → t.acu.silentWindow = none) ∧
    (q.silentWindowHolds = true → t.acu.silentWindow = some (nextSilentWindow q))
  current : t.isCurrent .meterSilent = if silentTested q = true then silentFound q else q.isCurrent .meterSilent
  entry : q.working = true → q.acu.period.entries.length < 8 → t.isCurrent .meterSilent = true →
    q.isCurrent .meterSilent = false → { kind := .meterSilent, minute := q.ini.minute } ∈ t.acu.period.entries

theorem silentChecked_of_untested {q t : State} (untested : silentTested q = false)
    (acu : t.acu = { q.acu with silentWindow := t.acu.silentWindow })
    (window : (q.silentWindowHolds = false → t.acu.silentWindow = none) ∧
      (q.silentWindowHolds = true → t.acu.silentWindow = some (nextSilentWindow q))) (oau : t.oau = q.oau) :
    SilentChecked q t := by
  have notFound : silentFound q = false := by
    unfold silentTested at untested
    unfold silentFound
    cases holds : q.silentWindowHolds with
    | false => rfl
    | true =>
      rw [holds, Bool.true_and] at untested
      cases stood : q.acu.silentWindow with
      | none => rfl
      | some w =>
        rw [stood] at untested
        dsimp only at untested ⊢
        rw [untested]
        rfl
  have current : t.isCurrent .meterSilent = q.isCurrent .meterSilent := by rw [State.isCurrent, oau]; rfl
  refine ⟨?_, window, ?_, fun _ _ now before => ?_⟩
  · rw [silentMarked_of_none notFound]
    exact .ofAcu acu
  · rw [current, untested]
    rfl
  · rw [current, before] at now
    cases now

theorem silentChecked_countSilentWindow (q : State) : SilentChecked q (countSilentWindow q) := by
  unfold countSilentWindow
  cases holds : q.silentWindowHolds with
  | false =>
    rw [if_neg (by simp)]
    refine silentChecked_of_untested (by simp [silentTested, holds]) (judgeSilentWindow_acu q) ⟨fun _ => ?_, fun h => ?_⟩
      (judgeSilentWindow_oau q)
    · rw [judgeSilentWindow, if_neg (by simp [holds])]
    · simp [holds] at h
  | true =>
    rw [if_pos rfl]
    cases stood : q.acu.silentWindow with
    | none =>
      dsimp only
      refine silentChecked_of_untested (by simp [silentTested, stood]) (judgeSilentWindow_acu q) ⟨fun h => ?_, fun _ => ?_⟩
        (judgeSilentWindow_oau q)
      · simp [holds] at h
      · rw [judgeSilentWindow, if_pos holds, if_neg (by simp [stood]), nextSilentWindow, stood]
    | some w =>
      dsimp only
      by_cases due : 60 ≤ w.count + 1
      · rw [if_pos due]
        have tested : silentTested q = true := by simp [silentTested, holds, stood, due]
        have found : silentFound q = foundSilent q { w with count := w.count + 1 } := by simp [silentFound, holds, stood, due]
        have next : nextSilentWindow q = q.newSilentWindow := by rw [nextSilentWindow, stood]; exact if_pos due
        unfold testSilentWindow
        dsimp only
        rw [← found]
        cases silent : silentFound q with
        | false =>
          rw [if_neg (by simp)]
          refine ⟨?_, ⟨fun h => by simp [holds] at h, fun _ => ?_⟩, ?_, fun _ _ now => ?_⟩
          · rw [silentMarked_of_none silent]
            exact .ofAcu rfl
          · rw [next]; rfl
          · rw [if_pos tested, isCurrent_cease, silent]
            simp
          · rw [isCurrent_cease] at now
            simp at now
        | true =>
          rw [if_pos rfl]
          obtain ⟨p, hp⟩ : ∃ p : State, p = { q with acu := { q.acu with
              silentWindow := some q.newSilentWindow
              period := { q.acu.period with flags := { q.acu.period.flags with meterSilent := true } } } } := ⟨_, rfl⟩
          have marked : silentMarked q = { q with acu := { q.acu with
              period := { q.acu.period with flags := { q.acu.period.flags with meterSilent := true } } } } := by
            rw [silentMarked, silent, Bool.or_true]
          have log : Logged 1 (silentMarked q) (raiseWithEntry .meterSilent .meterSilent p) :=
            (Logged.ofAcu (n := 0) (by rw [hp, marked])).trans (.raiseWithEntry _ _ _)
          rw [← hp]
          refine ⟨log, ⟨fun h => by simp [holds] at h, fun _ => ?_⟩, ?_, fun working room _ free => ?_⟩
          · rw [raiseWithEntry_silentWindow, hp, next]
          · rw [if_pos tested, isCurrent_raiseWithEntry, silent]
            simp
          · have on : p.working = true := by rw [hp]; exact working
            have place : p.acu.period.entries.length < 8 := by rw [hp]; exact room
            have not_ : p.isCurrent .meterSilent = false := by rw [hp]; exact free
            have stands := mem_raiseWithEntry (e := .meterSilent) on place not_
            have minute : p.ini.minute = q.ini.minute := by rw [hp]
            rwa [minute] at stands
      · rw [if_neg due]
        refine silentChecked_of_untested (by simp [silentTested, stood]; omega) rfl
          ⟨fun h => by simp [holds] at h, fun _ => ?_⟩ rfl
        rw [nextSilentWindow, stood]
        exact congrArg some (if_neg due).symm

end Sys2Proof.Machine

end

/-! The two windows from a record to the end of its event (R64, R66, R158). -/

section

namespace Sys2Proof.Machine

/-! ## The meter-silent window follows its conditions (R158) -/

/-- The meter-silent window is a given one while its conditions hold, and absent while they do not (R158). -/
def silentFollows (w : SilentWindow) (s : State) : Prop :=
  (s.silentWindowHolds = true → s.acu.silentWindow = some w) ∧ (s.silentWindowHolds = false → s.acu.silentWindow = none)

theorem silentFollows_judged {w : SilentWindow} {s : State} (h : s.silentWindowHolds = true → s.acu.silentWindow = some w) :
    silentFollows w (judgeSilentWindow s) := by
  have same : (judgeSilentWindow s).silentWindowHolds = s.silentWindowHolds := by simp [State.silentWindowHolds, State.working]
  rw [silentFollows, same]
  unfold judgeSilentWindow
  cases holds : s.silentWindowHolds with
  | true =>
    rw [if_pos rfl, if_pos (by rw [h holds]; rfl)]
    exact ⟨fun _ => h holds, fun off => by cases off⟩
  | false =>
    rw [if_neg (by simp)]
    exact ⟨fun on => (by cases on), fun _ => rfl⟩

/-- The rule rests on the drives, the station, the record and the window. -/
theorem silentFollows_congr {w : SilentWindow} {s t : State} (holds : t.silentWindowHolds = s.silentWindowHolds)
    (window : t.acu.silentWindow = s.acu.silentWindow) (h : silentFollows w s) : silentFollows w t := by
  rw [silentFollows, holds, window]
  exact h

theorem silentWindowHolds_congr {s t : State} (station : t.station = s.station)
    (inlet : t.vdu.inlet = s.vdu.inlet) (trusted : t.srk.record.status.trusted = s.srk.record.status.trusted) :
    t.silentWindowHolds = s.silentWindowHolds := by
  simp only [State.silentWindowHolds, State.working, station, inlet, trusted]

theorem silentFollows_giveCommand {w : SilentWindow} {s : State} (d : Side) (c : DriveCommand) (h : silentFollows w s) :
    silentFollows w (giveCommand d c s) := by
  unfold giveCommand
  split
  · exact h
  · obtain ⟨x, hx⟩ : ∃ x, x = Drive.take s.travelMs c (s.vdu.drive d) := ⟨_, rfl⟩
    rw [← hx]
    have closed : x.state = .isClosed → (s.vdu.drive d).state = .isClosed := fun h => take_isClosed (hx ▸ h)
    have holds := silentWindowHolds_of_putDrive closed
    by_cases still : x.state = (s.vdu.drive d).state
    · have acu : (putDrive d x s).acu.silentWindow = s.acu.silentWindow := by rw [putDrive_of_still still]
      have state : (putDrive d x s).vdu.inlet.state = s.vdu.inlet.state := by
        have moved := putDrive_state d x s .inlet
        split at moved
        · next own => subst own; exact moved.trans still
        · exact moved
      refine silentFollows_congr ?_ acu h
      simp only [State.silentWindowHolds, State.working, putDrive_station, putDrive_srk, state]
    · rw [putDrive_of_moved still] at holds ⊢
      refine silentFollows_judged fun on => ?_
      rw [judgeLossWindow_acu, driveMoved_silentWindow]
      exact h.1 (holds ((silentWindowHolds_judged _).trans on))

theorem silentFollows_settleFrom {w : SilentWindow} {old s : State} (h : silentFollows w s) :
    silentFollows w (settleFrom old s) := by
  obtain ⟨q, hq⟩ : ∃ q, q = handOn old (chooseRoles s) := ⟨_, rfl⟩
  obtain ⟨vdu, -, acu, -⟩ := handOn_chosen old s
  have station : q.station = s.station := by rw [hq]; simp
  have srk : q.srk = s.srk := by rw [hq]; simp
  rw [← hq] at vdu acu
  have began : silentFollows w q :=
    silentFollows_congr (silentWindowHolds_congr station (by rw [vdu]) (by rw [srk])) (by rw [acu]) h
  have derived : silentFollows w (deriveCommands q) := silentFollows_giveCommand _ _ (silentFollows_giveCommand _ _ began)
  obtain ⟨z, hz, -, acu', -, drive, -, -⟩ := settleFrom_blocks old s
  rw [← hq] at hz
  rw [← hz] at derived
  have station' : (settleFrom old s).station = z.station := by rw [hz, hq]; simp
  have srk' : (settleFrom old s).srk = z.srk := by rw [hz, hq]; simp
  exact silentFollows_congr (silentWindowHolds_congr station' (drive .inlet) (by rw [srk'])) (by rw [acu']) derived

/-! ## The still-loss window follows its conditions (R64, R66) -/

/-- The still-loss window is a given one while its conditions hold, and absent while they do not (R64). -/
def lossFollows (w : LossWindow) (s : State) : Prop :=
  (s.lossWindowHolds = true → s.mvc.window = some w) ∧ (s.lossWindowHolds = false → s.mvc.window = none)

theorem lossFollows_congr {w : LossWindow} {s t : State} (holds : t.lossWindowHolds = s.lossWindowHolds)
    (window : t.mvc.window = s.mvc.window) (h : lossFollows w s) : lossFollows w t := by
  rw [lossFollows, holds, window]
  exact h

theorem lossWindowHolds_congr {s t : State} (station : t.station = s.station)
    (states : ∀ v, (t.vdu.drive v).state = (s.vdu.drive v).state)
    (trusted : t.srk.record.status.trusted = s.srk.record.status.trusted) : t.lossWindowHolds = s.lossWindowHolds := by
  have inlet : t.vdu.inlet.state = s.vdu.inlet.state := states .inlet
  have outlet : t.vdu.outlet.state = s.vdu.outlet.state := states .outlet
  simp only [State.lossWindowHolds, State.working, station, inlet, outlet, trusted]

theorem lossFollows_judged {w : LossWindow} {s : State} (h : s.lossWindowHolds = true → s.mvc.window = some w) :
    lossFollows w (judgeLossWindow s) := by
  have same : (judgeLossWindow s).lossWindowHolds = s.lossWindowHolds := by simp [State.lossWindowHolds, State.working]
  rw [lossFollows, same]
  unfold judgeLossWindow
  cases holds : s.lossWindowHolds with
  | true =>
    rw [if_pos rfl, if_pos (by rw [h holds]; rfl)]
    exact ⟨fun _ => h holds, fun off => by cases off⟩
  | false =>
    rw [if_neg (by simp)]
    exact ⟨fun on => (by cases on), fun _ => rfl⟩

theorem lossFollows_judgeSilentWindow {w : LossWindow} {s : State} (h : lossFollows w s) :
    lossFollows w (judgeSilentWindow s) :=
  lossFollows_congr (lossWindowHolds_congr (by simp) (by simp) (by simp)) (by simp) h

theorem driveMoved_lossWindow (d : Side) (x : Drive) (s : State) : (driveMoved d x s).mvc.window = s.mvc.window := by
  unfold driveMoved endLanding
  dsimp only
  split
  · rw [judgeLimitGuard_mvc, signalDrive_mvc]
    split <;> rfl
  · rw [signalDrive_mvc]
    split <;> rfl

theorem lossFollows_giveCommand {w : LossWindow} {s : State} (d : Side) (c : DriveCommand) (h : lossFollows w s) :
    lossFollows w (giveCommand d c s) := by
  unfold giveCommand
  split
  · exact h
  · obtain ⟨x, hx⟩ : ∃ x, x = Drive.take s.travelMs c (s.vdu.drive d) := ⟨_, rfl⟩
    rw [← hx]
    have closed : x.state = .isClosed → (s.vdu.drive d).state = .isClosed := fun h => take_isClosed (hx ▸ h)
    by_cases still : x.state = (s.vdu.drive d).state
    · refine lossFollows_congr (lossWindowHolds_congr (putDrive_station d x s) (fun v => ?_) (by rw [putDrive_srk]))
        (by rw [putDrive_of_still still]) h
      rw [putDrive_state]
      split
      · next own => rw [own, still]
      · rfl
    · have holds : (putDrive d x s).lossWindowHolds = true → s.lossWindowHolds = true := fun h => by
        simp only [State.lossWindowHolds, State.working, putDrive_station, putDrive_srk, Bool.and_eq_true, beq_iff_eq] at h ⊢
        obtain ⟨⟨⟨on, inlet⟩, outlet⟩, trusted⟩ := h
        exact ⟨⟨⟨on, closed_of_putDrive closed (v := .inlet) inlet⟩, closed_of_putDrive closed (v := .outlet) outlet⟩, trusted⟩
      rw [putDrive_of_moved still] at holds ⊢
      refine lossFollows_judgeSilentWindow (lossFollows_judged fun on => ?_)
      rw [driveMoved_lossWindow]
      refine h.1 (holds (Eq.trans ?_ on))
      simp [State.lossWindowHolds, State.working]

theorem lossFollows_settleFrom {w : LossWindow} {old s : State} (h : lossFollows w s) : lossFollows w (settleFrom old s) := by
  obtain ⟨q, hq⟩ : ∃ q, q = handOn old (chooseRoles s) := ⟨_, rfl⟩
  obtain ⟨vdu, -, -, -, -, -, window⟩ := handOn_chosen old s
  have station : q.station = s.station := by rw [hq]; simp
  have srk : q.srk = s.srk := by rw [hq]; simp
  rw [← hq] at vdu window
  have began : lossFollows w q :=
    lossFollows_congr (lossWindowHolds_congr station (fun v => by rw [vdu]) (by rw [srk])) window h
  have derived : lossFollows w (deriveCommands q) := lossFollows_giveCommand _ _ (lossFollows_giveCommand _ _ began)
  obtain ⟨z, hz, mvc, -, -, drive, -, -⟩ := settleFrom_blocks old s
  rw [← hq] at hz
  rw [← hz] at derived
  have station' : (settleFrom old s).station = z.station := by rw [hz, hq]; simp
  have srk' : (settleFrom old s).srk = z.srk := by rw [hz, hq]; simp
  exact lossFollows_congr (lossWindowHolds_congr station' (fun v => by rw [drive v]) (by rw [srk'])) (by rw [mvc]) derived

/-! ## The re-grade after the lift check (R21, R22) -/

/-- LIFT MISMATCH alone moves no grade between those that are trusted and those that are not (R20). -/
theorem trusted_gradeOf (crown : InputStatus) (a b : Bool) (subs : Substitutions) :
    (gradeOf crown a subs).trusted = (gradeOf crown b subs).trusted := by
  cases crown with
  | invalid => rfl
  | held => rfl
  | valid =>
    unfold gradeOf
    dsimp only
    split <;> split <;> rfl

/-- The status of a record that the lift check alone can have overtaken. -/
def gradedBy (mismatch : Bool) (s : State) : Prop :=
  s.srk.record.status = gradeOf s.ini.crown.statusTaken mismatch s.srk.record.substituted

/-- What a re-grade leaves of a record that LIFT MISMATCH alone has overtaken: no entry and no window is moved (R21, R22). -/
theorem regrade_after_liftCheck {m : State} {mismatch : Bool} (graded : gradedBy mismatch m) {w : SilentWindow} {v : LossWindow}
    (silent : silentFollows w m) (loss : lossFollows v m) :
    (regrade m).srk.record.status.trusted = m.srk.record.status.trusted ∧ silentFollows w (regrade m) ∧
      lossFollows v (regrade m) := by
  by_cases on : m.working = true ∧ m.srk.graded = true
  · by_cases same : gradeNow m = m.srk.record.status
    · rw [regrade_of_same same]
      exact ⟨rfl, silent, loss⟩
    · have trusted : (gradeNow m).trusted = m.srk.record.status.trusted := by
        rw [graded]
        exact trusted_gradeOf _ _ _ _
      have status := regrade_status on.1 on.2
      refine ⟨by rw [status, trusted], ?_⟩
      rw [regrade_of_change on.1 on.2 same]
      obtain ⟨x, hx⟩ : ∃ x, x = signalGrade (gradeNow m) (gradedAs (gradeNow m) m) := ⟨_, rfl⟩
      have station : x.station = m.station := by rw [hx, signalGrade_station]; rfl
      have vdu : x.vdu = m.vdu := by rw [hx, signalGrade_vdu]; rfl
      have srk : x.srk.record.status.trusted = m.srk.record.status.trusted := by rw [hx, signalGrade_srk]; exact trusted
      have mvc : x.mvc = m.mvc := by rw [hx, signalGrade_mvc]; rfl
      have window : x.acu.silentWindow = m.acu.silentWindow := by
        rw [hx]
        unfold signalGrade makeEntry
        cases gradeNow m with
        | valid => rfl
        | doubtful => rfl
        | held => dsimp only; split <;> rfl
        | invalid => dsimp only; split <;> rw [raise_acu] <;> rfl
      rw [← hx]
      have holds := silentWindowHolds_congr station (by rw [vdu]) srk
      have holds' := lossWindowHolds_congr station (fun v => by rw [vdu]) srk
      refine ⟨silentFollows_judged fun h => ?_, lossFollows_judgeSilentWindow (lossFollows_judged fun h => ?_)⟩
      · rw [judgeLossWindow_acu, window]
        refine silent.1 (Eq.trans (Eq.symm ?_) h)
        rw [← holds]
        simp [State.silentWindowHolds, State.working]
      · rw [mvc]
        exact loss.1 (holds'.symm.trans h)
  · have still : regrade m = m := if_neg on
    rw [still]
    exact ⟨rfl, silent, loss⟩

end Sys2Proof.Machine

end

/-! The account unit's work on a record (R153 to R160). -/

section

namespace Sys2Proof.Machine

/-! ## The reckoning's own work (R5) -/

/-- A reckoning sets the record, and moves no block but the books' entries, the alarm sets and the line (R5, R24). -/
theorem reckon_same (b : State) : (reckon b).srk.record = reckonedRecord b ∧ (reckon b).srk.graded = true ∧
    (reckon b).ini = b.ini ∧ (reckon b).vdu = b.vdu ∧ (reckon b).ysu = b.ysu ∧ (reckon b).station = b.station ∧
    (reckon b).cfg = b.cfg ∧ (reckon b).mvc = { b.mvc with frostTemp := temperatureTaken b } ∧
    (reckon b).acu.silentWindow = b.acu.silentWindow := by
  have plug : (reckon b).plug = b.plug := reckon_plug b
  refine ⟨reckon_record b, reckon_graded b, by simp, by simp, by simp, by simp, by rw [State.cfg, plug]; rfl, ?_, ?_⟩
  · unfold reckon
    dsimp only
    split
    · rw [signalGrade_mvc]
    · rfl
  · unfold reckon
    dsimp only
    split
    · unfold signalGrade makeEntry
      cases (reckonedRecord b).status with
      | valid => rfl
      | doubtful => rfl
      | held => dsimp only; split <;> rfl
      | invalid => dsimp only; split <;> rw [raise_acu]
    · rfl

/-! ## The take with the new factor, duty and rate (R153 to R156, R160) -/

theorem keepGoodStock_eq (r : StockRecord) (a : Acu) : keepGoodStock r a = { a with
    lastGood := if r.status.trusted = true then some { stock := r.stock, status := r.status } else a.lastGood } := by
  unfold keepGoodStock
  split <;> rfl

/-- The opening of a period whose opening was due (R171). -/
theorem openOnRecord_frame (r : StockRecord) (a : Acu) : openOnRecord r a = { a with
    openingDue := false
    period := { a.period with
      openingStock := (openOnRecord r a).period.openingStock, openingStatus := (openOnRecord r a).period.openingStatus } } ∧
    (a.openingDue = true → (openOnRecord r a).period.openingStock = r.stock ∧ (openOnRecord r a).period.openingStatus = r.status) ∧
    (a.openingDue = false → (openOnRecord r a).period.openingStock = a.period.openingStock ∧
      (openOnRecord r a).period.openingStatus = a.period.openingStatus) := by
  unfold openOnRecord
  cases due : a.openingDue with
  | true => exact ⟨rfl, fun _ => ⟨rfl, rfl⟩, fun off => by cases off⟩
  | false =>
    refine ⟨?_, fun on => (by cases on), fun _ => ⟨rfl, rfl⟩⟩
    rw [if_neg (by decide), ← due]

/-- The figures that the account unit takes of a record. -/
theorem recordTaken_figures (r : State) :
    let inSum := r.ini.inletCount * r.cfg.pulseIn * r.srk.record.factor + r.acu.inletResidue
    let outSum := r.ini.outletCount * r.cfg.pulseOut * r.srk.record.factor + r.acu.outletResidue
    let slots := r.acu.slots ++ [r.acu.slot + outSum / 65536]
    let a := (recordTaken r).acu
    (a.inletResidue = inSum % 65536 ∧ a.outletResidue = outSum % 65536 ∧
      a.period.makeIn = min (r.acu.period.makeIn + inSum / 65536) 16777215 ∧
      a.period.sendOut = min (r.acu.period.sendOut + outSum / 65536) 16777215) ∧
    (a.slots = slots.drop (slots.length - 36) ∧ a.slot = 0 ∧ a.rate = min (a.slots.sum * 10) 65535 ∧
      a.period.peak = max r.acu.period.peak a.rate) ∧
    (a.period.secRest = (addDuty (dutyOf r.holdsTake r.holdsGive) r.acu.period).secRest ∧
      a.period.secTake = (addDuty (dutyOf r.holdsTake r.holdsGive) r.acu.period).secTake ∧
      a.period.secGive = (addDuty (dutyOf r.holdsTake r.holdsGive) r.acu.period).secGive ∧
      a.period.secFloat = (addDuty (dutyOf r.holdsTake r.holdsGive) r.acu.period).secFloat) ∧
    a.lastGood = (if r.srk.record.status.trusted = true then
      some { stock := r.srk.record.stock, status := r.srk.record.status } else r.acu.lastGood) ∧
    (a.silentWindow = r.acu.silentWindow.map fun w => { w with pulses := min (w.pulses + r.ini.outletCount) 65535 }) ∧
    a.period.entries = r.acu.period.entries ∧ a.period.flags = r.acu.period.flags ∧ a.list = r.acu.list ∧
    a.period.number = r.acu.period.number ∧
    (r.acu.openingDue = true → a.period.openingStock = r.srk.record.stock ∧ a.period.openingStatus = r.srk.record.status) ∧
    (r.acu.openingDue = false → a.period.openingStock = r.acu.period.openingStock ∧
      a.period.openingStatus = r.acu.period.openingStatus) := by
  intro inSum outSum slots a
  have whole : a = openOnRecord r.srk.record (keepGoodStock r.srk.record
      { shiftRate (takeMeters r).acu with
        period := addDuty (dutyOf r.holdsTake r.holdsGive) (shiftRate (takeMeters r).acu).period }) := rfl
  have figured : ∀ p : OpenPeriod, ∀ d : Duty, (addDuty d p).makeIn = p.makeIn ∧ (addDuty d p).sendOut = p.sendOut ∧
      (addDuty d p).peak = p.peak ∧ (addDuty d p).entries = p.entries ∧ (addDuty d p).flags = p.flags ∧
      (addDuty d p).number = p.number ∧ (addDuty d p).openingStock = p.openingStock ∧
      (addDuty d p).openingStatus = p.openingStatus := fun p d => by
    cases d <;> exact ⟨rfl, rfl, rfl, rfl, rfl, rfl, rfl, rfl⟩
  have duty : ∀ d : Duty, (addDuty d (shiftRate (takeMeters r).acu).period).secRest = (addDuty d r.acu.period).secRest ∧
      (addDuty d (shiftRate (takeMeters r).acu).period).secTake = (addDuty d r.acu.period).secTake ∧
      (addDuty d (shiftRate (takeMeters r).acu).period).secGive = (addDuty d r.acu.period).secGive ∧
      (addDuty d (shiftRate (takeMeters r).acu).period).secFloat = (addDuty d r.acu.period).secFloat := fun d => by
    cases d <;> exact ⟨rfl, rfl, rfl, rfl⟩
  obtain ⟨makeIn, sendOut, peak, entries, flags, number, stock, status⟩ :=
    figured (shiftRate (takeMeters r).acu).period (dutyOf r.holdsTake r.holdsGive)
  have seconds := duty (dutyOf r.holdsTake r.holdsGive)
  have good := keepGoodStock_eq r.srk.record { shiftRate (takeMeters r).acu with
    period := addDuty (dutyOf r.holdsTake r.holdsGive) (shiftRate (takeMeters r).acu).period }
  rw [good] at whole
  have opens := openOnRecord_frame r.srk.record
  generalize addDuty (dutyOf r.holdsTake r.holdsGive) (shiftRate (takeMeters r).acu).period = p at *
  obtain ⟨b, hb⟩ : ∃ b : Acu, b = { shiftRate (takeMeters r).acu with
    period := p
    lastGood := if r.srk.record.status.trusted = true then
      some { stock := r.srk.record.stock, status := r.srk.record.status } else r.acu.lastGood } := ⟨_, rfl⟩
  have taken : a = openOnRecord r.srk.record b := by rw [whole, hb]; rfl
  have due : b.openingDue = r.acu.openingDue := by rw [hb]; rfl
  have period : b.period = p := by rw [hb]
  obtain ⟨frame, opened, stands⟩ := opens b
  rw [due, period] at stands
  rw [due] at opened
  rw [taken]
  refine ⟨?_, ?_, ?_, ?_, ?_, ?_, ?_, ?_, ?_, opened, fun off => ?_⟩
  · rw [frame, hb]
    exact ⟨rfl, rfl, makeIn, sendOut⟩
  · rw [frame, hb]
    exact ⟨rfl, rfl, rfl, peak⟩
  · rw [frame, hb]
    exact seconds
  · rw [frame, hb]
  · rw [frame, hb]
    rfl
  · rw [frame, hb]
    exact entries
  · rw [frame, hb]
    exact flags
  · rw [frame, hb]
    rfl
  · rw [frame, hb]
    exact number
  · obtain ⟨stock', status'⟩ := stands off
    exact ⟨stock'.trans stock, status'.trans status⟩

theorem addDuty_seconds (take give : Bool) (p : OpenPeriod) :
    (addDuty (dutyOf take give) p).secRest = (if take = false ∧ give = false then min (p.secRest + 10) 3932100 else p.secRest) ∧
    (addDuty (dutyOf take give) p).secTake = (if take = true ∧ give = false then min (p.secTake + 10) 3932100 else p.secTake) ∧
    (addDuty (dutyOf take give) p).secGive = (if take = false ∧ give = true then min (p.secGive + 10) 3932100 else p.secGive) ∧
    (addDuty (dutyOf take give) p).secFloat = (if take = true ∧ give = true then min (p.secFloat + 10) 3932100 else p.secFloat) := by
  cases take <;> cases give <;> exact ⟨rfl, rfl, rfl, rfl⟩

end Sys2Proof.Machine

end

/-! From a record to the end of its event: the windows, the entries and the kinds (R52, R62, R65, R159). -/

section

namespace Sys2Proof.Machine

/-! ## The still-loss window at a record (R64, R65) -/

/-- The still-loss window is tested at this record (R65). -/
def lossTested (q : State) : Bool :=
  q.lossWindowHolds && (match q.mvc.window with
    | some w => decide (360 ≤ w.count + 1)
    | none => false)

/-- A test at this record finds the still loss (R65). -/
def lossFound (q : State) : Bool :=
  lossTested q && (match q.mvc.window with
    | some w => decide (q.srk.record.stock + q.cfg.stillLossLimit < w.startStock)
    | none => false)

/-- The window that a record leaves where its conditions hold (R64, R65). -/
def nextLossWindow (q : State) : LossWindow :=
  match q.mvc.window with
  | none => q.newLossWindow
  | some w => if 360 ≤ w.count + 1 then q.newLossWindow else { w with count := w.count + 1 }

/-- What the still-loss check of a new record leaves (R64, R65). -/
structure LossChecked (q t : State) : Prop where
  mvc : t.mvc = { q.mvc with window := t.mvc.window }
  window : lossFollows (nextLossWindow q) t
  current : t.isCurrent .stillLoss = if lossTested q = true then lossFound q else q.isCurrent .stillLoss
  entry : q.working = true → q.acu.period.entries.length < 8 → t.isCurrent .stillLoss = true →
    q.isCurrent .stillLoss = false → { kind := .stillLoss, minute := q.ini.minute } ∈ t.acu.period.entries

theorem lossChecked_of_untested {q t : State} (untested : lossTested q = false)
    (mvc : t.mvc = { q.mvc with window := t.mvc.window }) (window : lossFollows (nextLossWindow q) t) (oau : t.oau = q.oau) :
    LossChecked q t := by
  have current : t.isCurrent .stillLoss = q.isCurrent .stillLoss := by rw [State.isCurrent, oau]; rfl
  refine ⟨mvc, window, ?_, fun _ _ now before => ?_⟩
  · rw [current, untested]
    rfl
  · rw [current, before] at now
    cases now

theorem judgeLossWindow_window (q : State) :
    (judgeLossWindow q).mvc = { q.mvc with window := (judgeLossWindow q).mvc.window } := by
  unfold judgeLossWindow
  split
  · split <;> rfl
  · rfl

theorem lossChecked_countLossWindow (q : State) : LossChecked q (countLossWindow q) := by
  unfold countLossWindow
  cases holds : q.lossWindowHolds with
  | false =>
    rw [if_neg (by simp)]
    exact lossChecked_of_untested (by simp [lossTested, holds]) (judgeLossWindow_window q)
      (lossFollows_judged fun h => by simp [holds] at h) (judgeLossWindow_oau q)
  | true =>
    rw [if_pos rfl]
    cases stood : q.mvc.window with
    | none =>
      dsimp only
      have begun : (judgeLossWindow q).mvc.window = some (nextLossWindow q) := by
        rw [judgeLossWindow, if_pos holds, if_neg (by simp [stood]), nextLossWindow, stood]
      have same : (judgeLossWindow q).lossWindowHolds = q.lossWindowHolds := by simp [State.lossWindowHolds, State.working]
      refine lossChecked_of_untested (by simp [lossTested, stood]) (judgeLossWindow_window q)
        ⟨fun _ => begun, fun h => ?_⟩ (judgeLossWindow_oau q)
      simp [same, holds] at h
    | some w =>
      dsimp only
      by_cases due : 360 ≤ w.count + 1
      · rw [if_pos due]
        have tested : lossTested q = true := by simp [lossTested, holds, stood, due]
        have found : lossFound q = decide (q.srk.record.stock + q.cfg.stillLossLimit < w.startStock) := by
          simp [lossFound, tested, stood]
        have next : nextLossWindow q = q.newLossWindow := by rw [nextLossWindow, stood]; exact if_pos due
        obtain ⟨p, hp⟩ : ∃ p : State, p = { q with mvc := { q.mvc with window := some q.newLossWindow } } := ⟨_, rfl⟩
        have tests : testLossWindow { w with count := w.count + 1 } q =
            if lossFound q = true then raiseWithEntry .stillLoss .stillLoss p else cease .stillLoss p := by
          simp only [found, decide_eq_true_eq, hp]
          rfl
        rw [tests]
        have pHolds : p.lossWindowHolds = true := by rw [hp]; exact holds
        have pWindow : p.mvc = { q.mvc with window := some (nextLossWindow q) } := by rw [hp, next]
        by_cases silent : lossFound q = true
        · rw [if_pos silent]
          have mvc : (raiseWithEntry .stillLoss .stillLoss p).mvc = p.mvc := by simp
          refine ⟨?_, ⟨fun _ => ?_, fun h => ?_⟩, ?_, fun working room _ free => ?_⟩
          · rw [mvc, pWindow]
          · rw [mvc, pWindow]
          · have same : (raiseWithEntry .stillLoss .stillLoss p).lossWindowHolds = p.lossWindowHolds := by
              simp [State.lossWindowHolds, State.working]
            simp [same, pHolds] at h
          · rw [if_pos tested, isCurrent_raiseWithEntry, silent]
            simp
          · have on : p.working = true := by rw [hp]; exact working
            have place : p.acu.period.entries.length < 8 := by rw [hp]; exact room
            have not_ : p.isCurrent .stillLoss = false := by rw [hp]; exact free
            have stands := mem_raiseWithEntry (e := .stillLoss) on place not_
            have minute : p.ini.minute = q.ini.minute := by rw [hp]
            rwa [minute] at stands
        · rw [if_neg silent]
          refine ⟨?_, ⟨fun _ => ?_, fun h => ?_⟩, ?_, fun _ _ now => ?_⟩
          · rw [cease_mvc, pWindow]
          · rw [cease_mvc, pWindow]
          · have same : (cease .stillLoss p).lossWindowHolds = p.lossWindowHolds := rfl
            simp [same, pHolds] at h
          · rw [if_pos tested, isCurrent_cease, Bool.eq_false_iff.2 silent]
            simp
          · rw [isCurrent_cease] at now
            simp at now
      · rw [if_neg due]
        refine lossChecked_of_untested (by simp [lossTested, stood]; omega) rfl ⟨fun _ => ?_, fun h => ?_⟩ rfl
        · rw [nextLossWindow, stood]
          exact congrArg some (if_neg due).symm
        · have same : State.lossWindowHolds { q with mvc := { q.mvc with window := some { w with count := w.count + 1 } } } =
              q.lossWindowHolds := rfl
          rw [same, holds] at h
          cases h

end Sys2Proof.Machine

end

/-! A record's whole event, and the statement on the meters (R153 to R160). -/

section

namespace Sys2Proof.Machine

/-! ## The movement controller leaves the meter-silent window -/

theorem liftCheck_silentWindow (s : State) : (liftCheck s).acu.silentWindow = s.acu.silentWindow := by
  unfold liftCheck
  split
  · split
    · dsimp only
      split <;> rfl
    · dsimp only
      split
      · rw [raiseWithEntry_silentWindow]
      · rfl
  · rfl

theorem countLossWindow_silentWindow (s : State) : (countLossWindow s).acu.silentWindow = s.acu.silentWindow := by
  unfold countLossWindow
  split
  · split
    · rw [judgeLossWindow_acu]
    · dsimp only
      split
      · unfold testLossWindow
        dsimp only
        split
        · rw [raiseWithEntry_silentWindow]
        · rfl
      · rfl
  · rw [judgeLossWindow_acu]

/-- The last steps of a record's work move the movement controller alone (R68 to R71). -/
theorem lastSteps_frame (s : State) : judgeTurnover (countRest (countCycle s)) =
    { s with mvc := (judgeTurnover (countRest (countCycle s))).mvc } := by
  rw [judgeTurnover_frame, countRest_frame, countCycle_frame]

/-- The state in which the movement controller's still-loss check is made (R52). -/
def guarded (s : State) : State := judgeLimitGuard (liftCheck (placeRecord s))

theorem movementRecord_eq (s : State) :
    movementRecord s = judgeTurnover (countRest (countCycle (countLossWindow (guarded s)))) := rfl

theorem movementRecord_silentWindow (s : State) : (movementRecord s).acu.silentWindow = s.acu.silentWindow := by
  rw [movementRecord_eq, lastSteps_frame]
  exact (countLossWindow_silentWindow _).trans ((judgeLimitGuard_silentWindow _).trans (liftCheck_silentWindow _))

theorem countCycle_window (s : State) : (countCycle s).mvc.window = s.mvc.window := by
  unfold countCycle
  split
  · rfl
  · split
    · rfl
    · split <;> rfl

theorem countRest_window (s : State) : (countRest s).mvc.window = s.mvc.window := by
  unfold countRest
  split
  · split <;> rfl
  · rfl

theorem judgeTurnover_window (s : State) : (judgeTurnover s).mvc.window = s.mvc.window := by
  unfold judgeTurnover
  split <;> rfl

theorem lastSteps_window (s : State) : (judgeTurnover (countRest (countCycle s))).mvc.window = s.mvc.window := by
  rw [judgeTurnover_window, countRest_window, countCycle_window]

theorem lossFollows_movementRecord (s : State) : lossFollows (nextLossWindow (guarded s)) (movementRecord s) := by
  rw [movementRecord_eq]
  have checked := (lossChecked_countLossWindow (guarded s)).window
  generalize countLossWindow (guarded s) = c at *
  refine lossFollows_congr ?_ (lastSteps_window c) checked
  rw [lastSteps_frame]
  rfl

/-! ## From the meter-silent check to the end of the event -/

/-- What the account unit has taken of a record made in `b`. -/
def takenOf (b : State) : State := recordTaken (reckon b)

theorem recordWorked_taken (b : State) : recordWorked b = movementRecord (countSilentWindow (takenOf b)) := rfl

/-- A record's whole event leaves the station's figures. -/
theorem finish_workRecord (b : State) : ∃ g, g = regrade (recordWorked b) ∧
    finish (workRecord b) = finish (beginWrite (settleFrom g g)) := ⟨_, rfl, rfl⟩

theorem takenOf_same (b : State) : (takenOf b).srk = (reckon b).srk ∧ (takenOf b).station = b.station ∧
    (takenOf b).vdu = b.vdu ∧ (takenOf b).cfg = b.cfg ∧ (takenOf b).working = b.working ∧
    (takenOf b).ini.minute = b.ini.minute ∧ (takenOf b).ini.crown = b.ini.crown ∧ (takenOf b).oau = (reckon b).oau ∧
    (takenOf b).mvc = { b.mvc with frostTemp := temperatureTaken b } := by
  obtain ⟨-, -, ini, vdu, -, station, cfg, mvc, -⟩ := reckon_same b
  have minute : (reckon b).ini.minute = b.ini.minute := by rw [ini]
  have crown : (reckon b).ini.crown = b.ini.crown := by rw [ini]
  refine ⟨rfl, station, vdu, cfg, ?_, minute, crown, rfl, mvc⟩
  show (reckon b).working = b.working
  rw [State.working, station]
  rfl

/-- From the meter-silent check on, the event of a record only logs. -/
theorem workRecord_log_checked (b : State) : Logged 4 (countSilentWindow (takenOf b)) (finish (workRecord b)) := by
  obtain ⟨g, hg, done⟩ := finish_workRecord b
  have worked : Logged 4 (countSilentWindow (takenOf b)) g := by
    rw [hg, recordWorked_taken]
    exact (Logged.movementRecord _).trans (.regrade _)
  have ended : Logged 0 g (finish (workRecord b)) := by
    rw [done]
    exact (Logged.settleFrom (n := 0) g g).trans (.ofSame (n := 0) (by rw [finish_acu, beginWrite_acu]))
  exact worked.trans ended

theorem workRecord_log (b : State) : Logged 5 (silentMarked (takenOf b)) (finish (workRecord b)) :=
  (silentChecked_countSilentWindow (takenOf b)).log.trans (workRecord_log_checked b)

/-- The movement controller's own work rests on what the account unit took (R52). -/
theorem gradedBy_recordWorked (b : State) : gradedBy (b.isCurrent .liftMismatch) (recordWorked b) := by
  have srk : (recordWorked b).srk = (reckon b).srk := recordWorked_srk b
  have ini : (recordWorked b).ini.crown = b.ini.crown := by
    rw [recordWorked, movementRecord_ini, accountRecord_ini]
    have same := (reckon_same b).2.2.1
    dsimp only
    rw [same]
  rw [gradedBy, srk, ini, reckon_record]
  rfl

/-- The windows at the end of a record's event follow their conditions there (R64, R66, R158). -/
theorem windows_workRecord (b : State) :
    silentFollows (nextSilentWindow (takenOf b)) (finish (workRecord b)) ∧
    lossFollows (nextLossWindow (guarded (accountRecord (reckon b)))) (finish (workRecord b)) ∧
    (finish (workRecord b)).srk.record.status.trusted = (reckonedRecord b).status.trusted := by
  obtain ⟨g, hg, done⟩ := finish_workRecord b
  have checked := (silentChecked_countSilentWindow (takenOf b)).window
  have same := takenOf_same b
  obtain ⟨srk, station, vdu, -⟩ := same
  have moved : silentFollows (nextSilentWindow (takenOf b)) (recordWorked b) := by
    have holds : (recordWorked b).silentWindowHolds = (takenOf b).silentWindowHolds := by
      refine silentWindowHolds_congr ?_ ?_ ?_
      · rw [recordWorked_station, station]
      · rw [recordWorked_taken, movementRecord_vdu, countSilentWindow_frame]
      · rw [recordWorked_srk, srk]
    have window : (recordWorked b).acu.silentWindow = (countSilentWindow (takenOf b)).acu.silentWindow := by
      rw [recordWorked_taken, movementRecord_silentWindow]
    rw [silentFollows, holds, window]
    exact ⟨checked.2, checked.1⟩
  obtain ⟨trusted, silent, loss⟩ :=
    regrade_after_liftCheck (gradedBy_recordWorked b) moved (lossFollows_movementRecord (accountRecord (reckon b)))
  rw [← hg] at trusted silent loss
  have worked : (recordWorked b).srk.record.status.trusted = (reckonedRecord b).status.trusted := by
    rw [recordWorked_srk, reckon_record]
  have silent' := silentFollows_settleFrom (old := g) silent
  have loss' := lossFollows_settleFrom (old := g) loss
  have status : (settleFrom g g).srk.record.status.trusted = (reckonedRecord b).status.trusted := by
    rw [settleFrom_srk, trusted, worked]
  rw [done]
  generalize settleFrom g g = f at *
  have vdu' : (finish (beginWrite f)).vdu = f.vdu := by rw [finish_vdu, beginWrite_vdu]
  have station' : (finish (beginWrite f)).station = f.station := by rw [finish_station, beginWrite_station]
  have srk' : (finish (beginWrite f)).srk = f.srk := by rw [finish_srk, beginWrite_srk]
  refine ⟨silentFollows_congr ?_ ?_ silent', lossFollows_congr ?_ ?_ loss', by rw [srk', status]⟩
  · exact silentWindowHolds_congr station' (by rw [vdu']) (by rw [srk'])
  · rw [finish_acu, beginWrite_acu]
  · exact lossWindowHolds_congr station' (fun v => by rw [vdu']) (by rw [srk'])
  · rw [finish_mvc, beginWrite_mvc]

/-- No record's event brings a drive to CLOSED (R43). -/
theorem closed_of_workRecord {b : State} {v : Side} (closed : ((finish (workRecord b)).vdu.drive v).state = .isClosed) :
    (b.vdu.drive v).state = .isClosed := by
  obtain ⟨g, hg, done⟩ := finish_workRecord b
  have vdu : g.vdu = b.vdu := by
    rw [hg, regrade_vdu, recordWorked, movementRecord_vdu, accountRecord_vdu, reckon_vdu]
  rw [done, finish_vdu, beginWrite_vdu] at closed
  rw [← vdu]
  obtain ⟨z, hz, -, -, -, drive, -, -⟩ := settleFrom_blocks g g
  obtain ⟨vdu', -⟩ := handOn_chosen g g
  have given : ∀ (q : State) (d : Side) (c : DriveCommand),
      ((giveCommand d c q).vdu.drive v).state = .isClosed → (q.vdu.drive v).state = .isClosed := fun q d c after => by
    unfold giveCommand at after
    split at after
    · exact after
    · exact closed_of_putDrive (fun h => take_isClosed h) after
  rw [drive, hz, deriveCommands] at closed
  have before := given _ _ _ (given _ _ _ closed)
  rwa [vdu'] at before

/-- The kinds that the movement controller and the re-grade do not move, at the end of a record's event. -/
theorem isCurrent_workRecord {k : AlarmKind} (b : State) :
    (finish (workRecord b)).isCurrent k = (regrade (recordWorked b)).isCurrent k := by
  obtain ⟨g, hg, done⟩ := finish_workRecord b
  rw [done, ← hg, State.isCurrent, finish_oau, beginWrite_oau, settleFrom_oau]
  rfl

end Sys2Proof.Machine

end

/-! A reckoning takes the meters (R153 to R160): the statement. -/

section

namespace Sys2Proof.Machine

/-- What the record's take finds of the books of `b`: one entry of the reckoning's own at most (R24, R153). -/
theorem takenOf_books (b : State) : (takenOf b).acu.period.entries.length ≤ b.acu.period.entries.length + 1 ∧
    (takenOf b).acu.period.flags.meterSilent = b.acu.period.flags.meterSilent := by
  have log := Logged.reckon b
  obtain ⟨-, -, -, -, -, entries, flags, -⟩ := recordTaken_figures (reckon b)
  refine ⟨?_, ?_⟩
  · rw [takenOf, entries]
    exact log.length
  · rw [takenOf, flags, log.acu]

/-- METER SILENT at the end of a record's event is the check's (R159). -/
theorem isCurrent_meterSilent (b : State) : (finish (workRecord b)).isCurrent .meterSilent =
    if silentTested (takenOf b) = true then silentFound (takenOf b) else b.isCurrent .meterSilent := by
  have checked := (silentChecked_countSilentWindow (takenOf b)).current
  have before : (takenOf b).isCurrent .meterSilent = b.isCurrent .meterSilent :=
    (rfl : (takenOf b).isCurrent .meterSilent = (reckon b).isCurrent .meterSilent).trans (isCurrent_reckon (by decide) b)
  rw [isCurrent_workRecord, isCurrent_regrade_other (by decide), recordWorked_taken,
    isCurrent_movementRecord (by decide) (by decide) (by decide), checked, before]

theorem meterSilent_flag (b : State) : (finish (workRecord b)).acu.period.flags.meterSilent =
    (b.acu.period.flags.meterSilent || silentFound (takenOf b)) := by
  rw [(workRecord_log b).acu, ← (takenOf_books b).2]
  rfl

/-- The figures of two books are the same. -/
structure SameFigures (x y : Acu) : Prop where
  residues : x.inletResidue = y.inletResidue ∧ x.outletResidue = y.outletResidue
  meters : x.period.makeIn = y.period.makeIn ∧ x.period.sendOut = y.period.sendOut
  rate : x.slots = y.slots ∧ x.slot = y.slot ∧ x.rate = y.rate ∧ x.period.peak = y.period.peak
  duty : x.period.secRest = y.period.secRest ∧ x.period.secTake = y.period.secTake ∧ x.period.secGive = y.period.secGive ∧
    x.period.secFloat = y.period.secFloat
  lastGood : x.lastGood = y.lastGood
  books : x.list = y.list ∧ x.period.number = y.period.number ∧ x.openingDue = y.openingDue
  opening : x.period.openingStock = y.period.openingStock ∧ x.period.openingStatus = y.period.openingStatus

theorem Logged.figures {n : Nat} {q t : State} (log : Logged n q t) : SameFigures t.acu q.acu := by
  rw [log.acu]
  exact ⟨⟨rfl, rfl⟩, ⟨rfl, rfl⟩, ⟨rfl, rfl, rfl, rfl⟩, ⟨rfl, rfl, rfl, rfl⟩, rfl, ⟨rfl, rfl, rfl⟩, ⟨rfl, rfl⟩⟩

theorem sameFigures_marked (q : State) : SameFigures (silentMarked q).acu q.acu :=
  ⟨⟨rfl, rfl⟩, ⟨rfl, rfl⟩, ⟨rfl, rfl, rfl, rfl⟩, ⟨rfl, rfl, rfl, rfl⟩, rfl, ⟨rfl, rfl, rfl⟩, ⟨rfl, rfl⟩⟩

theorem SameFigures.trans {x y z : Acu} (h : SameFigures x y) (k : SameFigures y z) : SameFigures x z := by
  obtain ⟨⟨h1, h2⟩, ⟨h3, h4⟩, ⟨h5, h6, h7, h8⟩, ⟨h9, h10, h11, h12⟩, h13, ⟨h14, h15, h16⟩, h17, h18⟩ := h
  obtain ⟨⟨k1, k2⟩, ⟨k3, k4⟩, ⟨k5, k6, k7, k8⟩, ⟨k9, k10, k11, k12⟩, k13, ⟨k14, k15, k16⟩, k17, k18⟩ := k
  exact ⟨⟨h1.trans k1, h2.trans k2⟩, ⟨h3.trans k3, h4.trans k4⟩, ⟨h5.trans k5, h6.trans k6, h7.trans k7, h8.trans k8⟩,
    ⟨h9.trans k9, h10.trans k10, h11.trans k11, h12.trans k12⟩, h13.trans k13, ⟨h14.trans k14, h15.trans k15, h16.trans k16⟩,
    h17.trans k17, h18.trans k18⟩

/-- The event of a record ends with the figures that the account unit took (R153 to R160). -/
theorem figures_workRecord (b : State) : SameFigures (finish (workRecord b)).acu (takenOf b).acu :=
  (workRecord_log b).figures.trans (sameFigures_marked _)

/-- The record's take finds the figures, the counters, the role set and the settings of `b`, and the record reckoned in it. -/
theorem takenOf_from (b : State) : ∃ r, takenOf b = recordTaken r ∧ SameFigures r.acu b.acu ∧ r.ini = b.ini ∧ r.cfg = b.cfg ∧
    r.srk.record = reckonedRecord b ∧ r.holdsTake = b.holdsTake ∧ r.holdsGive = b.holdsGive ∧
    r.acu.silentWindow = b.acu.silentWindow := by
  obtain ⟨record, -, ini, -, ysu, -, cfg, -, window⟩ := reckon_same b
  refine ⟨reckon b, rfl, (Logged.reckon b).figures, ini, cfg, record, ?_, ?_, window⟩
  · rw [State.holdsTake, ysu]; rfl
  · rw [State.holdsGive, ysu]; rfl

theorem meters_workRecord (b : State) :
    let inSum := b.ini.inletCount * b.cfg.pulseIn * (reckonedRecord b).factor + b.acu.inletResidue
    let outSum := b.ini.outletCount * b.cfg.pulseOut * (reckonedRecord b).factor + b.acu.outletResidue
    let a := (finish (workRecord b)).acu
    a.inletResidue = inSum % 65536 ∧ a.outletResidue = outSum % 65536 ∧
      a.period.makeIn = min (b.acu.period.makeIn + inSum / 65536) 16777215 ∧
      a.period.sendOut = min (b.acu.period.sendOut + outSum / 65536) 16777215 := by
  obtain ⟨⟨inA, outA⟩, ⟨makeA, sendA⟩, -⟩ := figures_workRecord b
  obtain ⟨r, taken, ⟨⟨inB, outB⟩, ⟨makeB, sendB⟩, -⟩, ini, cfg, record, -⟩ := takenOf_from b
  obtain ⟨⟨inT, outT, makeT, sendT⟩, -⟩ := recordTaken_figures r
  rw [record, ini, cfg, inB] at inT
  rw [record, ini, cfg, outB] at outT
  rw [record, ini, cfg, inB, makeB] at makeT
  rw [record, ini, cfg, outB, sendB] at sendT
  rw [taken] at inA outA makeA sendA
  exact ⟨inA.trans inT, outA.trans outT, makeA.trans makeT, sendA.trans sendT⟩

theorem rate_workRecord (b : State) :
    let outSum := b.ini.outletCount * b.cfg.pulseOut * (reckonedRecord b).factor + b.acu.outletResidue
    let slots := b.acu.slots ++ [b.acu.slot + outSum / 65536]
    let a := (finish (workRecord b)).acu
    a.slots = slots.drop (slots.length - 36) ∧ a.slot = 0 ∧ a.rate = min (a.slots.sum * 10) 65535 ∧
      a.period.peak = max b.acu.period.peak a.rate := by
  obtain ⟨-, -, ⟨slotsA, slotA, rateA, peakA⟩, -⟩ := figures_workRecord b
  obtain ⟨r, taken, ⟨⟨-, outB⟩, -, ⟨slotsB, slotB, -, peakB⟩, -⟩, ini, cfg, record, -⟩ := takenOf_from b
  obtain ⟨-, ⟨slotsT, slotT, rateT, peakT⟩, -⟩ := recordTaken_figures r
  rw [record, ini, cfg, outB, slotsB, slotB] at slotsT
  rw [peakB] at peakT
  rw [taken] at slotsA slotA rateA peakA
  refine ⟨slotsA.trans slotsT, slotA.trans slotT, rateA.trans (rateT.trans ?_), peakA.trans (peakT.trans ?_)⟩
  · rw [slotsA]
  · rw [rateA]

theorem duty_workRecord (b : State) :
    let p := addDuty (dutyOf b.holdsTake b.holdsGive) b.acu.period
    let a := (finish (workRecord b)).acu
    (a.period.secRest = p.secRest ∧ a.period.secTake = p.secTake ∧ a.period.secGive = p.secGive ∧
      a.period.secFloat = p.secFloat) ∧
    a.lastGood = (if (reckonedRecord b).status.trusted = true then
      some { stock := (reckonedRecord b).stock, status := (reckonedRecord b).status } else b.acu.lastGood) := by
  obtain ⟨-, -, -, ⟨restA, takeA, giveA, floatA⟩, goodA, -⟩ := figures_workRecord b
  obtain ⟨r, taken, ⟨-, -, -, ⟨restB, takeB, giveB, floatB⟩, goodB, -⟩, ini, cfg, record, take, give, -⟩ := takenOf_from b
  obtain ⟨-, -, ⟨restT, takeT, giveT, floatT⟩, goodT, -⟩ := recordTaken_figures r
  obtain ⟨rest, take', give', float⟩ := addDuty_seconds b.holdsTake b.holdsGive r.acu.period
  obtain ⟨restP, takeP, giveP, floatP⟩ := addDuty_seconds b.holdsTake b.holdsGive b.acu.period
  rw [take, give, rest, restB, ← restP] at restT
  rw [take, give, take', takeB, ← takeP] at takeT
  rw [take, give, give', giveB, ← giveP] at giveT
  rw [take, give, float, floatB, ← floatP] at floatT
  rw [record, goodB] at goodT
  rw [taken] at restA takeA giveA floatA goodA
  exact ⟨⟨restA.trans restT, takeA.trans takeT, giveA.trans giveT, floatA.trans floatT⟩, goodA.trans goodT⟩

/-! ## The meter-silent window at a record (R158, R159) -/

theorem takenOf_window (b : State) : (takenOf b).acu.silentWindow =
    b.acu.silentWindow.map fun w => { w with pulses := min (w.pulses + b.ini.outletCount) 65535 } := by
  obtain ⟨r, taken, -, ini, -, -, -, -, window⟩ := takenOf_from b
  obtain ⟨-, -, -, -, silent, -⟩ := recordTaken_figures r
  rw [taken, silent, window, ini]

theorem takenOf_record (b : State) : (takenOf b).srk.record = reckonedRecord b := by
  rw [(takenOf_same b).1, reckon_record]

theorem takenOf_holds {b : State} (working : b.working = true) : (takenOf b).silentWindowHolds = true ↔
    b.vdu.inlet.state = .isClosed ∧ (reckonedRecord b).status.trusted = true := by
  obtain ⟨-, -, vdu, -, on, -⟩ := takenOf_same b
  simp only [State.silentWindowHolds, on, working, vdu, takenOf_record, Bool.true_and, Bool.and_eq_true, beq_iff_eq]

theorem newSilentWindow_taken (b : State) :
    (takenOf b).newSilentWindow = { startStock := (reckonedRecord b).stock, count := 0, pulses := 0 } := by
  rw [State.newSilentWindow, takenOf_record]

/-- The windows at the end of a record's event, where its conditions hold there or do not (R158, R159). -/
theorem silentWindow_workRecord {b : State} (working : b.working = true) :
    let t := finish (workRecord b)
    (t.vdu.inlet.state ≠ .isClosed ∨ (reckonedRecord b).status.trusted = false → t.acu.silentWindow = none) ∧
    (t.vdu.inlet.state = .isClosed → (reckonedRecord b).status.trusted = true →
      t.acu.silentWindow = some (nextSilentWindow (takenOf b))) := by
  obtain ⟨⟨stands, ended⟩, -, trusted⟩ := windows_workRecord b
  have on : (finish (workRecord b)).working = true := by
    obtain ⟨g, hg, done⟩ := finish_workRecord b
    rw [done, State.working, finish_station, beginWrite_station, settleFrom_station, hg, regrade_station, recordWorked_station]
    exact working
  intro t
  have holds : t.silentWindowHolds = true ↔ t.vdu.inlet.state = .isClosed ∧ (reckonedRecord b).status.trusted = true := by
    simp only [State.silentWindowHolds, Bool.and_eq_true, beq_iff_eq]
    rw [trusted]
    exact ⟨fun ⟨⟨_, closed⟩, trust⟩ => ⟨closed, trust⟩, fun ⟨closed, trust⟩ => ⟨⟨on, closed⟩, trust⟩⟩
  refine ⟨fun off => ended (Bool.eq_false_iff.2 fun h => ?_), fun closed trust => stands (holds.2 ⟨closed, trust⟩)⟩
  obtain ⟨closed, trust⟩ := holds.1 h
  rcases off with away | doubted
  · exact away closed
  · simp [doubted] at trust

/-- The test of a meter-silent window at a record (R159). -/
theorem silentTested_iff {b : State} (working : b.working = true) : silentTested (takenOf b) = true ↔
    b.vdu.inlet.state = .isClosed ∧ (reckonedRecord b).status.trusted = true ∧ ∃ w ∈ b.acu.silentWindow, 59 ≤ w.count := by
  rw [silentTested, Bool.and_eq_true, takenOf_holds working, takenOf_window]
  cases b.acu.silentWindow with
  | none => simp
  | some w =>
    simp only [Option.map_some, decide_eq_true_eq, Option.mem_some_iff, exists_eq_left', and_assoc]
    refine and_congr_right fun _ => and_congr_right fun _ => ?_
    omega

theorem silentFound_of_tested {b : State} {w : SilentWindow} (tested : silentTested (takenOf b) = true)
    (stood : b.acu.silentWindow = some w) : silentFound (takenOf b) = true ↔
      (reckonedRecord b).stock + 5 * b.cfg.pulseOut < w.startStock ∧ w.pulses = 0 ∧ b.ini.outletCount = 0 := by
  have window := takenOf_window b
  have cfg := (takenOf_same b).2.2.2.1
  have record := takenOf_record b
  rw [stood] at window
  unfold silentTested at tested
  unfold silentFound
  generalize takenOf b = q at *
  rw [window] at tested ⊢
  simp only [Option.map_some, Bool.and_eq_true, decide_eq_true_eq] at tested ⊢
  rw [foundSilent, Bool.and_eq_true, decide_eq_true_eq, beq_iff_eq, record, cfg]
  dsimp only
  constructor
  · rintro ⟨-, -, less, none_⟩
    exact ⟨less, by omega, by omega⟩
  · rintro ⟨less, pulses, count⟩
    exact ⟨tested.1, tested.2, less, by rw [pulses, count]; rfl⟩

theorem silentFound_of_untested {b : State} (untested : silentTested (takenOf b) = false) : silentFound (takenOf b) = false := by
  rw [Bool.eq_false_iff]
  intro found
  unfold silentFound at found
  unfold silentTested at untested
  rw [Bool.and_eq_true] at found
  obtain ⟨holds, found⟩ := found
  rw [holds, Bool.true_and] at untested
  split at found
  · next w stood =>
    rw [stood] at untested
    rw [Bool.and_eq_true] at found
    dsimp only at untested
    rw [found.1] at untested
    cases untested
  · cases found

/-- Settles O14. -/
theorem reckoningTakesTheMeters : Obligations.ReckoningTakesTheMeters := by
  refine ⟨fun s supply working timer => ?_, fun s supply working timer => ?_⟩
  · have done := exec_reckoning supply working timer
    obtain ⟨inlet, outlet, makeIn, sendOut⟩ := meters_workRecord (reckoningBegun s)
    obtain ⟨slots, slot, rate, peak⟩ := rate_workRecord (reckoningBegun s)
    obtain ⟨⟨rest, take, give, float⟩, good⟩ := duty_workRecord (reckoningBegun s)
    obtain ⟨restP, takeP, giveP, floatP⟩ := addDuty_seconds s.holdsTake s.holdsGive s.acu.period
    have ini : (finish (workRecord (reckoningBegun s))).ini.inletCount = 0 ∧
        (finish (workRecord (reckoningBegun s))).ini.outletCount = 0 := by
      obtain ⟨g, hg, ends⟩ := finish_workRecord (reckoningBegun s)
      rw [ends, finish_ini, beginWrite_ini, settleFrom_ini, hg, regrade_ini, recordWorked, movementRecord_ini, accountRecord_ini]
      exact ⟨rfl, rfl⟩
    generalize finish (workRecord (reckoningBegun s)) = t at *
    refine ⟨t, done, ini.1, ini.2, inlet, outlet, makeIn, sendOut, slots, slot, rate, peak, rest.trans restP, take.trans takeP,
      give.trans giveP, float.trans floatP, fun trusted => good.trans (if_pos trusted), fun doubted => good.trans (if_neg ?_)⟩
    intro trusted
    have same : (reckonedRecord (reckoningBegun s)).status = (reckonedRecord s).status := rfl
    rw [same, doubted] at trusted
    cases trusted
  · have on : (reckoningBegun s).working = true := working
    have done := exec_reckoning supply working timer
    obtain ⟨absent, present⟩ := silentWindow_workRecord on
    have tested := silentTested_iff on
    have found := fun w => silentFound_of_tested (b := reckoningBegun s) (w := w)
    have unfound := silentFound_of_untested (b := reckoningBegun s)
    have kind := isCurrent_meterSilent (reckoningBegun s)
    have flag := meterSilent_flag (reckoningBegun s)
    have window := takenOf_window (reckoningBegun s)
    have fresh := newSilentWindow_taken (reckoningBegun s)
    have room := (takenOf_books (reckoningBegun s)).1
    have entry := (silentChecked_countSilentWindow (takenOf (reckoningBegun s))).entry
    have checked := (silentChecked_countSilentWindow (takenOf (reckoningBegun s))).current
    have later := fun e => (workRecord_log_checked (reckoningBegun s)).mem (e := e)
    obtain ⟨-, -, -, -, qWorking, qMinute, -⟩ := takenOf_same (reckoningBegun s)
    have before : (takenOf (reckoningBegun s)).isCurrent .meterSilent = s.isCurrent .meterSilent :=
      (rfl : (takenOf (reckoningBegun s)).isCurrent .meterSilent = (reckon (reckoningBegun s)).isCurrent .meterSilent).trans
        (isCurrent_reckon (by decide) _)
    have next : nextSilentWindow (takenOf (reckoningBegun s)) = match (takenOf (reckoningBegun s)).acu.silentWindow with
      | none => (takenOf (reckoningBegun s)).newSilentWindow
      | some w => if 60 ≤ w.count + 1 then (takenOf (reckoningBegun s)).newSilentWindow else { w with count := w.count + 1 } := rfl
    rw [fresh, window] at next
    generalize finish (workRecord (reckoningBegun s)) = t at *
    have begun : (reckoningBegun s).acu = s.acu ∧ (reckoningBegun s).ini = s.ini := ⟨rfl, rfl⟩
    rw [begun.1, begun.2] at next
    refine ⟨t, done, absent, fun closed trusted => ?_, fun closed trusted w stood due => ?_, fun untested => ?_,
      fun now then_ few => ?_⟩
    · rw [present closed trusted, next]
      refine ⟨fun none_ => ?_, fun w stood few => ?_, fun w stood due => ?_⟩
      · rw [none_]; rfl
      · rw [Option.mem_def.1 stood]
        exact congrArg some (if_neg (by dsimp only; omega))
      · rw [Option.mem_def.1 stood]
        exact congrArg some (if_pos (by dsimp only; omega))
    · have tests := tested.2 ⟨closed, trusted, w, stood, due⟩
      have finds := found w tests stood
      rw [kind, if_pos tests, flag, Bool.or_eq_true, finds]
      exact ⟨Iff.rfl, Iff.rfl⟩
    · have not_ : silentTested (takenOf (reckoningBegun s)) = false := by
        rw [Bool.eq_false_iff]
        intro tests
        obtain ⟨closed, trusted, w, stood, due⟩ := tested.1 tests
        rcases untested with away | doubted | none_ | few
        · exact away closed
        · have same : (reckonedRecord (reckoningBegun s)).status = (reckonedRecord s).status := rfl
          rw [same, doubted] at trusted
          cases trusted
        · have stands : s.acu.silentWindow = some w := stood
          rw [none_] at stands
          cases stands
        · have less := few w stood
          omega
      rw [kind, not_, flag, unfound not_, Bool.or_false]
      exact ⟨rfl, rfl⟩
    · have current : (countSilentWindow (takenOf (reckoningBegun s))).isCurrent .meterSilent = t.isCurrent .meterSilent := by
        rw [kind, checked, before]
        rfl
      have small : (takenOf (reckoningBegun s)).acu.period.entries.length < 8 := by
        have most : (reckoningBegun s).acu.period.entries.length ≤ 3 := few
        omega
      have made := entry (qWorking.trans on) small (current.trans now) (before.trans then_)
      rw [qMinute] at made
      exact later _ made

end Sys2Proof.Machine

end

/-! What each step of an event moves of the movement controller's own fields (R52 to R71). -/

section

namespace Sys2Proof.Machine

/-! ## The steps of a record (R52) -/

theorem liftCheck_mvc_frame (q : State) : (liftCheck q).mvc =
    { q.mvc with matchRun := (liftCheck q).mvc.matchRun, mismatchRun := (liftCheck q).mvc.mismatchRun } := by
  unfold liftCheck
  split
  · split
    · dsimp only
      split <;> rfl
    · dsimp only
      split
      · rw [raiseWithEntry_mvc]
      · rfl
  · rfl

theorem countCycle_mvc_frame (q : State) : (countCycle q).mvc =
    { q.mvc with cycles := (countCycle q).mvc.cycles, lowSeen := (countCycle q).mvc.lowSeen } := by
  unfold countCycle
  split
  · rfl
  · split
    · rfl
    · split <;> rfl

theorem countRest_mvc_frame (q : State) : (countRest q).mvc =
    { q.mvc with restSub := (countRest q).mvc.restSub, restTime := (countRest q).mvc.restTime } := by
  unfold countRest
  split
  · split <;> rfl
  · rfl

theorem judgeTurnover_mvc_frame (q : State) :
    (judgeTurnover q).mvc = { q.mvc with turnoverDue := (judgeTurnover q).mvc.turnoverDue } := by
  unfold judgeTurnover
  split <;> rfl

/-- What the steps after the lift check move of the movement controller (R52 steps 3 to 7). -/
theorem movementRecord_mvc (q : State) :
    let l := liftCheck (placeRecord q)
    let c := countLossWindow (guarded q)
    let m := (movementRecord q).mvc
    c.mvc = { l.mvc with window := c.mvc.window } ∧
    m = { l.mvc with window := c.mvc.window, cycles := (countCycle c).mvc.cycles, lowSeen := (countCycle c).mvc.lowSeen,
                     restSub := (countRest (countCycle c)).mvc.restSub, restTime := (countRest (countCycle c)).mvc.restTime,
                     turnoverDue := (judgeTurnover (countRest (countCycle c))).mvc.turnoverDue } := by
  intro l c m
  have loss : c.mvc = { l.mvc with window := c.mvc.window } := by
    have checked := (lossChecked_countLossWindow (guarded q)).mvc
    have guard : (guarded q).mvc = l.mvc := judgeLimitGuard_mvc _
    rw [guard] at checked
    exact checked
  refine ⟨loss, ?_⟩
  have cycle := countCycle_mvc_frame c
  have rest := countRest_mvc_frame (countCycle c)
  have turn := judgeTurnover_mvc_frame (countRest (countCycle c))
  have whole : m = (judgeTurnover (countRest (countCycle c))).mvc := congrArg State.mvc (movementRecord_eq q)
  generalize judgeTurnover (countRest (countCycle c)) = z at *
  generalize countRest (countCycle c) = y at *
  generalize countCycle c = x at *
  generalize c = w at *
  rw [whole, turn, rest, cycle, loss]

/-! ## The re-grade, the hand-off and the commands -/

theorem regrade_mvc_frame (q : State) : (regrade q).mvc = { q.mvc with window := (regrade q).mvc.window } := by
  unfold regrade
  split
  · dsimp only
    split
    · rfl
    · rw [judgeSilentWindow_mvc, judgeLossWindow_window, signalGrade_mvc]
  · rfl

/-- A command begins no landing leg and ends none: no command brings a drive to CLOSED (R43, R59). -/
theorem giveCommand_mvc_frame (d : Side) (c : DriveCommand) (q : State) :
    (giveCommand d c q).mvc = { q.mvc with window := (giveCommand d c q).mvc.window } := by
  unfold giveCommand
  split
  · rfl
  · obtain ⟨x, hx⟩ : ∃ x, x = Drive.take q.travelMs c (q.vdu.drive d) := ⟨_, rfl⟩
    rw [← hx]
    by_cases still : x.state = (q.vdu.drive d).state
    · rw [putDrive_of_still still]
    · have opens : x.state ≠ .isClosed := fun closed => still (closed.trans (take_isClosed (hx ▸ closed)).symm)
      have moved : (driveMoved d x q).mvc = q.mvc := by
        unfold driveMoved
        dsimp only
        rw [if_neg (fun h => opens h.2), signalDrive_mvc]
        split <;> rfl
      rw [putDrive_of_moved still, judgeSilentWindow_mvc, judgeLossWindow_window, moved]

theorem deriveCommands_mvc_frame (q : State) :
    (deriveCommands q).mvc = { q.mvc with window := (deriveCommands q).mvc.window } := by
  rw [deriveCommands, giveCommand_mvc_frame, giveCommand_mvc_frame]

/-- What a pass of the settling moves of the movement controller: the request, the hand-off and the window. -/
theorem settleFrom_mvc_frame (old q : State) : (settleFrom old q).mvc =
    { (handOn old (chooseRoles q)).mvc with window := (settleFrom old q).mvc.window } := by
  obtain ⟨z, hz, mvc, -⟩ := settleFrom_blocks old q
  rw [mvc, hz]
  exact deriveCommands_mvc_frame _

theorem chooseRoles_mvc_frame (q : State) :
    (chooseRoles q).mvc = { q.mvc with forcedGive := (chooseRoles q).mvc.forcedGive } := by
  have mvc : (chooseRoles q).mvc = (judgeRequest q).mvc := by simp [chooseRoles]
  rw [mvc]
  rfl

theorem handOn_mvc_frame (old q : State) : (handOn old q).mvc = { q.mvc with
    restTime := (handOn old q).mvc.restTime, restSub := (handOn old q).mvc.restSub,
    turnoverDue := (handOn old q).mvc.turnoverDue } := by
  unfold handOn
  split
  · rfl
  · dsimp only
    rw [trigger_mvc]
    split <;> split <;> rfl

/-- A role set as it was, or an empty one, is handed on with rest and turnover as they stand (R69, R71). -/
theorem handOn_mvc_of_quiet {old q : State}
    (quiet : q.holdsTake = old.holdsTake ∧ q.holdsGive = old.holdsGive ∨ q.holdsTake = false ∧ q.holdsGive = false) :
    (handOn old q).mvc = q.mvc := by
  unfold handOn
  rcases quiet with same | ⟨take, give⟩
  · rw [if_pos ((sameRoles_iff old q).2 same)]
  · split
    · rfl
    · simp [trigger_mvc, take, give]

/-- The first role joined ends the rest and the turnover due (R69, R71). -/
theorem handOn_mvc_of_joined {old q : State} (take : old.holdsTake = false) (give : old.holdsGive = false)
    (joined : q.holdsTake = true ∨ q.holdsGive = true) :
    (handOn old q).mvc = { q.mvc with restTime := 0, restSub := 0, turnoverDue := false } := by
  have changed : ¬ sameRoles old q = true := fun same => by
    obtain ⟨sameTake, sameGive⟩ := (sameRoles_iff old q).1 same
    rw [sameTake, sameGive, take, give] at joined
    simp at joined
  have holds : (q.holdsTake || q.holdsGive) = true := by simpa using joined
  unfold handOn
  rw [if_neg changed]
  simp [trigger_mvc, holds, keepsRole, take, give]

/-! ## A record's whole event -/

/-- The roles as the event of a record chooses them. -/
theorem holds_workRecord (b : State) (r : Role) : ∃ g, g = regrade (recordWorked b) ∧
    (finish (workRecord b)).holds r = (chooseRoles g).holds r := by
  obtain ⟨g, hg, done⟩ := finish_workRecord b
  refine ⟨g, hg, ?_⟩
  rw [done, State.holds, finish_ysu, beginWrite_ysu]
  exact settleFrom_holds g r g

/-- What the end of a record's event moves of the movement controller: the request, the hand-off and the window. -/
theorem mvc_workRecord (b : State) : ∃ g, g = regrade (recordWorked b) ∧
    (finish (workRecord b)).mvc = { (handOn g (chooseRoles g)).mvc with window := (finish (workRecord b)).mvc.window } := by
  obtain ⟨g, hg, done⟩ := finish_workRecord b
  refine ⟨g, hg, ?_⟩
  have mvc : (finish (beginWrite (settleFrom g g))).mvc = (settleFrom g g).mvc := by rw [finish_mvc, beginWrite_mvc]
  rw [done, mvc]
  exact settleFrom_mvc_frame g g

/-- What the record's own steps left of the movement controller stands, but for the request, the hand-off and the window. -/
theorem mvc_workRecord_frame (b : State) :
    let t := (finish (workRecord b)).mvc
    t = { (recordWorked b).mvc with
      forcedGive := t.forcedGive, window := t.window, restTime := t.restTime, restSub := t.restSub,
      turnoverDue := t.turnoverDue } := by
  obtain ⟨g, hg, mvc⟩ := mvc_workRecord b
  have handed := handOn_mvc_frame g (chooseRoles g)
  have chosen := chooseRoles_mvc_frame g
  have graded := regrade_mvc_frame (recordWorked b)
  rw [← hg] at graded
  rw [chosen, graded] at handed
  generalize (handOn g (chooseRoles g)).mvc = h at *
  intro t
  have whole : t = { h with window := t.window } := mvc
  generalize t = x at *
  rw [handed] at whole
  rw [whole]

end Sys2Proof.Machine

end

/-! The record that a reckoning makes and its grade (R5, R20 to R24, R68). -/

section

namespace Sys2Proof.Machine

/-! ## The record as its readers find it -/

/-- What the movement controller finds of a record made in `b`, the account unit's work done (R52). -/
def accounted (b : State) : State := accountRecord (reckon b)

theorem recordWorked_accounted (b : State) : recordWorked b = movementRecord (accounted b) := rfl

theorem accounted_same (b : State) : (accounted b).srk = (reckon b).srk ∧ (accounted b).vdu = b.vdu ∧
    (accounted b).ysu = b.ysu ∧ (accounted b).station = b.station ∧ (accounted b).cfg = b.cfg ∧
    (accounted b).mvc = { b.mvc with frostTemp := temperatureTaken b } ∧ (accounted b).ini.minute = b.ini.minute := by
  obtain ⟨-, -, -, vdu, station, cfg, mvc⟩ : True ∧ True ∧ True ∧ _ ∧ _ ∧ _ ∧ _ :=
    ⟨trivial, trivial, trivial, (reckon_same b).2.2.2.1, (reckon_same b).2.2.2.2.2.1, (reckon_same b).2.2.2.2.2.2.1,
      (reckon_same b).2.2.2.2.2.2.2.1⟩
  have frame := accountRecord_frame (reckon b)
  refine ⟨accountRecord_srk _, ?_, ?_, ?_, ?_, ?_, ?_⟩
  · rw [accounted, accountRecord_vdu, vdu]
  · rw [accounted, frame]
    simp
  · rw [accounted, accountRecord_station, station]
  · rw [accounted, State.cfg, frame]
    exact cfg
  · rw [accounted, frame]
    exact mvc
  · rw [accounted, accountRecord_ini]
    simp

theorem accounted_record (b : State) : (accounted b).srk.record = reckonedRecord b := by
  rw [(accounted_same b).1, reckon_record]

/-- The account unit's work logs two entries at most, the reckoning's own with it. -/
theorem accounted_entries (b : State) :
    (accounted b).acu.period.entries.length ≤ b.acu.period.entries.length + 2 := by
  have log := (silentChecked_countSilentWindow (takenOf b)).log.length
  have books := (takenOf_books b).1
  have same : (silentMarked (takenOf b)).acu.period.entries = (takenOf b).acu.period.entries := rfl
  rw [same] at log
  have whole : accounted b = countSilentWindow (takenOf b) := rfl
  rw [whole]
  omega

/-- A kind that neither the reckoning nor the account unit moves (R24, R159). -/
theorem isCurrent_accounted {k : AlarmKind} (stock : k ≠ .stockInvalid) (silent : k ≠ .meterSilent) (b : State) :
    (accounted b).isCurrent k = b.isCurrent k := by
  rw [accounted, isCurrent_accountRecord silent, isCurrent_reckon stock]

/-! ## The fields that a record's event leaves (R5) -/

/-- The blocks and fields that no record moves. -/
theorem frame_workRecord (b : State) : let t := finish (workRecord b)
    t.station = b.station ∧ t.number = b.number ∧ t.plug = b.plug ∧ t.listenTimer = b.listenTimer ∧
      t.ini = { b.ini with inletCount := 0, outletCount := 0 } ∧ t.ysu.order = b.ysu.order ∧ t.ysu.table = b.ysu.table ∧
      t.acu.list = b.acu.list ∧ t.srk.timer = b.srk.timer := by
  obtain ⟨g, hg, done⟩ := finish_workRecord b
  obtain ⟨list, -⟩ := (figures_workRecord b).books
  obtain ⟨r, taken, ⟨-, -, -, -, -, ⟨list', -⟩, -⟩, -⟩ := takenOf_from b
  obtain ⟨-, -, -, -, -, -, -, sameList, -⟩ := recordTaken_figures r
  rw [taken, sameList, list'] at list
  have ysu : g.ysu = b.ysu := by rw [hg]; simp [recordWorked]
  have unit := settleFrom_same g g
  intro t
  refine ⟨?_, ?_, ?_, ?_, ?_, ?_, ?_, list, ?_⟩
  · simp [t, done, hg, recordWorked]
  · simp [t, done, hg, recordWorked]
  · simp [t, done, hg, recordWorked]
  · have worked : (recordWorked b).listenTimer = b.listenTimer := by
      rw [recordWorked, movementRecord_frame, accountRecord_frame]
      exact reckon_listenTimer b
    simp [t, done, hg, worked]
  · simp [t, done, hg, recordWorked]
  · rw [show t.ysu = (settleFrom g g).ysu by simp [t, done], unit.order, ysu]
  · rw [show t.ysu = (settleFrom g g).ysu by simp [t, done], unit.table, ysu]
  · rw [show t.srk = g.srk by simp [t, done], hg, regrade_srk, recordWorked_srk]
    unfold reckon
    dsimp only
    split
    · rw [signalGrade_srk]
    · rfl

/-- The record at the end of its event: the reckoned one, graded with LIFT MISMATCH as it then stands (R5, R20, R22). -/
theorem record_workRecord {b : State} (working : b.working = true) : let t := finish (workRecord b)
    t.srk.record = { reckonedRecord b with
      status := gradeOf b.ini.crown.statusTaken (t.isCurrent .liftMismatch) (substitutionsNow b) } := by
  obtain ⟨g, hg, done⟩ := finish_workRecord b
  have kind := isCurrent_workRecord (k := .liftMismatch) b
  rw [isCurrent_regrade_other (by decide)] at kind
  have on : (recordWorked b).working = true := by rw [State.working, recordWorked_station]; exact working
  have graded : (recordWorked b).srk.graded = true := by rw [recordWorked_srk]; exact reckon_graded b
  have status := regrade_status on graded
  have crown : (recordWorked b).ini.crown = b.ini.crown := by simp [recordWorked]
  rw [gradeNow, crown, ← kind, recordWorked_srk, reckon_record, ← hg] at status
  have record := regrade_srk (recordWorked b)
  rw [← hg, recordWorked_srk] at record
  intro t
  have srk : t.srk = g.srk := by simp only [t, done, finish_srk, beginWrite_srk, settleFrom_srk]
  have whole : g.srk.record = { reckonedRecord b with status := g.srk.record.status } := by
    rw [record, reckon_record]
  rw [srk, whole, status]
  rfl

theorem abilityLaw_workRecord (b : State) : abilityLaw (finish (workRecord b)) := by
  obtain ⟨g, -, done⟩ := finish_workRecord b
  rw [done]
  exact ((SameTerms.beginWrite _).trans (SameTerms.finish _)).ability (settled_settleFrom g g).ability

/-! ## The cycle count (R68) -/

theorem countCycle_of_invalid {q : State} (invalid : q.srk.record.status = .invalid) : countCycle q = q := if_pos invalid

/-- A record whose crown height stands counts a cycle from full, and begins one at a quarter (R68). -/
theorem countCycle_of_valid {q : State} (valid : q.srk.record.status ≠ .invalid) :
    let full := 750 ≤ q.srk.record.perMille ∧ q.mvc.lowSeen = true
    (countCycle q).mvc.cycles = (if full then min (q.mvc.cycles + 1) 65535 else q.mvc.cycles) ∧
    (countCycle q).mvc.lowSeen = (if full then false else if q.srk.record.perMille ≤ 250 then true else q.mvc.lowSeen) := by
  unfold countCycle
  rw [if_neg valid]
  by_cases full : 750 ≤ q.srk.record.perMille ∧ q.mvc.lowSeen = true
  · rw [if_pos full]
    dsimp only
    rw [if_pos full, if_pos full]
    exact ⟨rfl, rfl⟩
  · rw [if_neg full]
    dsimp only
    rw [if_neg full, if_neg full]
    split <;> exact ⟨rfl, rfl⟩

/-- Only an INVALID crown height grades a record INVALID (R20). -/
theorem gradeOf_invalid_iff {crown : InputStatus} {mismatch : Bool} {subs : Substitutions} :
    gradeOf crown mismatch subs = .invalid ↔ crown = .invalid := by
  cases crown with
  | invalid => exact ⟨fun _ => rfl, fun _ => rfl⟩
  | held => exact ⟨fun h => (by cases h), fun h => (by cases h)⟩
  | valid =>
    refine ⟨fun h => ?_, fun h => (by cases h)⟩
    unfold gradeOf at h
    dsimp only at h
    split at h <;> cases h

/-! ## The steps of the movement controller on a record made in `b` (R52) -/

/-- The record as the still-loss check leaves it. -/
def lossCounted (b : State) : State := countLossWindow (guarded (accounted b))

theorem lossCounted_same (b : State) : (lossCounted b).srk.record = reckonedRecord b ∧ (lossCounted b).ysu = b.ysu ∧
    (lossCounted b).station = b.station ∧ (lossCounted b).cfg = b.cfg ∧
    (lossCounted b).mvc = { (liftCheck (placeRecord (accounted b))).mvc with window := (lossCounted b).mvc.window } := by
  obtain ⟨-, -, ysu, station, cfg, -⟩ := accounted_same b
  have record := accounted_record b
  have mvc := (movementRecord_mvc (accounted b)).1
  have frame := countLossWindow_frame (guarded (accounted b))
  have lift := liftCheck_frame (placeRecord (accounted b))
  have guard := judgeLimitGuard_frame (liftCheck (placeRecord (accounted b)))
  have srk' : (lossCounted b).srk = (accounted b).srk := by rw [lossCounted, frame]; dsimp only; rw [guarded, guard, lift]; rfl
  have ysu' : (lossCounted b).ysu = (accounted b).ysu := by rw [lossCounted, frame]; dsimp only; rw [guarded, guard, lift]; rfl
  have station' : (lossCounted b).station = (accounted b).station := by
    rw [lossCounted, frame]; dsimp only; rw [guarded, guard, lift]; rfl
  have plug' : (lossCounted b).plug = (accounted b).plug := by
    rw [lossCounted, frame]; dsimp only; rw [guarded, guard, lift]; rfl
  exact ⟨by rw [srk', record], by rw [ysu', ysu], by rw [station', station], by rw [State.cfg, plug']; exact cfg, mvc⟩

/-- The movement controller at the end of a record's event, step by step (R52). -/
theorem steps_workRecord (b : State) : let m := (finish (workRecord b)).mvc
    let l := (liftCheck (placeRecord (accounted b))).mvc
    let c := countCycle (lossCounted b)
    m = { l with forcedGive := m.forcedGive, window := m.window, restTime := m.restTime, restSub := m.restSub,
                 turnoverDue := m.turnoverDue, cycles := c.mvc.cycles, lowSeen := c.mvc.lowSeen } := by
  have steps := (movementRecord_mvc (accounted b)).2
  have frame := mvc_workRecord_frame b
  rw [recordWorked_accounted] at frame
  have same : lossCounted b = countLossWindow (guarded (accounted b)) := rfl
  rw [← same] at steps
  dsimp only at steps frame ⊢
  generalize (movementRecord (accounted b)).mvc = w at *
  generalize (finish (workRecord b)).mvc = m at *
  rw [frame, steps]

/-- Where a record places the holder (R53, R54, R58). -/
theorem place_workRecord (b : State) : let m := (finish (workRecord b)).mvc
    m.zone = zoneOf b.cfg (acceptedHeight b) ∧ m.motion = motionOf b.mvc.lastHeight (acceptedHeight b) ∧
      m.lastHeight = some (acceptedHeight b) ∧ (m.topLeg = true ↔ m.zone = .top) ∧ m.frostTemp = temperatureTaken b := by
  have steps := steps_workRecord b
  have lift := liftCheck_mvc_frame (placeRecord (accounted b))
  obtain ⟨-, -, -, -, cfg, mvc, -⟩ := accounted_same b
  have record := accounted_record b
  have placed : (placeRecord (accounted b)).mvc = { (accounted b).mvc with
    zone := zoneOf b.cfg (acceptedHeight b), motion := motionOf b.mvc.lastHeight (acceptedHeight b)
    lastHeight := some (acceptedHeight b), topLeg := zoneOf b.cfg (acceptedHeight b) == .top
    landingLeg := (placeRecord (accounted b)).mvc.landingLeg } := by
    unfold placeRecord
    dsimp only
    rw [record, cfg, mvc]
    rfl
  rw [placed, mvc] at lift
  rw [lift] at steps
  intro m
  have whole := steps
  refine ⟨congrArg Mvc.zone whole, congrArg Mvc.motion whole, congrArg Mvc.lastHeight whole, ?_, congrArg Mvc.frostTemp whole⟩
  have top : m.topLeg = (zoneOf b.cfg (acceptedHeight b) == .top) := congrArg Mvc.topLeg whole
  have zone : m.zone = zoneOf b.cfg (acceptedHeight b) := congrArg Mvc.zone whole
  rw [top, zone, beq_iff_eq]

theorem cycles_workRecord (b : State) : let m := (finish (workRecord b)).mvc
    let r := reckonedRecord b
    (b.ini.crown.statusTaken = .invalid → m.cycles = b.mvc.cycles ∧ m.lowSeen = b.mvc.lowSeen) ∧
    (b.ini.crown.statusTaken ≠ .invalid →
      m.cycles = (if 750 ≤ r.perMille ∧ b.mvc.lowSeen = true then min (b.mvc.cycles + 1) 65535 else b.mvc.cycles) ∧
      m.lowSeen = (if 750 ≤ r.perMille ∧ b.mvc.lowSeen = true then false
        else if r.perMille ≤ 250 then true else b.mvc.lowSeen)) := by
  have steps := steps_workRecord b
  obtain ⟨record, -, -, -, mvc⟩ := lossCounted_same b
  have lift := liftCheck_mvc_frame (placeRecord (accounted b))
  have before := (accounted_same b).2.2.2.2.2.1
  have cycles : (lossCounted b).mvc.cycles = b.mvc.cycles := by
    rw [mvc, lift]
    show (accounted b).mvc.cycles = _
    rw [before]
  have low : (lossCounted b).mvc.lowSeen = b.mvc.lowSeen := by
    rw [mvc, lift]
    show (accounted b).mvc.lowSeen = _
    rw [before]
  have status : (lossCounted b).srk.record.status = .invalid ↔ b.ini.crown.statusTaken = .invalid := by
    rw [record]
    exact gradeOf_invalid_iff
  intro m r
  have c := congrArg Mvc.cycles steps
  have l := congrArg Mvc.lowSeen steps
  change m.cycles = (countCycle (lossCounted b)).mvc.cycles at c
  change m.lowSeen = (countCycle (lossCounted b)).mvc.lowSeen at l
  refine ⟨fun invalid => ?_, fun valid => ?_⟩
  · rw [c, l, countCycle_of_invalid (status.2 invalid)]
    exact ⟨cycles, low⟩
  · have counted := countCycle_of_valid (fun h => valid (status.1 h))
    dsimp only at counted
    rw [record, cycles, low] at counted
    rw [c, l]
    exact counted

/-! ## STOCK INVALID (R23, R24) -/

/-- A reckoning that changes the grade, or makes the first one, signals it (R23, R24). -/
theorem reckon_of_changed {b : State} (changed : b.srk.graded = false ∨ b.srk.record.status ≠ (reckonedRecord b).status) :
    ∃ q, reckon b = signalGrade (reckonedRecord b).status q ∧ q.station = b.station ∧ q.acu = b.acu ∧ q.ini = b.ini := by
  have now : (!b.srk.graded || b.srk.record.status != (reckonedRecord b).status) = true := by
    rcases changed with first | other
    · simp [first]
    · simp [other]
  unfold reckon
  dsimp only
  rw [if_pos now]
  exact ⟨_, rfl, rfl, rfl, rfl⟩

theorem reckon_of_same {b : State} (graded : b.srk.graded = true) (same : b.srk.record.status = (reckonedRecord b).status) :
    (reckon b).oau = b.oau := by
  have still : ¬ (!b.srk.graded || b.srk.record.status != (reckonedRecord b).status) = true := by simp [graded, same]
  unfold reckon
  dsimp only
  rw [if_neg still]

/-- STOCK INVALID at the end of a record's event: the reckoning's, or none where the lift check has changed the grade
(R21, R22, R23). -/
theorem stockInvalid_workRecord {b : State} (working : b.working = true) : let t := finish (workRecord b)
    let r := reckonedRecord b
    (t.srk.record.status = r.status → t.isCurrent .stockInvalid = (reckon b).isCurrent .stockInvalid) ∧
    (t.srk.record.status ≠ r.status → t.isCurrent .stockInvalid = false ∧ r.status ≠ .invalid ∧ r.status ≠ .held) := by
  have record := record_workRecord working
  have kind := isCurrent_workRecord (k := .stockInvalid) b
  have worked : (recordWorked b).isCurrent .stockInvalid = (reckon b).isCurrent .stockInvalid := by
    rw [recordWorked, isCurrent_movementRecord (by decide) (by decide) (by decide), isCurrent_accountRecord (by decide)]
  have on : (recordWorked b).working = true := by rw [State.working, recordWorked_station]; exact working
  have graded : (recordWorked b).srk.graded = true := by rw [recordWorked_srk]; exact reckon_graded b
  have was : (recordWorked b).srk.record.status = (reckonedRecord b).status := by rw [recordWorked_srk, reckon_record]
  have becomes : (finish (workRecord b)).srk.record.status = gradeNow (recordWorked b) := by
    obtain ⟨g, hg, done⟩ := finish_workRecord b
    rw [done, finish_srk, beginWrite_srk, settleFrom_srk, hg, regrade_status on graded]
  have fresh : (reckonedRecord b).status =
      gradeOf b.ini.crown.statusTaken (b.isCurrent .liftMismatch) (substitutionsNow b) := rfl
  dsimp only at record ⊢
  generalize finish (workRecord b) = t at *
  generalize reckonedRecord b = r at *
  refine ⟨fun same => ?_, fun other => ?_⟩
  · rw [kind, regrade_of_same (by rw [was, ← becomes]; exact same), worked]
  · have change : gradeNow (recordWorked b) ≠ (recordWorked b).srk.record.status := by rw [was, ← becomes]; exact other
    have status : t.srk.record.status =
        gradeOf b.ini.crown.statusTaken (t.isCurrent .liftMismatch) (substitutionsNow b) := by rw [record]
    have valid : b.ini.crown.statusTaken = .valid := by
      cases crown : b.ini.crown.statusTaken with
      | valid => rfl
      | held => rw [status, fresh, crown] at other; exact absurd rfl other
      | invalid => rw [status, fresh, crown] at other; exact absurd rfl other
    have trusted : ∀ mismatch subs, gradeOf .valid mismatch subs ≠ .invalid ∧ gradeOf .valid mismatch subs ≠ .held := by
      intro mismatch subs
      unfold gradeOf
      dsimp only
      split <;> exact ⟨by decide, by decide⟩
    refine ⟨?_, by rw [fresh, valid]; exact (trusted _ _).1, by rw [fresh, valid]; exact (trusted _ _).2⟩
    have windows : ∀ q : State, (judgeSilentWindow (judgeLossWindow q)).isCurrent .stockInvalid = q.isCurrent .stockInvalid :=
      fun q => by simp [State.isCurrent]
    rw [kind, regrade_of_change on graded change, windows, Bool.eq_false_iff, ne_eq, isCurrent_signalGrade, ← becomes]
    intro invalid
    have same : t.srk.record.status = .invalid := invalid
    rw [status, valid] at same
    exact (trusted _ _).1 same

/-- What the reckoning logs stands at the end of its event. -/
theorem log_from_reckon (b : State) {e : EventEntry} (stands : e ∈ (reckon b).acu.period.entries) :
    e ∈ (finish (workRecord b)).acu.period.entries := by
  have taken : e ∈ (silentMarked (takenOf b)).acu.period.entries := by
    have entries : (takenOf b).acu.period.entries = (reckon b).acu.period.entries := by
      obtain ⟨-, -, -, -, -, entries, -⟩ := recordTaken_figures (reckon b)
      exact entries
    exact (congrArg (e ∈ ·) entries).mpr stands
  exact (workRecord_log b).mem taken

end Sys2Proof.Machine

end

/-! The lift check and the limit guard at a record (R58 to R63). -/

section

namespace Sys2Proof.Machine

/-! ## The entries of the movement controller's steps -/

/-- What a step of the record's work logs stands at the end of its event. -/
theorem log_from_worked {n : Nat} {q b : State} (worked : Logged n q (recordWorked b)) :
    Logged (n + 1) q (finish (workRecord b)) := by
  obtain ⟨g, hg, done⟩ := finish_workRecord b
  have graded : Logged (n + 1) q g := by
    rw [hg]
    exact worked.trans (.regrade _)
  have ended : Logged 0 g (finish (workRecord b)) := by
    rw [done]
    exact (Logged.settleFrom (n := 0) g g).trans (.ofSame (n := 0) (by rw [finish_acu, beginWrite_acu]))
  exact graded.trans ended

theorem log_from_guarded (b : State) : Logged 2 (guarded (accounted b)) (finish (workRecord b)) := by
  refine log_from_worked (n := 1) ?_
  rw [recordWorked_accounted, movementRecord_eq]
  have loss := Logged.countLossWindow (guarded (accounted b))
  generalize countLossWindow (guarded (accounted b)) = c at *
  exact loss.trans (.ofSame (n := 0) (by rw [lastSteps_frame]))

theorem log_from_liftCheck (b : State) : Logged 3 (liftCheck (placeRecord (accounted b))) (finish (workRecord b)) :=
  ((Logged.judgeLimitGuard _).trans (log_from_guarded b)).mono (by omega)

/-! ## The limit guard (R58 to R60) -/

/-- LIMIT GUARD and LIFT MISMATCH at the end of a record's event are as the steps of the movement controller left them. -/
theorem isCurrent_steps {k : AlarmKind} (stock : k ≠ .stockInvalid) (loss : k ≠ .stillLoss) (b : State) :
    (finish (workRecord b)).isCurrent k = (guarded (accounted b)).isCurrent k := by
  rw [isCurrent_workRecord, isCurrent_regrade_other stock, recordWorked_accounted, movementRecord_eq, isCurrent_lastSteps,
    isCurrent_countLossWindow loss]

theorem placeRecord_landingLeg (q : State) : (placeRecord q).mvc.landingLeg = true ↔
    zoneOf q.cfg q.srk.record.h = .landed ∧ (q.mvc.landingLeg = true ∨
      ((q.mvc.lastHeight = none ∨ q.mvc.zone ≠ .landed) ∧ q.vdu.outlet.state = .isOpen)) := by
  unfold placeRecord State.outletOpen
  simp only [Bool.and_eq_true, Bool.or_eq_true, beq_iff_eq, bne_iff_ne, Option.isNone_iff_eq_none]
  refine and_congr_right fun landed => ?_
  rw [landed]

/-- The legs at the end of a record's event are those of its arrival (R58, R59). -/
theorem legs_workRecord (b : State) : let m := (finish (workRecord b)).mvc
    (m.landingLeg = true ↔ m.zone = .landed ∧ (b.mvc.landingLeg = true ∨
      ((b.mvc.lastHeight = none ∨ b.mvc.zone ≠ .landed) ∧ b.vdu.outlet.state = .isOpen))) ∧
    m.topLeg = (liftCheck (placeRecord (accounted b))).mvc.topLeg ∧
    m.landingLeg = (liftCheck (placeRecord (accounted b))).mvc.landingLeg := by
  have steps := steps_workRecord b
  have lift := liftCheck_mvc_frame (placeRecord (accounted b))
  have zone := (place_workRecord b).1
  have landing := placeRecord_landingLeg (accounted b)
  obtain ⟨-, vdu, -, -, cfg, mvc, -⟩ := accounted_same b
  rw [cfg, accounted_record, mvc, vdu] at landing
  dsimp only at steps zone ⊢
  generalize (finish (workRecord b)).mvc = m at *
  have top : m.topLeg = (liftCheck (placeRecord (accounted b))).mvc.topLeg := by rw [steps]
  have leg : m.landingLeg = (liftCheck (placeRecord (accounted b))).mvc.landingLeg := by rw [steps]
  refine ⟨?_, top, leg⟩
  rw [leg, lift, zone]
  exact landing

theorem limitGuard_workRecord (b : State) : let t := finish (workRecord b)
    (t.isCurrent .limitGuard = true ↔ t.mvc.topLeg = true ∨ t.mvc.landingLeg = true) := by
  obtain ⟨-, top, landing⟩ := legs_workRecord b
  have guard := isCurrent_judgeLimitGuard_guard (liftCheck (placeRecord (accounted b)))
  intro t
  have now : t.isCurrent .limitGuard = (guarded (accounted b)).isCurrent .limitGuard :=
    isCurrent_steps (by decide) (by decide) b
  rw [now, guarded, guard, top, landing, Bool.or_eq_true]

/-- A LIMIT GUARD that a record newly raises has its entry (R60). -/
theorem limitGuard_entry {b : State} (working : b.working = true) (now : (finish (workRecord b)).isCurrent .limitGuard = true)
    (before : b.isCurrent .limitGuard = false) (room : b.acu.period.entries.length ≤ 3) :
    { kind := .limitGuard, minute := b.ini.minute } ∈ (finish (workRecord b)).acu.period.entries := by
  have later := fun e => (log_from_guarded b).mem (e := e)
  rw [isCurrent_steps (by decide) (by decide)] at now
  have few := (Logged.liftCheck (placeRecord (accounted b))).length
  have entries := accounted_entries b
  obtain ⟨-, -, -, station, -, -, minute⟩ := accounted_same b
  have free : (liftCheck (placeRecord (accounted b))).isCurrent .limitGuard = false := by
    rw [isCurrent_liftCheck (by decide)]
    exact (isCurrent_accounted (by decide) (by decide) b).trans before
  have frame := liftCheck_frame (placeRecord (accounted b))
  have station' : (liftCheck (placeRecord (accounted b))).station = b.station := by rw [frame]; exact station
  have minute' : (liftCheck (placeRecord (accounted b))).ini.minute = b.ini.minute := by rw [frame]; exact minute
  have placed : (placeRecord (accounted b)).acu = (accounted b).acu := rfl
  rw [placed] at few
  rw [guarded] at later now
  generalize liftCheck (placeRecord (accounted b)) = q at *
  have raised : judgeLimitGuard q = raiseWithEntry .limitGuard .limitGuard q := by
    rw [isCurrent_judgeLimitGuard_guard] at now
    exact if_pos now
  have on : q.working = true := by rw [State.working, station']; exact working
  have made := mem_raiseWithEntry (k := .limitGuard) (e := .limitGuard) on (by omega) free
  rw [minute'] at made
  rw [raised] at later
  exact later _ made

/-! ## The lift check (R61 to R63) -/

/-- The joints of a holder are the sums of its lower lifts' travels (R61). -/
theorem mem_joints {j : Nat} (lifts : List Lift) (base : Nat) : j ∈ joints base lifts ↔
    ∃ k, k < lifts.length - 1 ∧ j = base + totalTravel (lifts.take (k + 1)) := by
  induction lifts generalizing base with
  | nil => simp [joints]
  | cons l rest ih =>
    cases rest with
    | nil => simp [joints]
    | cons m rest =>
      have first : joints base (l :: m :: rest) = (base + l.travel) :: joints (base + l.travel) (m :: rest) := rfl
      rw [first, List.mem_cons, ih]
      constructor
      · rintro (rfl | ⟨k, below, rfl⟩)
        · exact ⟨0, by simp, by simp [totalTravel]⟩
        · refine ⟨k + 1, by simp only [List.length_cons] at below ⊢; omega, ?_⟩
          simp [totalTravel, Nat.add_assoc]
      · rintro ⟨k, below, rfl⟩
        cases k with
        | zero => exact .inl (by simp [totalTravel])
        | succ k =>
          refine .inr ⟨k, by simp only [List.length_cons] at below ⊢; omega, ?_⟩
          simp [totalTravel, Nat.add_assoc]

/-- A reckoning is matching where its counts agree, or where its height lies in a cup band (R61). -/
theorem liftsMatch_iff (q : State) : liftsMatch q = true ↔
    q.srk.record.liftsByHeight = q.srk.record.liftsByPressure ∨ ∃ k, k < q.cfg.lifts.length - 1 ∧
      totalTravel (q.cfg.lifts.take (k + 1)) ≤ q.srk.record.h + 150 ∧
      q.srk.record.h ≤ totalTravel (q.cfg.lifts.take (k + 1)) + 150 := by
  rw [liftsMatch, Bool.or_eq_true, beq_iff_eq, inCupBand, List.any_eq_true, or_comm]
  refine or_congr_right ⟨?_, ?_⟩
  · rintro ⟨j, joint, band⟩
    obtain ⟨k, below, rfl⟩ := (mem_joints _ _).1 joint
    rw [Nat.zero_add, decide_eq_true_eq] at band
    exact ⟨k, below, band⟩
  · rintro ⟨k, below, band⟩
    exact ⟨_, (mem_joints _ _).2 ⟨k, below, (Nat.zero_add _).symm⟩, decide_eq_true band⟩

/-- The lift check judges a record: a WATER-SEALED holder, and a status that is trusted (R61). -/
def liftsJudged (q : State) : Prop := q.cfg.cls = .waterSealed ∧ q.srk.record.status.trusted = true

theorem liftCheck_of_unjudged {q : State} (off : ¬ liftsJudged q) : liftCheck q = q := if_neg off

/-- A matching reckoning: three in a row end LIFT MISMATCH (R62). -/
theorem liftCheck_of_match {q : State} (judged : liftsJudged q) (matching : liftsMatch q = true) :
    (liftCheck q).mvc.matchRun = min (q.mvc.matchRun + 1) 3 ∧ (liftCheck q).mvc.mismatchRun = 0 ∧
      ((liftCheck q).isCurrent .liftMismatch = true ↔ q.isCurrent .liftMismatch = true ∧ q.mvc.matchRun < 2) := by
  obtain ⟨sealed, trusted⟩ := judged
  unfold liftCheck
  rw [if_pos ⟨sealed, trusted⟩, if_pos matching]
  dsimp only
  split
  · next third =>
    refine ⟨rfl, rfl, ?_⟩
    rw [isCurrent_cease]
    simp
    omega
  · next fewer =>
    refine ⟨rfl, rfl, ?_⟩
    have few : q.mvc.matchRun < 2 := by omega
    exact ⟨fun now => ⟨now, few⟩, fun now => now.1⟩

/-- A reckoning that does not match: three in a row raise LIFT MISMATCH (R62). -/
theorem liftCheck_of_mismatch {q : State} (judged : liftsJudged q) (off : ¬ liftsMatch q = true) :
    (liftCheck q).mvc.mismatchRun = min (q.mvc.mismatchRun + 1) 3 ∧ (liftCheck q).mvc.matchRun = 0 ∧
      ((liftCheck q).isCurrent .liftMismatch = true ↔ q.isCurrent .liftMismatch = true ∨ 2 ≤ q.mvc.mismatchRun) := by
  obtain ⟨sealed, trusted⟩ := judged
  unfold liftCheck
  rw [if_pos ⟨sealed, trusted⟩, if_neg off]
  dsimp only
  split
  · next third =>
    have due : 2 ≤ q.mvc.mismatchRun := by omega
    rw [raiseWithEntry_mvc, isCurrent_raiseWithEntry]
    refine ⟨rfl, rfl, ?_⟩
    simp [due]
  · next fewer =>
    refine ⟨rfl, rfl, ?_⟩
    have few : ¬ 2 ≤ q.mvc.mismatchRun := by omega
    exact ⟨.inl, fun now => now.resolve_right few⟩

/-- A LIFT MISMATCH that a record newly raises has its entry (R62). -/
theorem mem_liftCheck {q : State} (working : q.working = true) (room : q.acu.period.entries.length < 8)
    (now : (liftCheck q).isCurrent .liftMismatch = true) (before : q.isCurrent .liftMismatch = false) :
    { kind := .liftMismatch, minute := q.ini.minute } ∈ (liftCheck q).acu.period.entries := by
  by_cases judged : liftsJudged q
  · by_cases matching : liftsMatch q = true
    · obtain ⟨was, -⟩ := (liftCheck_of_match judged matching).2.2.1 now
      rw [before] at was
      cases was
    · have due := ((liftCheck_of_mismatch judged matching).2.2.1 now).resolve_left (by simp [before])
      obtain ⟨sealed, trusted⟩ := judged
      unfold liftCheck
      rw [if_pos ⟨sealed, trusted⟩, if_neg matching]
      dsimp only
      rw [if_pos (by omega)]
      exact mem_raiseWithEntry working room before
  · rw [liftCheck_of_unjudged judged, before] at now
    cases now

/-- The movement controller's runs, and LIFT MISMATCH, at the end of a record's event are the lift check's (R62). -/
theorem liftCheck_workRecord (b : State) : let t := finish (workRecord b)
    let l := liftCheck (placeRecord (accounted b))
    t.mvc.matchRun = l.mvc.matchRun ∧ t.mvc.mismatchRun = l.mvc.mismatchRun ∧
      t.isCurrent .liftMismatch = l.isCurrent .liftMismatch := by
  have steps := steps_workRecord b
  have kind := isCurrent_steps (k := .liftMismatch) (by decide) (by decide) b
  rw [guarded, isCurrent_judgeLimitGuard (by decide)] at kind
  dsimp only at steps ⊢
  refine ⟨?_, ?_, kind⟩
  · rw [steps]
  · rw [steps]

/-- What the lift check finds of a record made in `b`. -/
theorem placed_same (b : State) : let q := placeRecord (accounted b)
    q.srk.record = reckonedRecord b ∧ q.cfg = b.cfg ∧ q.mvc.matchRun = b.mvc.matchRun ∧
      q.mvc.mismatchRun = b.mvc.mismatchRun ∧ q.isCurrent .liftMismatch = b.isCurrent .liftMismatch ∧
      q.station = b.station ∧ q.ini.minute = b.ini.minute ∧
      q.acu.period.entries.length ≤ b.acu.period.entries.length + 2 := by
  obtain ⟨-, -, -, station, cfg, mvc, minute⟩ := accounted_same b
  have runs : (accounted b).mvc.matchRun = b.mvc.matchRun ∧ (accounted b).mvc.mismatchRun = b.mvc.mismatchRun := by
    rw [mvc]
    exact ⟨rfl, rfl⟩
  exact ⟨accounted_record b, cfg, runs.1, runs.2, isCurrent_accounted (by decide) (by decide) b, station, minute,
    accounted_entries b⟩

end Sys2Proof.Machine

end

/-! The still-loss window, the rest and the turnover due at a record, and the statement on the reckoning (R64 to R71). -/

section

namespace Sys2Proof.Machine

/-! ## The still-loss check (R64, R65) -/

/-- What the still-loss check finds of a record made in `b`. -/
theorem guarded_same (b : State) : let q := guarded (accounted b)
    q.srk.record = reckonedRecord b ∧ q.cfg = b.cfg ∧ q.vdu = b.vdu ∧ q.mvc.window = b.mvc.window ∧
      q.isCurrent .stillLoss = b.isCurrent .stillLoss ∧ q.station = b.station ∧ q.ini.minute = b.ini.minute ∧
      q.acu.period.entries.length ≤ b.acu.period.entries.length + 4 := by
  obtain ⟨record, cfg, -, -, -, station, minute, entries⟩ := placed_same b
  have vdu : (placeRecord (accounted b)).vdu = b.vdu := (accounted_same b).2.1
  have window : (placeRecord (accounted b)).mvc.window = b.mvc.window := by
    show (accounted b).mvc.window = _
    rw [(accounted_same b).2.2.2.2.2.1]
  have kind : (placeRecord (accounted b)).isCurrent .stillLoss = b.isCurrent .stillLoss :=
    isCurrent_accounted (by decide) (by decide) b
  have lift := liftCheck_frame (placeRecord (accounted b))
  have runs := liftCheck_mvc_frame (placeRecord (accounted b))
  have current := isCurrent_liftCheck (k := .stillLoss) (by decide) (placeRecord (accounted b))
  have few := (Logged.liftCheck (placeRecord (accounted b))).length
  rw [guarded]
  generalize placeRecord (accounted b) = p at *
  have guard := judgeLimitGuard_frame (liftCheck p)
  have kind' := isCurrent_judgeLimitGuard (k := .stillLoss) (by decide) (liftCheck p)
  have mvc := judgeLimitGuard_mvc (liftCheck p)
  have few' := (Logged.judgeLimitGuard (liftCheck p)).length
  have plug : (judgeLimitGuard (liftCheck p)).plug = p.plug := by rw [guard, lift]
  intro q
  refine ⟨?_, ?_, ?_, ?_, (kind'.trans current).trans kind, ?_, ?_, ?_⟩
  · rw [← record]; show (judgeLimitGuard (liftCheck p)).srk.record = _; rw [guard, lift]
  · rw [← cfg, State.cfg, State.cfg, plug]
  · rw [← vdu]; show (judgeLimitGuard (liftCheck p)).vdu = _; rw [guard, lift]
  · show (judgeLimitGuard (liftCheck p)).mvc.window = _; rw [mvc, runs, ← window]
  · rw [← station]; show (judgeLimitGuard (liftCheck p)).station = _; rw [guard, lift]
  · rw [← minute]; show (judgeLimitGuard (liftCheck p)).ini.minute = _; rw [guard, lift]
  · have most : q.acu.period.entries.length ≤ (liftCheck p).acu.period.entries.length + 1 := few'
    omega

/-- The still-loss window's conditions, in LISTEN and RUN (R64). -/
theorem lossWindowHolds_iff {s : State} (working : s.working = true) : s.lossWindowHolds = true ↔
    (s.vdu.inlet.state = .isClosed ∧ s.vdu.outlet.state = .isClosed) ∧ s.srk.record.status.trusted = true := by
  simp only [State.lossWindowHolds, working, Bool.true_and, Bool.and_eq_true, beq_iff_eq]

theorem working_workRecord {b : State} (working : b.working = true) : (finish (workRecord b)).working = true := by
  rw [State.working, (frame_workRecord b).1]
  exact working

/-- The still-loss window at the end of a record's event, where its conditions hold there or do not (R64, R66). -/
theorem lossWindow_workRecord {b : State} (working : b.working = true) : let t := finish (workRecord b)
    let closed := t.vdu.inlet.state = .isClosed ∧ t.vdu.outlet.state = .isClosed
    (¬ closed ∨ (reckonedRecord b).status.trusted = false → t.mvc.window = none) ∧
    (closed → (reckonedRecord b).status.trusted = true → t.mvc.window = some (nextLossWindow (guarded (accounted b)))) := by
  obtain ⟨-, ⟨stands, ended⟩, trusted⟩ := windows_workRecord b
  have holds := lossWindowHolds_iff (working_workRecord working)
  rw [trusted] at holds
  refine ⟨fun off => ended (Bool.eq_false_iff.2 fun h => ?_), fun closed trust => stands (holds.2 ⟨closed, trust⟩)⟩
  obtain ⟨closed, trust⟩ := holds.1 h
  rcases off with open_ | doubted
  · exact open_ closed
  · simp [doubted] at trust

/-- STILL LOSS at the end of a record's event is the check's (R65). -/
theorem stillLoss_workRecord (b : State) : (finish (workRecord b)).isCurrent .stillLoss =
    if lossTested (guarded (accounted b)) = true then lossFound (guarded (accounted b)) else b.isCurrent .stillLoss := by
  have checked := (lossChecked_countLossWindow (guarded (accounted b))).current
  rw [(guarded_same b).2.2.2.2.1] at checked
  rw [isCurrent_workRecord, isCurrent_regrade_other (by decide), recordWorked_accounted, movementRecord_eq, isCurrent_lastSteps,
    checked]

/-- A STILL LOSS that a record newly raises has its entry (R65). -/
theorem stillLoss_entry {b : State} (working : b.working = true) (now : (finish (workRecord b)).isCurrent .stillLoss = true)
    (before : b.isCurrent .stillLoss = false) (room : b.acu.period.entries.length ≤ 3) :
    { kind := .stillLoss, minute := b.ini.minute } ∈ (finish (workRecord b)).acu.period.entries := by
  obtain ⟨-, -, -, -, kind, station, minute, entries⟩ := guarded_same b
  have checked := lossChecked_countLossWindow (guarded (accounted b))
  rw [stillLoss_workRecord, ← kind, ← checked.current] at now
  have on : (guarded (accounted b)).working = true := by rw [State.working, station]; exact working
  have made := checked.entry on (by omega) now (kind.trans before)
  rw [minute] at made
  have last : Logged 0 (countLossWindow (guarded (accounted b))) (recordWorked b) := by
    rw [recordWorked_accounted, movementRecord_eq]
    generalize countLossWindow (guarded (accounted b)) = c
    exact .ofSame (by rw [lastSteps_frame])
  exact (log_from_worked last).mem made

/-- The test of a still-loss window at a record (R65). -/
theorem lossTested_iff {b : State} (working : b.working = true) : lossTested (guarded (accounted b)) = true ↔
    (b.vdu.inlet.state = .isClosed ∧ b.vdu.outlet.state = .isClosed) ∧ (reckonedRecord b).status.trusted = true ∧
      ∃ w ∈ b.mvc.window, 359 ≤ w.count := by
  obtain ⟨record, -, vdu, window, -, station, -⟩ := guarded_same b
  unfold lossTested
  generalize guarded (accounted b) = q at *
  have on : q.working = true := by rw [State.working, station]; exact working
  rw [Bool.and_eq_true, lossWindowHolds_iff on, record, vdu, window, and_assoc]
  refine and_congr_right fun _ => and_congr_right fun _ => ?_
  cases b.mvc.window with
  | none => simp
  | some w =>
    simp only [decide_eq_true_eq, Option.mem_some_iff, exists_eq_left']
    omega

theorem lossFound_of_tested {b : State} {w : LossWindow} (tested : lossTested (guarded (accounted b)) = true)
    (stood : b.mvc.window = some w) : lossFound (guarded (accounted b)) = true ↔
      b.cfg.stillLossLimit + (reckonedRecord b).stock < w.startStock := by
  obtain ⟨record, cfg, -, window, -⟩ := guarded_same b
  unfold lossFound
  generalize guarded (accounted b) = q at *
  rw [tested, window, stood, record, cfg, Bool.true_and, decide_eq_true_eq, Nat.add_comm]

theorem nextLossWindow_guarded (b : State) : let next := nextLossWindow (guarded (accounted b))
    let fresh : LossWindow := { startStock := (reckonedRecord b).stock, count := 0 }
    (b.mvc.window = none → next = fresh) ∧
    (∀ w ∈ b.mvc.window, w.count < 359 → next = { w with count := w.count + 1 }) ∧
    (∀ w ∈ b.mvc.window, 359 ≤ w.count → next = fresh) := by
  obtain ⟨record, -, -, window, -⟩ := guarded_same b
  unfold nextLossWindow State.newLossWindow
  generalize guarded (accounted b) = q at *
  rw [window, record]
  refine ⟨fun none_ => ?_, fun w stood few => ?_, fun w stood due => ?_⟩
  · rw [none_]
  · rw [Option.mem_def.1 stood]
    exact if_neg (by omega)
  · rw [Option.mem_def.1 stood]
    exact if_pos (by omega)

/-! ## The rest and the turnover due (R69 to R71) -/

/-- A record counts rest in RUN with an empty role set (R69). -/
abbrev countsRest (q : State) : Prop := q.station = .run ∧ q.holdsTake = false ∧ q.holdsGive = false

theorem countRest_fields (q : State) :
    (countRest q).mvc.restTime =
      (if countsRest q ∧ 5 ≤ q.mvc.restSub then min (q.mvc.restTime + 1) 65535 else q.mvc.restTime) ∧
    (countRest q).mvc.restSub =
      (if countsRest q then (if 5 ≤ q.mvc.restSub then 0 else q.mvc.restSub + 1) else q.mvc.restSub) := by
  by_cases counts : countsRest q
  · have made : q.station = .run ∧ q.holdsTake = false ∧ q.holdsGive = false := counts
    unfold countRest
    rw [if_pos made]
    by_cases minute : 5 ≤ q.mvc.restSub
    · rw [if_pos (by omega), if_pos ⟨counts, minute⟩, if_pos counts, if_pos minute]
      exact ⟨rfl, rfl⟩
    · rw [if_neg (by omega), if_neg (fun h => minute h.2), if_pos counts, if_neg minute]
      exact ⟨rfl, rfl⟩
  · have off : countRest q = q := if_neg counts
    rw [off, if_neg (fun h => counts h.1), if_neg counts]
    exact ⟨rfl, rfl⟩

theorem judgeTurnover_due (q : State) : (judgeTurnover q).mvc.turnoverDue = true ↔ q.mvc.turnoverDue = true ∨
    (q.working = true ∧ stagnationLimit q.cfg q.mvc.frostTemp ≤ q.mvc.restTime ∧ 100 ≤ q.srk.record.perMille) := by
  unfold judgeTurnover
  split
  · next due => exact ⟨fun _ => .inr due, fun _ => rfl⟩
  · next early => exact ⟨.inl, fun h => h.resolve_right early⟩

end Sys2Proof.Machine

end

/-! A reckoning works the record (R5, R20 to R24, R52 to R71): the statement. -/

section

namespace Sys2Proof.Machine

/-! ## The rest at the end of a record's event (R69, R71) -/

/-- What the movement controller's last steps leave of rest and turnover due (R69, R70). -/
theorem rest_recordWorked {b : State} (working : b.working = true) : let w := (recordWorked b).mvc
    let counts := b.station = .run ∧ b.holdsTake = false ∧ b.holdsGive = false
    let rest := if counts ∧ 5 ≤ b.mvc.restSub then min (b.mvc.restTime + 1) 65535 else b.mvc.restTime
    w.restTime = rest ∧
    w.restSub = (if counts then (if 5 ≤ b.mvc.restSub then 0 else b.mvc.restSub + 1) else b.mvc.restSub) ∧
    (w.turnoverDue = true ↔ b.mvc.turnoverDue = true ∨
      (stagnationLimit b.cfg (temperatureTaken b) ≤ rest ∧ 100 ≤ (reckonedRecord b).perMille)) := by
  obtain ⟨record, ysu, station, cfg, mvc⟩ := lossCounted_same b
  have placed := (accounted_same b).2.2.2.2.2.1
  have lift := liftCheck_mvc_frame (placeRecord (accounted b))
  rw [lift] at mvc
  have before : (lossCounted b).mvc.restTime = b.mvc.restTime ∧ (lossCounted b).mvc.restSub = b.mvc.restSub ∧
      (lossCounted b).mvc.turnoverDue = b.mvc.turnoverDue ∧ (lossCounted b).mvc.frostTemp = temperatureTaken b := by
    rw [mvc]
    show (accounted b).mvc.restTime = _ ∧ (accounted b).mvc.restSub = _ ∧ (accounted b).mvc.turnoverDue = _ ∧
      (accounted b).mvc.frostTemp = _
    rw [placed]
    exact ⟨rfl, rfl, rfl, rfl⟩
  have whole : recordWorked b = judgeTurnover (countRest (countCycle (lossCounted b))) := rfl
  rw [whole]
  generalize lossCounted b = c at *
  clear whole mvc lift placed
  obtain ⟨time, sub, due, frost⟩ := before
  have cycled := countCycle_mvc_frame c
  have cycleFrame := countCycle_frame c
  have time' : (countCycle c).mvc.restTime = b.mvc.restTime := by rw [cycled, ← time]
  have sub' : (countCycle c).mvc.restSub = b.mvc.restSub := by rw [cycled, ← sub]
  have due' : (countCycle c).mvc.turnoverDue = b.mvc.turnoverDue := by rw [cycled, ← due]
  have frost' : (countCycle c).mvc.frostTemp = temperatureTaken b := by rw [cycled, ← frost]
  have station' : (countCycle c).station = b.station := by rw [cycleFrame, ← station]
  have ysu' : (countCycle c).ysu = b.ysu := by rw [cycleFrame, ← ysu]
  have record' : (countCycle c).srk.record = reckonedRecord b := by rw [cycleFrame, ← record]
  have cfg' : (countCycle c).cfg = b.cfg := by rw [State.cfg, cycleFrame]; exact cfg
  generalize countCycle c = x at *
  obtain ⟨restTime, restSub⟩ := countRest_fields x
  have take : x.holdsTake = b.holdsTake := by rw [State.holdsTake, ysu']; rfl
  have give : x.holdsGive = b.holdsGive := by rw [State.holdsGive, ysu']; rfl
  simp only [countsRest, station', take, give, sub', time'] at restTime restSub
  have restFrame := countRest_frame x
  have restMvc := countRest_mvc_frame x
  have due'' : (countRest x).mvc.turnoverDue = b.mvc.turnoverDue := by rw [restMvc, ← due']
  have frost'' : (countRest x).mvc.frostTemp = temperatureTaken b := by rw [restMvc, ← frost']
  have working' : (countRest x).working = true := by
    rw [restFrame, State.working, station']
    exact working
  have record'' : (countRest x).srk.record = reckonedRecord b := by rw [restFrame, ← record']
  have cfg'' : (countRest x).cfg = b.cfg := by rw [State.cfg, restFrame]; exact cfg'
  generalize countRest x = y at *
  have turn := judgeTurnover_mvc_frame y
  have judged := judgeTurnover_due y
  rw [due'', frost'', record'', cfg'', restTime] at judged
  refine ⟨?_, ?_, ?_⟩
  · rw [turn, ← restTime]
  · rw [turn, ← restSub]
  · rw [judged]
    simp only [working', true_and]

/-- The hand-off of a role set chosen in `g`: rest and turnover due stand, or end with the first role joined (R69, R71). -/
theorem rest_of_handOn {g t : State}
    (mvc : t.mvc = { (handOn g (chooseRoles g)).mvc with window := t.mvc.window })
    (take : t.holdsTake = (chooseRoles g).holdsTake) (give : t.holdsGive = (chooseRoles g).holdsGive) :
    (t.holdsTake = g.holdsTake ∧ t.holdsGive = g.holdsGive ∨ t.holdsTake = false ∧ t.holdsGive = false →
      t.mvc.restTime = g.mvc.restTime ∧ t.mvc.restSub = g.mvc.restSub ∧ t.mvc.turnoverDue = g.mvc.turnoverDue) ∧
    (g.holdsTake = false → g.holdsGive = false → t.holdsTake = true ∨ t.holdsGive = true →
      t.mvc.restTime = 0 ∧ t.mvc.restSub = 0 ∧ t.mvc.turnoverDue = false) := by
  rw [take, give]
  refine ⟨fun same => ?_, fun noTake noGive first => ?_⟩
  · rw [mvc, handOn_mvc_of_quiet same, chooseRoles_mvc_frame]
    exact ⟨rfl, rfl, rfl⟩
  · rw [mvc, handOn_mvc_of_joined noTake noGive first]
    exact ⟨rfl, rfl, rfl⟩

/-- A record's event hands rest and turnover on with the role set (R69, R71). -/
theorem rest_workRecord (b : State) : let t := finish (workRecord b)
    let w := (recordWorked b).mvc
    (t.holdsTake = b.holdsTake ∧ t.holdsGive = b.holdsGive ∨ t.holdsTake = false ∧ t.holdsGive = false →
      t.mvc.restTime = w.restTime ∧ t.mvc.restSub = w.restSub ∧ t.mvc.turnoverDue = w.turnoverDue) ∧
    (b.holdsTake = false → b.holdsGive = false → t.holdsTake = true ∨ t.holdsGive = true →
      t.mvc.restTime = 0 ∧ t.mvc.restSub = 0 ∧ t.mvc.turnoverDue = false) := by
  obtain ⟨g, hg, mvc⟩ := mvc_workRecord b
  obtain ⟨x, hx, take⟩ := holds_workRecord b .take
  obtain ⟨y, hy, give⟩ := holds_workRecord b .give
  rw [hx, ← hg, holds_take, holds_take] at take
  rw [hy, ← hg, holds_give, holds_give] at give
  have ysu : g.ysu = b.ysu := by rw [hg]; simp [recordWorked]
  have oldTake : g.holdsTake = b.holdsTake := by rw [State.holdsTake, ysu]; rfl
  have oldGive : g.holdsGive = b.holdsGive := by rw [State.holdsGive, ysu]; rfl
  have graded := regrade_mvc_frame (recordWorked b)
  rw [← hg] at graded
  have time : g.mvc.restTime = (recordWorked b).mvc.restTime := by rw [graded]
  have sub : g.mvc.restSub = (recordWorked b).mvc.restSub := by rw [graded]
  have due : g.mvc.turnoverDue = (recordWorked b).mvc.turnoverDue := by rw [graded]
  have handed := rest_of_handOn mvc take give
  rw [oldTake, oldGive, time, sub, due] at handed
  exact handed

/-! ## The statement -/

/-- Settles O13. -/
theorem reckoningWorksTheRecord : Obligations.ReckoningWorksTheRecord := by
  refine ⟨fun s supply working timer => ?record, fun s supply working timer => ?grade, fun s supply working timer => ?legs,
    fun s supply working timer => ?lifts, fun s supply working timer => ?window, fun s supply working timer => ?rest⟩
  case record =>
    have done := exec_reckoning supply working timer
    have record := record_workRecord (b := reckoningBegun s) working
    obtain ⟨zone, motion, last, top, -⟩ := place_workRecord (reckoningBegun s)
    obtain ⟨invalid, valid⟩ := cycles_workRecord (reckoningBegun s)
    obtain ⟨station, number, plug, listen, ini, order, table, list, timer'⟩ := frame_workRecord (reckoningBegun s)
    have ability := abilityLaw_workRecord (reckoningBegun s)
    generalize finish (workRecord (reckoningBegun s)) = t at *
    exact ⟨t, done, timer', record, zone, motion, last, top, ability, invalid, valid, station, number, plug, listen, ini, order,
      table, list⟩
  case grade =>
    have done := exec_reckoning supply working timer
    obtain ⟨same, other⟩ := stockInvalid_workRecord (b := reckoningBegun s) working
    have changed := reckon_of_changed (b := reckoningBegun s)
    have stands := reckon_of_same (b := reckoningBegun s)
    have later := fun e => log_from_reckon (reckoningBegun s) (e := e)
    have fresh : (reckonedRecord (reckoningBegun s)).status = (reckonedRecord s).status := rfl
    rw [fresh] at same other changed stands
    have begun : (reckoningBegun s).srk.graded = s.srk.graded ∧
        (reckoningBegun s).srk.record.status = s.srk.record.status ∧ (reckoningBegun s).oau = s.oau := ⟨rfl, rfl, rfl⟩
    rw [begun.1, begun.2.1] at changed stands
    rw [begun.2.2] at stands
    generalize finish (workRecord (reckoningBegun s)) = t at *
    refine ⟨t, done, fun moves => ?_, fun graded still kept => ?_, fun overtaken => (other overtaken).1⟩
    · obtain ⟨q, made, station, acu, ini⟩ := changed moves
      have on : q.working = true := by rw [State.working, station]; exact working
      have room : s.acu.period.entries.length ≤ 3 → q.acu.period.entries.length < 8 := fun few => by
        rw [acu]
        exact Nat.lt_of_le_of_lt few (by decide)
      have minute : q.ini.minute = s.ini.minute := by rw [ini]; rfl
      refine ⟨?_, fun invalid few => ?_, fun held few => ?_⟩
      · by_cases kept : t.srk.record.status = (reckonedRecord s).status
        · rw [same kept, made]
          exact isCurrent_signalGrade _ _
        · obtain ⟨off, valid, -⟩ := other kept
          rw [off]
          exact ⟨fun h => (by cases h), fun h => absurd h valid⟩
      · have entry := (mem_signalGrade on (room few)).1
        rw [minute] at entry
        refine later _ ?_
        rw [made, invalid]
        exact entry
      · have entry := (mem_signalGrade on (room few)).2
        rw [minute] at entry
        refine later _ ?_
        rw [made, held]
        exact entry
    · have oau := stands graded still
      rw [same kept, State.isCurrent, oau]
      rfl
  case legs =>
    have done := exec_reckoning supply working timer
    obtain ⟨landing, -⟩ := legs_workRecord (reckoningBegun s)
    have guard := limitGuard_workRecord (reckoningBegun s)
    have entry := limitGuard_entry (b := reckoningBegun s) working
    generalize finish (workRecord (reckoningBegun s)) = t at *
    exact ⟨t, done, landing, guard, entry⟩
  case lifts =>
    have done := exec_reckoning supply working timer
    obtain ⟨matchRun, mismatchRun, kind⟩ := liftCheck_workRecord (reckoningBegun s)
    obtain ⟨record, cfg, matchRun', mismatchRun', kind', station, minute, entries⟩ := placed_same (reckoningBegun s)
    have unjudged := liftCheck_of_unjudged (q := placeRecord (accounted (reckoningBegun s)))
    have matched := liftCheck_of_match (q := placeRecord (accounted (reckoningBegun s)))
    have mismatched := liftCheck_of_mismatch (q := placeRecord (accounted (reckoningBegun s)))
    have logged := mem_liftCheck (q := placeRecord (accounted (reckoningBegun s)))
    have later := fun e => (log_from_liftCheck (reckoningBegun s)).mem (e := e)
    have matching := liftsMatch_iff (placeRecord (accounted (reckoningBegun s)))
    rw [liftsJudged, record, cfg] at unjudged matched mismatched
    rw [record, cfg] at matching
    rw [matching, matchRun', kind', ← matchRun, ← mismatchRun, ← kind] at matched
    rw [matching, mismatchRun', kind', ← matchRun, ← mismatchRun, ← kind] at mismatched
    rw [kind', minute, ← kind] at logged
    have on : (placeRecord (accounted (reckoningBegun s))).working = true := by
      rw [State.working, station]; exact working
    intro r judged matching_
    generalize finish (workRecord (reckoningBegun s)) = t at *
    refine ⟨t, done, fun off => ?_, matched, mismatched, fun now before few => ?_⟩
    · have still := unjudged off
      rw [matchRun, mismatchRun, kind, still, matchRun', mismatchRun', kind']
      exact ⟨rfl, rfl, rfl⟩
    · have small : (reckoningBegun s).acu.period.entries.length ≤ 3 := few
      exact later _ (logged on (by omega) now before)
  case window =>
    have done := exec_reckoning supply working timer
    obtain ⟨absent, present⟩ := lossWindow_workRecord (b := reckoningBegun s) working
    obtain ⟨first, counts, renews⟩ := nextLossWindow_guarded (reckoningBegun s)
    have tested := lossTested_iff (b := reckoningBegun s) working
    have found := fun w => lossFound_of_tested (b := reckoningBegun s) (w := w)
    have kind := stillLoss_workRecord (reckoningBegun s)
    have entry := stillLoss_entry (b := reckoningBegun s) working
    generalize finish (workRecord (reckoningBegun s)) = t at *
    generalize guarded (accounted (reckoningBegun s)) = q at *
    intro r closed
    refine ⟨t, done, absent, fun shut trusted => ?_, fun shut trusted w stood due => ?_, fun untested => ?_, entry⟩
    · rw [present shut trusted]
      exact ⟨fun none_ => congrArg some (first none_), fun w stood few => congrArg some (counts w stood few),
        fun w stood due => congrArg some (renews w stood due)⟩
    · have tests := tested.2 ⟨shut, trusted, w, stood, due⟩
      rw [kind, if_pos tests]
      exact found w tests stood
    · have not_ : ¬ lossTested q = true := by
        intro tests
        obtain ⟨shut, trusted, w, stood, due⟩ := tested.1 tests
        rcases untested with open_ | doubted | none_ | few
        · exact open_ shut
        · have same : (reckonedRecord (reckoningBegun s)).status = r.status := rfl
          rw [same, doubted] at trusted
          cases trusted
        · have stands : s.mvc.window = some w := stood
          rw [none_] at stands
          cases stands
        · have less := few w stood
          omega
      rw [kind, if_neg not_]
      rfl
  case rest =>
    have done := exec_reckoning supply working timer
    obtain ⟨-, -, -, -, frost⟩ := place_workRecord (reckoningBegun s)
    obtain ⟨quiet, joined⟩ := rest_workRecord (reckoningBegun s)
    obtain ⟨time, sub, due⟩ := rest_recordWorked (b := reckoningBegun s) working
    generalize (recordWorked (reckoningBegun s)).mvc = w at *
    generalize finish (workRecord (reckoningBegun s)) = t at *
    intro counts rest sub_ limit
    refine ⟨t, done, frost, fun same => ?_, joined⟩
    obtain ⟨time', sub', due'⟩ := quiet same
    rw [time', sub', due']
    exact ⟨time, sub, due⟩

end Sys2Proof.Machine

end

/-! Alarm kinds newly latched and the report trigger that they give (R88, R177). -/

section

namespace Sys2Proof.Machine

/-- A report trigger has been worked in an event that began with the report interval of `s` (R88). -/
def triggeredAt (interval : Nat) (q : State) : Prop := q.yli.reportDue = true ∧ q.yli.reportTimer = some interval

/-- From `s` to `t` alarm kinds may enter the latched set and none leaves it; a report trigger comes with each that is new, and
with nothing else (R88, R177). -/
structure Latches (s t : State) : Prop where
  station : t.station = s.station
  plug : t.plug = s.plug
  ysu : t.ysu = s.ysu
  tx : t.yli.tx = s.yli.tx
  kept : ∀ k, s.isLatched k = true → t.isLatched k = true
  fate : (∃ k, s.isLatched k = false ∧ t.isLatched k = true ∧ (s.working = true → triggeredAt s.intervalMs t)) ∨
    (t.oau.latched = s.oau.latched ∧ t.yli.reportTimer = s.yli.reportTimer ∧ t.yli.reportDue = s.yli.reportDue)

namespace Latches

variable {s t u : State}

theorem working (h : Latches s t) : t.working = s.working := by rw [State.working, h.station]; rfl

theorem interval (h : Latches s t) : t.intervalMs = s.intervalMs := by
  rw [State.intervalMs, State.intervalMs, State.cfg, State.cfg, h.plug]

theorem ofSame (station : t.station = s.station) (plug : t.plug = s.plug) (ysu : t.ysu = s.ysu) (yli : t.yli = s.yli)
    (latched : t.oau.latched = s.oau.latched) : Latches s t where
  station := station
  plug := plug
  ysu := ysu
  tx := by rw [yli]
  kept k on := by rw [State.isLatched, latched]; exact on
  fate := .inr ⟨latched, by rw [yli], by rw [yli]⟩

theorem refl (s : State) : Latches s s := ofSame rfl rfl rfl rfl rfl

theorem trans (h : Latches s t) (k : Latches t u) : Latches s u where
  station := k.station.trans h.station
  plug := k.plug.trans h.plug
  ysu := k.ysu.trans h.ysu
  tx := k.tx.trans h.tx
  kept a on := k.kept a (h.kept a on)
  fate := by
    have working := h.working
    have interval := h.interval
    rcases h.fate with ⟨a, off, on, fired⟩ | ⟨latched, timer, due⟩
    · refine .inl ⟨a, off, k.kept a on, fun works => ?_⟩
      obtain ⟨due, timer⟩ := fired works
      rcases k.fate with ⟨_, -, -, again⟩ | ⟨-, timer', due'⟩
      · rw [← interval]
        exact again (working.trans works)
      · exact ⟨due'.trans due, timer'.trans timer⟩
    · rcases k.fate with ⟨a, off, on, fired⟩ | ⟨latched', timer', due'⟩
      · refine .inl ⟨a, ?_, on, fun works => ?_⟩
        · rw [State.isLatched, ← latched]
          exact off
        · rw [← interval]
          exact fired (working.trans works)
      · exact .inr ⟨latched'.trans latched, timer'.trans timer, due'.trans due⟩

/-- The rule rests on the station, the plug, the roles, the line and the latched set that it begins with. -/
theorem after {p : State} (h : Latches s t) (station : s.station = p.station) (plug : s.plug = p.plug) (ysu : s.ysu = p.ysu)
    (yli : s.yli = p.yli) (latched : s.oau.latched = p.oau.latched) : Latches p t :=
  (ofSame station plug ysu yli latched).trans h

/-- A kind newly latched has given its trigger. -/
theorem fired (h : Latches s t) {k : AlarmKind} (off : s.isLatched k = false) (on : t.isLatched k = true)
    (working : s.working = true) : triggeredAt s.intervalMs t := by
  rcases h.fate with ⟨-, -, -, fired⟩ | ⟨latched, -, -⟩
  · exact fired working
  · rw [State.isLatched, latched] at on
    exact absurd (off.symm.trans on) (by decide)

/-- Where no kind is newly latched the report timer stands. -/
theorem timer_of_none (h : Latches s t) (none_ : ∀ k, t.isLatched k = true → s.isLatched k = true) :
    t.yli.reportTimer = s.yli.reportTimer := by
  rcases h.fate with ⟨k, off, on, -⟩ | ⟨-, timer, -⟩
  · exact absurd (off.symm.trans (none_ k on)) (by decide)
  · exact timer

/-! ## The operations on the alarm sets (R176, R177) -/

theorem latch (k : AlarmKind) (s : State) : Latches s (latch k s) := by
  unfold Machine.latch
  split
  · exact refl s
  · next off =>
    have latched : ∀ (o : Oau) (a : AlarmKind), o.latched = withAlarm s.oau.latched k →
        ({ s with oau := o } : State).isLatched a = (s.isLatched a || decide (a = k)) := fun o a same => by
      rw [State.isLatched, same, hasAlarm_withAlarm]
      rfl
    have offNow : s.isLatched k = false := Bool.eq_false_iff.2 off
    unfold trigger
    split
    · refine ⟨rfl, rfl, rfl, rfl, fun a on => ?_, .inl ⟨k, offNow, ?_, fun _ => ⟨rfl, rfl⟩⟩⟩
      · exact (latched _ a rfl).trans (by rw [on]; rfl)
      · exact (latched _ k rfl).trans (by simp)
    · next stopped =>
      refine ⟨rfl, rfl, rfl, rfl, fun a on => ?_, .inl ⟨k, offNow, ?_, fun works => absurd works stopped⟩⟩
      · exact (latched _ a rfl).trans (by rw [on]; rfl)
      · exact (latched _ k rfl).trans (by simp)

theorem raise (k : AlarmKind) (s : State) : Latches s (raise k s) := by
  unfold Machine.raise
  split
  · exact refl s
  · exact (latch k _).after rfl rfl rfl rfl rfl

theorem cease (k : AlarmKind) (s : State) : Latches s (cease k s) := ofSame rfl rfl rfl rfl rfl

theorem makeEntry (e : EventKind) (s : State) : Latches s (makeEntry e s) := by
  unfold Machine.makeEntry
  split
  · exact ofSame rfl rfl rfl rfl rfl
  · exact refl s

theorem raiseWithEntry (k : AlarmKind) (e : EventKind) (s : State) : Latches s (raiseWithEntry k e s) := by
  unfold Machine.raiseWithEntry
  split
  · exact refl s
  · exact (raise k s).trans (makeEntry e _)

/-! ## The steps of a record (R5, R21, R52) -/

theorem signalGrade (st : StockStatus) (s : State) : Latches s (signalGrade st s) := by
  cases st with
  | valid => exact cease _ s
  | doubtful => exact cease _ s
  | held => exact (cease _ s).trans (makeEntry _ _)
  | invalid => exact (raise _ s).trans (makeEntry _ _)

theorem reckon (s : State) : Latches s (reckon s) := by
  unfold Machine.reckon
  dsimp only
  split
  · exact (signalGrade _ _).after rfl rfl rfl rfl rfl
  · exact ofSame rfl rfl rfl rfl rfl

theorem judgeLossWindow (s : State) : Latches s (judgeLossWindow s) := by
  unfold Machine.judgeLossWindow
  split
  · split
    · exact refl s
    · exact ofSame rfl rfl rfl rfl rfl
  · exact ofSame rfl rfl rfl rfl rfl

theorem judgeSilentWindow (s : State) : Latches s (judgeSilentWindow s) := by
  unfold Machine.judgeSilentWindow
  split
  · split
    · exact refl s
    · exact ofSame rfl rfl rfl rfl rfl
  · exact ofSame rfl rfl rfl rfl rfl

theorem judgeWindows (s : State) : Latches s (Machine.judgeSilentWindow (Machine.judgeLossWindow s)) :=
  (judgeLossWindow s).trans (judgeSilentWindow _)

theorem countLossWindow (s : State) : Latches s (countLossWindow s) := by
  unfold Machine.countLossWindow
  split
  · split
    · exact judgeLossWindow s
    · dsimp only
      split
      · unfold testLossWindow
        dsimp only
        split
        · exact (raiseWithEntry _ _ _).after rfl rfl rfl rfl rfl
        · exact (cease _ _).after rfl rfl rfl rfl rfl
      · exact ofSame rfl rfl rfl rfl rfl
  · exact judgeLossWindow s

theorem countSilentWindow (s : State) : Latches s (countSilentWindow s) := by
  unfold Machine.countSilentWindow
  split
  · split
    · exact judgeSilentWindow s
    · dsimp only
      split
      · unfold testSilentWindow
        dsimp only
        split
        · exact (raiseWithEntry _ _ _).after rfl rfl rfl rfl rfl
        · exact (cease _ _).after rfl rfl rfl rfl rfl
      · exact ofSame rfl rfl rfl rfl rfl
  · exact judgeSilentWindow s

theorem judgeLimitGuard (s : State) : Latches s (judgeLimitGuard s) := by
  unfold Machine.judgeLimitGuard
  split
  · exact raiseWithEntry _ _ s
  · exact cease _ s

theorem liftCheck (s : State) : Latches s (liftCheck s) := by
  unfold Machine.liftCheck
  split
  · split
    · dsimp only
      split
      · exact (cease _ _).after rfl rfl rfl rfl rfl
      · exact ofSame rfl rfl rfl rfl rfl
    · dsimp only
      split
      · exact (raiseWithEntry _ _ _).after rfl rfl rfl rfl rfl
      · exact ofSame rfl rfl rfl rfl rfl
  · exact refl s

theorem lastSteps (s : State) : Latches s (judgeTurnover (countRest (countCycle s))) := by
  rw [lastSteps_frame]
  exact ofSame rfl rfl rfl rfl rfl

theorem movementRecord (s : State) : Latches s (movementRecord s) := by
  have placed : Latches s (placeRecord s) := ofSame rfl rfl rfl rfl rfl
  exact placed.trans ((liftCheck _).trans ((judgeLimitGuard _).trans ((countLossWindow _).trans (lastSteps _))))

theorem accountRecord (s : State) : Latches s (accountRecord s) := by
  have taken : Latches s (recordTaken s) := ofSame rfl rfl rfl rfl rfl
  exact taken.trans (countSilentWindow _)

theorem regrade (s : State) : Latches s (regrade s) := by
  unfold Machine.regrade
  split
  · dsimp only
    split
    · exact refl s
    · have graded : ∀ r : StockRecord, Latches s { s with srk := { s.srk with record := r } } :=
        fun _ => ofSame rfl rfl rfl rfl rfl
      exact (graded _).trans ((signalGrade _ _).trans (judgeWindows _))
  · exact refl s

/-- The work of a record, as far as the settling of the role set (R4). -/
theorem recordGraded (b : State) : Latches b (Machine.regrade (recordWorked b)) :=
  (reckon b).trans ((accountRecord _).trans ((movementRecord _).trans (regrade _)))

/-! ## The drives (R49) -/

theorem signalDrive (d : Side) (b a : DriveState) (s : State) : Latches s (signalDrive d b a s) := by
  unfold Machine.signalDrive
  split
  · exact (raise _ s).trans (makeEntry _ _)
  · split
    · exact cease _ s
    · exact refl s

theorem putDrive (d : Side) (x : Drive) (s : State) : Latches s (putDrive d x s) := by
  by_cases still : x.state = (s.vdu.drive d).state
  · rw [putDrive_of_still still]
    exact ofSame rfl rfl rfl rfl rfl
  · rw [putDrive_of_moved still]
    have shut : ∀ (p : Prop) [Decidable p] (q : State), Latches q (if p then shutGovernor q else q) := fun p _ q => by
      split
      · exact ofSame rfl rfl rfl rfl rfl
      · exact refl q
    have ended : ∀ (p : Prop) [Decidable p] (q : State), Latches q (if p then endLanding q else q) := fun p _ q => by
      split
      · exact (judgeLimitGuard _).after rfl rfl rfl rfl rfl
      · exact refl q
    have placed : Latches s { s with vdu := s.vdu.setDrive d x } := ofSame rfl rfl rfl rfl rfl
    have moved : Latches s (driveMoved d x s) := placed.trans ((shut _ _).trans ((signalDrive _ _ _ _).trans (ended _ _)))
    exact moved.trans (judgeWindows _)

theorem giveCommand (d : Side) (c : DriveCommand) (s : State) : Latches s (giveCommand d c s) := by
  unfold Machine.giveCommand
  split
  · exact refl s
  · exact putDrive _ _ s

theorem deriveCommands (s : State) : Latches s (deriveCommands s) :=
  (giveCommand _ _ s).trans (giveCommand _ _ _)

end Latches

end Sys2Proof.Machine

end

/-! The first reckoning, made at the entry to LISTEN (R170, R180): the statement. -/

section

namespace Sys2Proof.Machine

/-! ## The books at the end of a record's event (R157, R171) -/

/-- A record's event leaves the list and the number, and puts the opening stock that was due (R171). -/
theorem opening_workRecord (b : State) : let a := (finish (workRecord b)).acu
    let r := reckonedRecord b
    a.list = b.acu.list ∧ a.period.number = b.acu.period.number ∧ a.openingDue = false ∧
    (b.acu.openingDue = true → a.period.openingStock = r.stock ∧ a.period.openingStatus = r.status) ∧
    (b.acu.openingDue = false → a.period.openingStock = b.acu.period.openingStock ∧
      a.period.openingStatus = b.acu.period.openingStatus) := by
  obtain ⟨-, -, -, -, -, ⟨list, number, due⟩, ⟨stock, status⟩⟩ := figures_workRecord b
  obtain ⟨r, taken, ⟨-, -, -, -, -, ⟨list', number', due'⟩, ⟨stock', status'⟩⟩, -, -, record, -⟩ := takenOf_from b
  obtain ⟨-, -, -, -, -, -, -, list'', number'', opens, stands⟩ := recordTaken_figures r
  have none_ := recordTaken_openingDue r
  rw [taken] at list number due stock status
  rw [due', record] at opens
  rw [due', stock', status'] at stands
  rw [list', ← list] at list''
  rw [number', ← number] at number''
  rw [← due] at none_
  rw [← stock, ← status] at opens stands
  exact ⟨list'', number'', none_, opens, stands⟩

/-- A record's event adds to the entries of the open period; a full list stands, and a mark of a lost entry with it (R157). -/
theorem entries_workRecord (b : State) : let a := (finish (workRecord b)).acu
    b.acu.period.entries <+: a.period.entries ∧
    (8 ≤ b.acu.period.entries.length → a.period.entries = b.acu.period.entries) ∧
    (b.acu.period.flags.eventsLost = true → a.period.flags.eventsLost = true) := by
  obtain ⟨-, -, -, -, -, entries, flags, -⟩ := recordTaken_figures (reckon b)
  have entries' : (silentMarked (takenOf b)).acu.period.entries = (reckon b).acu.period.entries := entries
  have lost' : (silentMarked (takenOf b)).acu.period.flags.eventsLost = (reckon b).acu.period.flags.eventsLost := by
    show (recordTaken (reckon b)).acu.period.flags.eventsLost = _
    rw [flags]
  have began := Logged.reckon b
  have ended := workRecord_log b
  generalize finish (workRecord b) = t at *
  generalize silentMarked (takenOf b) = q at *
  refine ⟨?_, fun full => ?_, fun lost => ?_⟩
  · exact (entries' ▸ began.grows).trans ended.grows
  · have same : q.acu.period.entries = b.acu.period.entries := entries'.trans (began.full full)
    rw [ended.full (by rw [same]; exact full), same]
  · exact ended.lost (lost'.trans (began.lost lost))

/-- A record's event leaves its write of the retained store begun, or due behind another (R184). -/
theorem writing_workRecord {b : State} (working : b.working = true) : (finish (workRecord b)).rst.writing.isSome = true := by
  obtain ⟨g, hg, done⟩ := finish_workRecord b
  have on : (settleFrom g g).working = true := by
    rw [State.working, settleFrom_station, hg, regrade_station, recordWorked_station]
    exact working
  rw [done, finish_rst]
  exact (beginWrite_rst_of_working on).1

/-! ## The roles and the report timer at the end of a record's event -/

theorem roleLaw_workRecord {b : State} (working : b.working = true) : roleLaw (finish (workRecord b)) := by
  have grade : gradeLaw (finish (workRecord b)) := (SameTerms.finish _).grade (gradeLaw_workRecord working)
  obtain ⟨g, -, done⟩ := finish_workRecord b
  rw [done] at grade ⊢
  exact (((SameTerms.beginWrite _).trans (SameTerms.finish _)).settled (settled_settleFrom g g)).role grade

/-- The report timer at the end of a record's event is the one that the settling of the role set leaves (R88). -/
theorem reportTimer_workRecord (b : State) : ∃ g, Latches b g ∧
    (finish (workRecord b)).yli.reportTimer = (handOn g (chooseRoles g)).yli.reportTimer ∧
    (∀ k, (finish (workRecord b)).isLatched k = g.isLatched k) ∧
    (∀ r, (finish (workRecord b)).holds r = (chooseRoles g).holds r) := by
  obtain ⟨g, hg, done⟩ := finish_workRecord b
  have latches : Latches b g := hg ▸ Latches.recordGraded b
  have oau : (finish (workRecord b)).oau = g.oau := by rw [done, finish_oau, beginWrite_oau, settleFrom_oau]
  refine ⟨g, latches, ?_, fun k => by rw [State.isLatched, oau]; rfl, fun r => ?_⟩
  · rw [done, finish_reportTimer, beginWrite_yli, settleFrom_yli]
  · rw [done, State.holds, finish_ysu, beginWrite_ysu]
    exact settleFrom_holds g r g

/-- A kind that a record newly latches restarts the report timer at the interval (R88, R177). -/
theorem reportTimer_of_latched {b : State} (working : b.working = true) {k : AlarmKind} (off : b.isLatched k = false)
    (on : (finish (workRecord b)).isLatched k = true) :
    (finish (workRecord b)).yli.reportTimer = some b.intervalMs := by
  obtain ⟨g, latches, timer, latched, -⟩ := reportTimer_workRecord b
  rw [latched] at on
  have fired := (latches.fired off on working).2
  rw [← latches.interval] at fired ⊢
  have chosen : (chooseRoles g).yli = g.yli ∧ (chooseRoles g).plug = g.plug := by simp
  have interval : (chooseRoles g).intervalMs = g.intervalMs := by
    rw [State.intervalMs, State.intervalMs, State.cfg, State.cfg, chosen.2]
  rw [timer, ← interval]
  exact handOn_reportTimer (by rw [chosen.1, interval]; exact fired)

/-- Where a record moves neither the role set nor the latched set the report timer runs on (R88). -/
theorem reportTimer_of_quiet {b : State}
    (roles : (finish (workRecord b)).holdsTake = b.holdsTake ∧ (finish (workRecord b)).holdsGive = b.holdsGive)
    (none_ : ∀ k, (finish (workRecord b)).isLatched k = true → b.isLatched k = true) :
    (finish (workRecord b)).yli.reportTimer = b.yli.reportTimer := by
  obtain ⟨g, latches, timer, latched, holds⟩ := reportTimer_workRecord b
  have take := holds .take
  have give := holds .give
  rw [holds_take, holds_take, roles.1, State.holdsTake, ← latches.ysu] at take
  rw [holds_give, holds_give, roles.2, State.holdsGive, ← latches.ysu] at give
  have same : sameRoles g (chooseRoles g) = true := (sameRoles_iff _ _).2 ⟨take.symm, give.symm⟩
  have chosen : (chooseRoles g).yli = g.yli := by simp
  rw [timer, handOn_yli_of_same same, chosen]
  exact latches.timer_of_none fun k on => none_ k (by rw [latched]; exact on)

theorem silence_workRecord (b : State) : (finish (workRecord b)).ysu.silence = b.ysu.silence := by
  obtain ⟨g, hg, done⟩ := finish_workRecord b
  have ysu : g.ysu = b.ysu := by rw [hg]; exact (Latches.recordGraded b).ysu
  rw [done, finish_ysu, beginWrite_ysu, (settleFrom_same g g).silence, ysu]

/-! ## The entry to LISTEN -/

theorem exec_entryToListen {key : Option KeyPosition} {s : State} (supply : s.supply = true) (start : s.station = .start)
    (steps : s.stepsDone = true) : exec (.entryToListen key) s = .next (finish (workRecord (listening key s))) := by
  show Host.Outcome.next _ = _
  rw [powered_of_supply supply, enterListen_of_ready ⟨start, steps⟩]

theorem initialKey_key (key : Option KeyPosition) (n : Ini) : (initialKey key n).keyTaken = true ∧
    (n.keyTaken = false → (initialKey key n).key = key.getD .outOfService) ∧
    (n.keyTaken = true → (initialKey key n).key = n.key) ∧
    initialKey key n = { n with key := (initialKey key n).key, keyTaken := true,
                                keyDefaulted := (initialKey key n).keyDefaulted } := by
  unfold initialKey
  split
  · next taken =>
    refine ⟨taken, fun off => ?_, fun _ => rfl, ?_⟩
    · rw [taken] at off
      cases off
    · obtain ⟨⟩ := n
      cases taken
      rfl
  · next fresh =>
    cases key with
    | some p => exact ⟨rfl, fun _ => rfl, fun on => absurd on fresh, rfl⟩
    | none => exact ⟨rfl, fun _ => rfl, fun on => absurd on fresh, rfl⟩

/-- The key's initial position is no input of the reckoning (R5). -/
theorem reckonedRecord_listening (key : Option KeyPosition) (s : State) :
    reckonedRecord (listening key s) = reckonedRecord s := by
  have ini := (initialKey_key key s.ini).2.2.2
  have crown : (listening key s).ini.crown = s.ini.crown := by
    show (initialKey key s.ini).crown = _
    rw [ini]
  have gauge : (listening key s).ini.gauge = s.ini.gauge := by
    show (initialKey key s.ini).gauge = _
    rw [ini]
  have gas : (listening key s).ini.gasTemp = s.ini.gasTemp := by
    show (initialKey key s.ini).gasTemp = _
    rw [ini]
  have barometer : (listening key s).ini.barometer = s.ini.barometer := by
    show (initialKey key s.ini).barometer = _
    rw [ini]
  have cfg : (listening key s).cfg = s.cfg := rfl
  have srk : (listening key s).srk.record = s.srk.record := rfl
  have kind : (listening key s).isCurrent .liftMismatch = s.isCurrent .liftMismatch := rfl
  unfold reckonedRecord acceptedHeight temperatureTaken barometerTaken gaugeTaken pressureCount substitutionsNow
  rw [crown, gauge, gas, barometer, cfg, srk, kind]

/-- The state that the first reckoning works: in LISTEN, its timers begun, its pulses dropped (R4, R88, R102, R180). -/
theorem listening_same (key : Option KeyPosition) (s : State) : let b := listening key s
    b.station = .listen ∧ b.listenTimer = some (2 * s.intervalMs) ∧ b.srk.timer = some 10000 ∧
    b.ysu.silence = some (5 * s.intervalMs) ∧ b.yli.reportTimer = some (s.number * 1000) ∧ b.intervalMs = s.intervalMs ∧
    (∀ k, b.isLatched k = s.isLatched k) ∧ b.holdsTake = s.holdsTake ∧ b.holdsGive = s.holdsGive ∧ b.cfg = s.cfg ∧
    b.ini.inletCount = 0 ∧ b.ini.outletCount = 0 ∧ b.ini.minute = s.ini.minute ∧ b.ini.keyTaken = true ∧
    b.ini.key = (initialKey key s.ini).key :=
  have ini := (initialKey_key key s.ini)
  ⟨rfl, rfl, rfl, rfl, rfl, rfl, fun _ => rfl, rfl, rfl, rfl, rfl, rfl,
    (congrArg Ini.minute ini.2.2.2 : _), ini.1, rfl⟩

theorem startMinute_listening (key : Option KeyPosition) (s : State) :
    (s.acu.openingDue = true → startMinute (dropStartPulses (listenTimers
      { s with station := .listen, stepsDone := false, ini := initialKey key s.ini })) = s.ini.minute) ∧
    (s.acu.openingDue = false → ∀ h ∈ s.rst.half s.rst.newest, startMinute (dropStartPulses (listenTimers
      { s with station := .listen, stepsDone := false, ini := initialKey key s.ini })) = h.contents.minute) := by
  have minute : (initialKey key s.ini).minute = s.ini.minute := by rw [(initialKey_key key s.ini).2.2.2]
  refine ⟨fun due => ?_, fun settled h copy => ?_⟩
  · unfold startMinute
    refine (if_pos due).trans minute
  · unfold startMinute
    have store : (dropStartPulses (listenTimers
      { s with station := .listen, stepsDone := false, ini := initialKey key s.ini })).rst = s.rst := rfl
    have due : (dropStartPulses (listenTimers
      { s with station := .listen, stepsDone := false, ini := initialKey key s.ini })).acu.openingDue = false := settled
    rw [due, store, if_neg (by decide), Option.mem_def.1 copy]

theorem addEntry_frame (p : OpenPeriod) (e : EventEntry) : (p.addEntry e) = { p with
    entries := (p.addEntry e).entries, flags := { p.flags with eventsLost := (p.addEntry e).flags.eventsLost } } := by
  unfold OpenPeriod.addEntry
  split <;> rfl

/-- The start's own entry moves no figure of the period. -/
theorem listening_figures (key : Option KeyPosition) (s : State) : let p := (listening key s).acu.period
    p.makeIn = s.acu.period.makeIn ∧ p.sendOut = s.acu.period.sendOut ∧ p.number = s.acu.period.number ∧
      p.openingStock = s.acu.period.openingStock ∧ p.openingStatus = s.acu.period.openingStatus := by
  intro p
  have whole : p = s.acu.period.addEntry _ := rfl
  rw [whole, addEntry_frame]
  exact ⟨rfl, rfl, rfl, rfl, rfl⟩

/-- The start's own entry, in a list with room and in a full one (R157, R170, R171). -/
theorem listening_entries (key : Option KeyPosition) (s : State) :
    let m := startMinute (dropStartPulses (listenTimers
      { s with station := .listen, stepsDone := false, ini := initialKey key s.ini }))
    let p := (listening key s).acu.period
    (s.acu.period.entries.length < 8 → p.entries = s.acu.period.entries ++ [{ kind := startEntry s, minute := m }]) ∧
    (8 ≤ s.acu.period.entries.length → p.entries = s.acu.period.entries ∧ p.flags.eventsLost = true) := by
  intro m p
  have whole : p = s.acu.period.addEntry { kind := startEntry s, minute := m } := rfl
  rw [whole, OpenPeriod.addEntry]
  refine ⟨fun room => ?_, fun full => ?_⟩
  · rw [if_pos room]
  · rw [if_neg (by omega)]
    exact ⟨rfl, rfl⟩

/-- Settles O9. -/
theorem entryToListenMakesTheFirstReckoning : Obligations.EntryToListenMakesTheFirstReckoning := by
  intro key s supply start steps
  have done := exec_entryToListen (key := key) supply start steps
  obtain ⟨station, listen, timer, silence, report, interval, latched, take, give, cfg, inlet, outlet, minute, taken, keyNow⟩ :=
    listening_same key s
  obtain ⟨-, fresh, stood, -⟩ := initialKey_key key s.ini
  have working : (listening key s).working = true := by rw [State.working, station]; rfl
  obtain ⟨station', -, -, listen', ini', -, -, -, timer'⟩ := frame_workRecord (listening key s)
  have silence' := silence_workRecord (listening key s)
  have record := record_workRecord working
  obtain ⟨zone, -⟩ := place_workRecord (listening key s)
  obtain ⟨residueIn, residueOut, makeIn, sendOut⟩ := meters_workRecord (listening key s)
  obtain ⟨list, number, due, opens, stands⟩ := opening_workRecord (listening key s)
  obtain ⟨grows, full, lost⟩ := entries_workRecord (listening key s)
  have writing := writing_workRecord working
  have roles := (roleLaw_workRecord working).1
  have triggered := fun k => reportTimer_of_latched working (k := k)
  have quiet := reportTimer_of_quiet (b := listening key s)
  obtain ⟨minuteDue, minuteKept⟩ := startMinute_listening key s
  obtain ⟨roomy, filled⟩ := listening_entries key s
  have books : (listening key s).acu.inletResidue = s.acu.inletResidue ∧
      (listening key s).acu.outletResidue = s.acu.outletResidue ∧ (listening key s).acu.list = s.acu.list ∧ (listening key s).acu.openingDue = s.acu.openingDue := ⟨rfl, rfl, rfl, rfl⟩
  obtain ⟨residueIn₀, residueOut₀, list₀, due₀⟩ := books
  obtain ⟨makeIn₀, sendOut₀, number₀, stock₀, status₀⟩ := listening_figures key s
  have height : acceptedHeight (listening key s) = acceptedHeight s := congrArg StockRecord.h (reckonedRecord_listening key s)
  rw [reckonedRecord_listening] at record opens
  rw [inlet, residueIn₀] at residueIn makeIn
  rw [outlet, residueOut₀] at residueOut sendOut
  simp only [Nat.zero_mul, Nat.zero_add] at residueIn residueOut makeIn sendOut
  rw [makeIn₀] at makeIn
  rw [sendOut₀] at sendOut
  rw [due₀] at opens
  rw [due₀, stock₀, status₀] at stands
  rw [take, give] at quiet
  generalize listening key s = b at *
  generalize finish (workRecord b) = t at *
  have off : t.holdsTake = false ∧ t.holdsGive = false := by
    have listens : t.station = .listen := station'.trans station
    refine ⟨Bool.eq_false_iff.2 fun held => ?_, Bool.eq_false_iff.2 fun held => ?_⟩
    · have run := (roles (.inl held)).1
      rw [listens] at run
      cases run
    · have run := (roles (.inr held)).1
      rw [listens] at run
      cases run
  refine ⟨t, done, station'.trans station, listen'.trans listen, timer'.trans timer, silence'.trans silence, fun k on was => ?_,
    fun noTake noGive none_ => ?_, ?_, fun first => ?_, fun later => ?_, ?_, ?_, off.1, off.2, ?_, ?_, ?_, residueIn, residueOut,
    makeIn, sendOut, number.trans number₀, list.trans list₀, due, opens, stands, fun room settled h copy => ?_,
    fun room awaits => ?_, fun more => ?_, writing⟩
  · rw [triggered k ((latched k).trans was) on, interval]
  · rw [quiet ⟨off.1.trans noTake.symm, off.2.trans noGive.symm⟩ fun k on => (latched k).trans (none_ k on), report]
  · rw [ini', ← taken]
  · rw [ini', ← fresh first, ← keyNow]
  · rw [ini', ← stood later, ← keyNow]
  · rw [record]
  · rw [zone, cfg, record, height]
    rfl
  · rw [ini']
  · rw [ini']
  · rw [ini', ← minute]
  · obtain ⟨more, whole⟩ := grows
    rw [roomy room, minuteKept settled h copy] at whole
    exact ⟨more, by rw [← whole, List.append_assoc]; rfl⟩
  · obtain ⟨more, whole⟩ := grows
    rw [roomy room, minuteDue awaits] at whole
    exact ⟨more, by rw [← whole, List.append_assoc]; rfl⟩
  · obtain ⟨same, marked⟩ := filled more
    exact ⟨(full (by rw [same]; exact more)).trans same, lost marked⟩

end Sys2Proof.Machine

end

/-! A newly latched kind and a changed role set give a report trigger, whatever the event does beside (R88, R108, R177). -/

section

namespace Sys2Proof.Machine

/-- What an event in LISTEN or RUN does between `s` and `t`, which is in LISTEN or RUN still: each kind that is newly latched
and each role joined or left has worked a report trigger, a trigger once worked stands, and the transmitter goes on sending
(R88, R108, R177). -/
structure SignalsOn (s t : State) : Prop where
  working : s.working = true
  plug : t.plug = s.plug
  tx : s.yli.tx = .sending → t.yli.tx = .sending
  stands : triggeredAt s.intervalMs s → triggeredAt s.intervalMs t
  latched : ∀ k, s.isLatched k = false → t.isLatched k = true → triggeredAt s.intervalMs t
  roles : ∀ r, t.holds r ≠ s.holds r → triggeredAt s.intervalMs t

/-- The same, of an event that may have left LISTEN and RUN. -/
def Signals (s t : State) : Prop := t.working = true → SignalsOn s t

namespace Signals

variable {s t u old : State}

theorem interval_of_plug (plug : t.plug = s.plug) : t.intervalMs = s.intervalMs := by
  rw [State.intervalMs, State.intervalMs, State.cfg, State.cfg, plug]

theorem ofStopped (stopped : t.working = false) : Signals s t := fun works => by
  rw [stopped] at works
  cases works

theorem trans (h : Signals s t) (k : Signals t u) : Signals s u := fun works => by
  obtain ⟨working, plug, tx, stands, latched, roles⟩ := k works
  have began := h working
  rw [interval_of_plug began.plug] at stands latched roles
  refine ⟨began.working, plug.trans began.plug, tx ∘ began.tx, stands ∘ began.stands, fun a off on => ?_, fun r moved => ?_⟩
  · cases mid : t.isLatched a with
    | true => exact stands (began.latched a off mid)
    | false => exact latched a mid on
  · by_cases still : t.holds r = s.holds r
    · exact roles r (by rw [still]; exact moved)
    · exact stands (began.roles r still)

/-- An operation that moves neither the roles, nor the report timer, and latches no kind. -/
theorem ofQuiet (station : t.station = s.station) (plug : t.plug = s.plug) (tx : s.yli.tx = .sending → t.yli.tx = .sending)
    (timer : t.yli.reportTimer = s.yli.reportTimer) (due : t.yli.reportDue = s.yli.reportDue)
    (latched : ∀ k, t.isLatched k = true → s.isLatched k = true) (roles : ∀ r, t.holds r = s.holds r) : Signals s t :=
  fun works =>
    { working := by rw [State.working, ← station]; exact works
      plug := plug
      tx := tx
      stands := fun ⟨wasDue, was⟩ => ⟨due.trans wasDue, timer.trans was⟩
      latched := fun k off on => absurd (off.symm.trans (latched k on)) (by decide)
      roles := fun r moved => absurd (roles r) moved }

/-- An operation that leaves the line, the alarm sets and the roles. -/
theorem ofSame (station : t.station = s.station) (plug : t.plug = s.plug) (yli : t.yli = s.yli) (oau : t.oau = s.oau)
    (roles : ∀ r, t.holds r = s.holds r) : Signals s t :=
  ofQuiet station plug (by rw [yli]; exact id) (by rw [yli]) (by rw [yli])
    (fun k => by rw [State.isLatched, oau]; exact id) roles

theorem refl (s : State) : Signals s s := ofSame rfl rfl rfl rfl fun _ => rfl

theorem ofLatches (h : Latches s t) : Signals s t := fun works => by
  have working : s.working = true := h.working.symm.trans works
  refine ⟨working, h.plug, fun sends => h.tx.trans sends, fun ⟨due, timer⟩ => ?_, fun k off on => h.fired off on working,
    fun r moved => absurd (by rw [State.holds, h.ysu]; rfl) moved⟩
  rcases h.fate with ⟨_, -, -, fired⟩ | ⟨-, timer', due'⟩
  · exact fired working
  · exact ⟨due'.trans due, timer'.trans timer⟩

/-! ## The report trigger and the messages (R80, R81, R88) -/

theorem trigger (s : State) : Signals s (trigger s) := fun works => by
  have working : s.working = true := by simpa [State.working] using works
  have whole : Machine.trigger s = { s with yli := { s.yli with reportDue := true, reportTimer := some s.intervalMs } } :=
    if_pos working
  rw [whole]
  exact ⟨working, rfl, id, fun _ => ⟨rfl, rfl⟩, fun _ _ _ => ⟨rfl, rfl⟩, fun r moved => absurd rfl moved⟩

/-- A message offered to the queue leaves the transmitter and the report timer. -/
theorem offerMessage (m : Message) (s : State) : Signals s (offerMessage m s) := by
  have flush : (flushReport s).yli.tx = s.yli.tx ∧ (flushReport s).yli.reportTimer = s.yli.reportTimer ∧
      (flushReport s).yli.reportDue = s.yli.reportDue := by
    unfold flushReport
    split
    · obtain ⟨frame, -⟩ := offerReport_frame (reportBody s) s.yli
      refine ⟨?_, ?_, ?_⟩ <;> exact (by rw [frame])
    · exact ⟨rfl, rfl, rfl⟩
  have offered : ∀ y : Yli, (y.offerOther m).tx = y.tx ∧ (y.offerOther m).reportTimer = y.reportTimer ∧
      (y.offerOther m).reportDue = y.reportDue := fun y => by
    unfold Yli.offerOther
    split <;> exact ⟨rfl, rfl, rfl⟩
  obtain ⟨tx, timer, due⟩ := flush
  obtain ⟨tx', timer', due'⟩ := offered (flushReport s).yli
  refine ofQuiet (by simp) (by simp) (fun sends => (tx'.trans tx).trans sends) (timer'.trans timer) (due'.trans due)
    (fun k => ?_) (fun r => ?_)
  · rw [State.isLatched, offerMessage_oau]
    exact id
  · rw [State.holds, offerMessage_ysu]
    rfl

theorem beginWrite (s : State) : Signals s (beginWrite s) :=
  ofSame (by simp) (by simp) (by simp) (by simp) fun r => by rw [State.holds, beginWrite_ysu]; rfl

/-! ## The accounts (R153, R161 to R168) -/

theorem closePeriod (n : Nat) (cause : CloseCause) (next : Nat) (s : State) : Signals s (closePeriod n cause next s) := by
  have taken : Signals s (takeMeters s) := ofSame rfl rfl rfl rfl fun _ => rfl
  have balanced : ∀ q : State, Signals q (judgeBalance q) := fun q => by
    unfold judgeBalance
    split
    · exact ofLatches (.latch _ q)
    · exact refl q
  have opened : ∀ q p : State, Signals q (openNext n cause next p q) := fun q p => ofSame rfl rfl rfl rfl fun _ => rfl
  rw [closePeriod_eq]
  exact taken.trans ((balanced _).trans ((offerMessage _ _).trans ((opened _ _).trans ((trigger _).trans (beginWrite _)))))

theorem passMinutes (minutes : List Nat) (s : State) : Signals s (passMinutes minutes s) := by
  have served : ∀ b, Signals s (servedAs b s) := fun b => ofSame rfl rfl rfl rfl fun _ => rfl
  have closes : ∀ (q : State) (due : List Nat), Signals q
      (match q.acu.period.number with
        | some n => if due.isEmpty then q else Machine.closePeriod n .ownBoundary (nextPeriod n) q
        | none => q) := fun q due => by
    split
    · split
      · exact refl q
      · exact closePeriod _ _ _ q
    · exact refl q
  unfold Machine.passMinutes
  split
  · exact refl s
  · refine trans ?_ (closes _ _)
    split
    · split
      · exact served none
      · exact refl s
    · exact refl s

theorem jumpBack (s : State) : Signals s (jumpBack s) := by
  obtain ⟨b, frame⟩ := jumpBack_frame s
  rw [frame]
  exact ofSame rfl rfl rfl rfl fun _ => rfl

theorem peerPeriod (p : Nat) (s : State) : Signals s (peerPeriod p s) := by
  unfold Machine.peerPeriod
  split
  · exact refl s
  · split
    · exact ofSame rfl rfl rfl rfl fun _ => rfl
    · split
      · exact closePeriod _ _ _ s
      · exact refl s

/-! ## The settling of the role set (R108) -/

/-- A role set that is another is handed on with a report trigger (R88, R108). -/
theorem triggeredAt_handOn {q : State} (working : q.working = true) (other : sameRoles old q = false) :
    triggeredAt q.intervalMs (handOn old q) := by
  have fired : ∀ m : Mvc, triggeredAt q.intervalMs (Machine.trigger { q with mvc := m }) := fun m => by
    have on : ({ q with mvc := m } : State).working = true := working
    unfold Machine.trigger
    rw [if_pos on]
    exact ⟨rfl, rfl⟩
  unfold handOn
  rw [if_neg (by simp [other])]
  exact fired _

/-- A role set chosen in `q` and handed on against that of `old`: the roles that `old` held are those of `s`, and the work that
led to `q` is known but for the roles. -/
theorem settleFrom {q : State} (work : Signals s { q with ysu := s.ysu }) (roles : ∀ r, old.holds r = s.holds r) :
    Signals s (settleFrom old q) := fun works => by
  have chosen : (chooseRoles q).yli = q.yli ∧ (chooseRoles q).plug = q.plug ∧ (chooseRoles q).station = q.station := by simp
  obtain ⟨yli, plug, station⟩ := chosen
  have working : q.working = true := by
    rw [State.working, settleFrom_station] at works
    exact works
  have began := work working
  have plug' : q.plug = s.plug := began.plug
  have oau : (Machine.settleFrom old q).oau = q.oau := settleFrom_oau old q
  have line := settleFrom_yli old q
  have held := fun r => settleFrom_holds old r q
  have tx : (Machine.settleFrom old q).yli.tx = q.yli.tx := by rw [settleFrom_yli_frame]
  have interval : (chooseRoles q).intervalMs = s.intervalMs := interval_of_plug (plug.trans plug')
  have on : (chooseRoles q).working = true := by rw [State.working, station]; exact working
  have fires : sameRoles old (chooseRoles q) = false → triggeredAt s.intervalMs (Machine.settleFrom old q) := fun other => by
    rw [triggeredAt, line, ← interval]
    exact triggeredAt_handOn on other
  have keeps : triggeredAt s.intervalMs { q with ysu := s.ysu } →
      triggeredAt s.intervalMs (Machine.settleFrom old q) := fun now => by
    cases same : sameRoles old (chooseRoles q) with
    | false => exact fires same
    | true =>
      unfold triggeredAt at now ⊢
      rw [line, handOn_yli_of_same same, yli]
      exact now
  refine ⟨began.working, (settleFrom_plug old q).trans plug', fun sends => tx.trans (began.tx sends),
    fun now => keeps (began.stands now), fun k off on => keeps (began.latched k off ?_), fun r moved => fires (Bool.eq_false_iff.2 fun same => moved ?_)⟩
  · rw [State.isLatched, oau] at on
    exact on
  · obtain ⟨take, give⟩ := (sameRoles_iff _ _).1 same
    rw [held, ← roles]
    cases r with
    | take => exact take
    | give => exact give

theorem settle (s : State) : Signals s (settle s) := settleFrom (refl s) fun _ => rfl

/-- The work of a record, its write begun (R4, R184). -/
theorem workRecord (b : State) : Signals b (workRecord b) :=
  (ofLatches (.recordGraded b)).trans ((settle _).trans (beginWrite _))

end Signals

end Sys2Proof.Machine

end

/-! A REPORT that is due when an event's work is done is in the queue, or has just begun, at its end (R81, R82, R88, R89). -/

section

namespace Sys2Proof.Machine

/-! ## The REPORT in the queue (R81) -/

/-- The REPORT of a state. -/
def reportOf (s : State) : Message := { kind := .report, body := reportBody s }

/-- A REPORT offered is in the queue: in the place of an older one, or at the tail (R81). -/
theorem offerReport_queue (b : List Byte) (y : Yli) : let m : Message := { kind := .report, body := b }
    m ∈ (y.offerReport b).queue ∧
    (y.reportQueued = true → (y.offerReport b).queue.length = y.queue.length) ∧
    (y.reportQueued = false → (y.offerReport b).queue = y.queue ++ [m]) := by
  unfold Yli.offerReport
  cases queued : y.reportQueued with
  | true =>
    obtain ⟨old, among, report⟩ := List.any_eq_true.1 queued
    refine ⟨List.mem_map.2 ⟨old, among, if_pos report⟩, fun _ => List.length_map _, fun off => by cases off⟩
  | false => exact ⟨List.mem_append_right _ (List.mem_singleton.2 rfl), fun on => (by cases on), fun _ => rfl⟩

theorem offerReport_queue_congr {b : List Byte} {y z : Yli} (queue : y.queue = z.queue) :
    (y.offerReport b).queue = (z.offerReport b).queue := by
  unfold Yli.offerReport Yli.reportQueued
  dsimp only
  rw [queue]
  split <;> rfl

theorem flushed_of_due {s : State} (due : s.yli.reportDue = true) :
    (flushed s).yli.queue = (s.yli.offerReport (reportBody s)).queue := by
  unfold flushed flushReport
  rw [if_pos due]

/-- The line is nothing that a REPORT carries (R89). -/
theorem reportBody_of_line {s t : State} (frame : t = { s with yli := t.yli }) : reportBody t = reportBody s := by
  rw [frame]
  rfl

/-- A report trigger that has been worked when an event's work is done is reported at its end (R88). -/
theorem reported_finish {s q : State} (fired : triggeredAt s.intervalMs q) (tx : s.yli.tx = .sending → q.yli.tx = .sending) :
    reported s (finish q) := by
  obtain ⟨due, timer⟩ := fired
  have body : reportBody (finish q) = reportBody q := reportBody_of_line (finish_frame q)
  have queued : reportOf q ∈ (flushed q).yli.queue := by
    rw [flushed_of_due due]
    exact (offerReport_queue (reportBody q) q.yli).1
  have sends : (flushed q).yli.tx = q.yli.tx := by rw [(flushed_frame q).1]
  refine ⟨(finish_reportTimer q).trans timer, ?_⟩
  have own : (reportOf q).kind = .report ∧ ((finish q).acu.list = s.acu.list → (reportOf q).body = reportBody (finish q)) :=
    ⟨rfl, fun _ => body.symm⟩
  rw [finish_eq] at own ⊢
  rcases txSettle_cases (flushed q) with still | ⟨waits, -⟩ | ⟨m, rest, head, -, ready, began⟩
  · rw [still] at own ⊢
    exact .inl ⟨_, queued, own⟩
  · rw [waits] at own ⊢
    exact .inl ⟨_, queued, own⟩
  · rw [began] at own ⊢
    rw [head, List.mem_cons] at queued
    rcases queued with first | later
    · refine .inr ⟨fun was => ?_, rfl, _, Option.mem_def.2 rfl, first ▸ own⟩
      rw [sends, tx was] at ready
      simp at ready
    · exact .inl ⟨_, later, own⟩

/-! ## The ends of the commands -/

/-- At the end of a command in LISTEN and RUN, a changed role set and a newly latched kind have been reported (R88, R108,
R177). -/
structure Reports (s t : State) : Prop where
  roles : t.working = true → t.holdsTake ≠ s.holdsTake ∨ t.holdsGive ≠ s.holdsGive → reported s t
  latched : t.working = true → ∀ k, s.isLatched k = false → t.isLatched k = true → reported s t

namespace Reports

variable {s q t : State}

theorem finish (h : Signals s q) : Reports s (finish q) := by
  have works : (Machine.finish q).working = true → q.working = true := fun on => by
    rw [State.working, finish_station] at on
    exact on
  have holds : ∀ r, (Machine.finish q).holds r = q.holds r := fun r => by rw [State.holds, finish_ysu]; rfl
  have latches : ∀ k, (Machine.finish q).isLatched k = q.isLatched k := fun k => by rw [State.isLatched, finish_oau]; rfl
  have take := holds .take
  have give := holds .give
  rw [holds_take, holds_take] at take
  rw [holds_give, holds_give] at give
  refine ⟨fun on moved => ?_, fun on k off now => ?_⟩
  · have began := h (works on)
    rw [take, give] at moved
    refine reported_finish ?_ began.tx
    rcases moved with moved | moved
    · exact began.roles .take (by rw [holds_take, holds_take]; exact moved)
    · exact began.roles .give (by rw [holds_give, holds_give]; exact moved)
  · have began := h (works on)
    rw [latches] at now
    exact reported_finish (began.latched k off now) began.tx

/-- A command that moves no role and latches no kind. -/
theorem quiet (roles : ∀ r, t.holds r = s.holds r) (latched : ∀ k, t.isLatched k = true → s.isLatched k = true) :
    Reports s t := by
  have take := roles .take
  have give := roles .give
  rw [holds_take, holds_take] at take
  rw [holds_give, holds_give] at give
  refine ⟨fun _ moved => ?_, fun _ k off on => absurd (off.symm.trans (latched k on)) (by decide)⟩
  rcases moved with moved | moved
  · exact absurd take moved
  · exact absurd give moved

theorem same (ysu : t.ysu = s.ysu) (oau : t.oau = s.oau) : Reports s t :=
  quiet (fun r => by rw [State.holds, ysu]; rfl) fun k => by rw [State.isLatched, oau]; exact id

theorem refl (s : State) : Reports s s := same rfl rfl

theorem ofStopped (stopped : t.working = false) : Reports s t :=
  ⟨fun on => (by rw [stopped] at on; cases on), fun on => (by rw [stopped] at on; cases on)⟩

/-- A command's work that latches no kind and moves no role, at the end of its event. -/
theorem finish_quiet (roles : ∀ r, q.holds r = s.holds r) (latched : ∀ k, q.isLatched k = true → s.isLatched k = true) :
    Reports s (Machine.finish q) := by
  refine quiet (fun r => ?_) fun k on => latched k ?_
  · rw [State.holds, finish_ysu]
    exact roles r
  · rw [State.isLatched, finish_oau] at on
    exact on

theorem powered {f : State → State} (h : Reports s (f s)) : Reports s (powered f s) := by
  unfold Machine.powered
  split
  · exact h
  · exact refl s

end Reports

/-! ## The report timer's own command (R88) -/

theorem exec_reportTimerExpiry {s : State} (supply : s.supply = true) (working : s.working = true)
    (timer : s.yli.reportTimer.isSome = true) : exec .reportTimerExpiry s = .next (finish (trigger s)) := by
  show Host.Outcome.next _ = _
  rw [powered_of_supply supply, reportExpired, if_pos ⟨working, timer⟩]

/-- A REPORT queued at the expiry of the report timer (R81, R88, R89). -/
theorem reportTimer_queues {s : State} (working : s.working = true) : let t := finish (trigger s)
    lineFrame s t ∧ t.yli.reportTimer = some s.intervalMs ∧
    (nothingBegins s → reportOf s ∈ t.yli.queue ∧ (s.yli.reportQueued = true → t.yli.queue.length = s.yli.queue.length) ∧
      (s.yli.reportQueued = false → t.yli.queue = s.yli.queue ++ [reportOf s])) ∧
    (s.yli.line = .idle → s.yli.tx = .standby → s.yli.quiet = false → s.yli.queue = [] →
      t.yli.tx = .sending ∧ t.yli.queue = [] ∧ t.yli.inFlight = some { msg := reportOf s, discard := false }) := by
  obtain ⟨q, hq⟩ : ∃ q : State, q = { s with
    yli := { s.yli with reportDue := true, reportTimer := some s.intervalMs } } := ⟨_, rfl⟩
  have fired : trigger s = q := by rw [hq]; exact if_pos working
  have due : q.yli.reportDue = true := by rw [hq]
  have body : reportBody q = reportBody s := reportBody_of_line (by rw [hq])
  have queue := flushed_of_due due
  obtain ⟨flush, -⟩ := flushed_frame q
  have line : (flushed q).yli.line = s.yli.line ∧ (flushed q).yli.tx = s.yli.tx ∧ (flushed q).yli.quiet = s.yli.quiet := by
    rw [flush, hq]
    exact ⟨rfl, rfl, rfl⟩
  have frame : finish q = { q with yli := (finish q).yli } := finish_frame q
  rw [body] at queue
  have offered := offerReport_queue (reportBody s) s.yli
  have same : (q.yli.offerReport (reportBody s)).queue = (s.yli.offerReport (reportBody s)).queue :=
    offerReport_queue_congr (by rw [hq])
  rw [same] at queue
  obtain ⟨line', tx, quiet⟩ := line
  rw [fired]
  refine ⟨?_, (finish_reportTimer q).trans (by rw [hq]), fun nothing => ?_, fun idle standby talk empty => ?_⟩
  · rw [lineFrame, frame, hq]
  · have stands : nothingBegins (flushed q) := by
      unfold nothingBegins
      rw [line', tx, quiet]
      exact nothing
    rw [finish_eq, (txSettle_of_nothingBegins stands).1, queue]
    exact offered
  · have none_ : s.yli.reportQueued = false := by rw [Yli.reportQueued, empty]; rfl
    have head : (flushed q).yli.queue = reportOf s :: [] := by rw [queue, offered.2.2 none_, empty]; rfl
    have onLine : (flushed q).onLine = true := by
      refine onLine_of_working ?_
      rw [State.working, flush, hq]
      exact working
    rw [finish_eq, txSettle_of_standby_idle (tx.trans standby) (line'.trans idle) head (quiet.trans talk) onLine]
    exact ⟨rfl, rfl, rfl⟩

/-! ## What a REPORT carries (R89, 11.2) -/

/-- The REPORT's fields and bits, each of the figure of the state. -/
theorem reportBody_carries (s : State) :
    let b := reportBody s
    let r := s.srk.record
    b.length = 24 ∧ fieldAt b 0 2 = s.acu.period.number.getD 0 % 65536 ∧ fieldAt b 2 2 = s.ini.minute % 65536 ∧
    bitAt b 4 0 = s.holdsTake ∧ bitAt b 4 1 = s.holdsGive ∧ bitAt b 4 2 = s.ysu.take.able ∧
    bitAt b 4 3 = s.ysu.give.able ∧ fieldAt b 4 1 < 16 ∧
    bitAt b 5 0 = s.mvc.turnoverDue ∧ (bitAt b 5 1 = true ↔ s.ysu.order ≠ .auto) ∧
    (bitAt b 5 2 = true ↔ s.ini.key = .outOfService) ∧ bitAt b 5 3 = s.isCurrent .alone ∧
    bitAt b 5 4 = s.ini.synced ∧ fieldAt b 5 1 < 32 ∧
    fieldAt b 6 3 = r.stock % 16777216 ∧ fieldAt b 9 2 = r.perMille % 65536 ∧
    fieldAt b 11 1 = r.status.code ∧ fieldAt b 12 1 = s.mvc.motion.code ∧
    fieldAt b 13 1 = r.liftsByHeight % 256 ∧ fieldAt b 14 2 = r.gaugeUsed % 65536 ∧
    fieldAt b 16 2 = s.mvc.cycles % 65536 ∧ fieldAt b 18 2 = s.pgv.opening % 65536 ∧
    fieldAt b 20 2 = s.acu.rate % 65536 ∧ fieldAt b 22 2 = s.oau.latched.toNat ∧
    (∀ k, s.isLatched k = (fieldAt b 22 2).testBit k.bit) := by
  obtain ⟨⟨number, minute, roles, flags, stock⟩, ⟨perMille, status, motion, lifts, gauge⟩, cycles, opening, rate, latched⟩ :=
    reportBody_fields s
  obtain ⟨take, give, ableTake, ableGive, rolesBelow⟩ := reportRoles_bits s
  obtain ⟨due, order, key, alone, synced, flagsBelow⟩ := reportFlags_bits s
  have length := length_reportBody s
  intro b r
  unfold bitAt
  rw [roles, flags, latched]
  exact ⟨length, number, minute, take, give, ableTake, ableGive, rolesBelow, due, order, key, alone, synced, flagsBelow, stock,
    perMille, status, motion, lifts, gauge, cycles, opening, rate, rfl, fun k => (BitVec.testBit_toNat _).symm⟩

end Sys2Proof.Machine

end

/-! Every command reports what it signals (R88, R108, R177): the walk over the commands, and the statement. -/

section

namespace Sys2Proof.Machine

namespace Signals

variable {s t : State}

/-! ## Operations on the inputs, the timers and the line -/

theorem judgeCalls (s : State) : Signals s (judgeCalls s) :=
  ofSame (by simp) (by simp) (by simp) (by simp) fun r => by
    rw [State.holds, (judgeCalls_held_able r s).1]
    rfl

theorem ofIni (n : Ini) (s : State) : Signals s { s with ini := n } := ofSame rfl rfl rfl rfl fun _ => rfl

theorem ofCounters (c : LineCounters) (s : State) : Signals s { s with yli := { s.yli with counters := c } } :=
  ofQuiet rfl rfl id rfl rfl (fun _ => id) fun _ => rfl

theorem cease (k : AlarmKind) (s : State) : Signals s (cease k s) := ofLatches (.cease k s)

theorem followLowest (s : State) : Signals s (followLowest s) :=
  ofSame (by simp) (by simp) (by simp) (by simp) fun r => by rw [State.holds, followLowest_ysu]; rfl

theorem impulseHeard (absorb : Timer) (s : State) : Signals s (impulseHeard absorb s) := (ofIni _ s).trans (cease _ _)

theorem stepMinute (s : State) : Signals s (stepMinute s) := (ofIni _ s).trans ((passMinutes _ _).trans (judgeCalls _))

theorem judgeRun (s : State) : Signals s (judgeRun s) := by
  unfold Machine.judgeRun
  split
  · exact ofLatches (.raiseWithEntry _ _ s)
  · exact refl s

theorem judgeJump (m : Nat) (s : State) : Signals s (judgeJump m s) := by
  unfold Machine.judgeJump
  split
  · exact refl s
  · split
    · exact passMinutes _ s
    · exact jumpBack s

theorem inputReaders (i : InputId) (s : State) : Signals s (inputReaders i s) := by
  cases i with
  | crown => exact (ofLatches (.regrade s)).trans (settle _)
  | district => exact settle s
  | inletMain => exact judgeCalls s
  | gauge | gasTemp | barometer => exact refl s

theorem sampleFollowed (i : InputId) (s : State) : Signals s (sampleFollowed i s) := by
  cases i with
  | district => exact followLowest s
  | crown | gauge | inletMain | gasTemp | barometer => exact refl s

theorem changeTable (tbl : List PeerEntry) (s : State) : Signals s (changeTable tbl s) :=
  ofSame (by simp) (by simp) (by simp) (by simp) (holds_changeTable tbl s)

theorem updateRole {r : Role} {f : RoleState → RoleState} {s : State} (held : (f (s.ysu.role r)).held = (s.ysu.role r).held) :
    Signals s (updateRole r f s) := ofSame rfl rfl rfl rfl (holds_updateRole held)

/-- A change of the duty sharing unit that leaves both roles. -/
theorem ofYsu {y : Ysu} {s : State} (roles : ∀ r, (y.role r).held = (s.ysu.role r).held) : Signals s { s with ysu := y } :=
  ofSame rfl rfl rfl rfl fun r => by
    show (y.role r).held.isSome = (s.ysu.role r).held.isSome
    rw [roles]

theorem emptyLine (s : State) : Signals s (emptyLine s) := by
  have emptied : Signals s { s with yli := s.yli.emptied } :=
    ofQuiet rfl rfl (fun sends => if_pos sends) rfl rfl (fun _ => id) fun _ => rfl
  exact emptied.trans (cease _ _)

theorem lineHeard (s : State) : Signals s (lineHeard s) := by
  unfold Machine.lineHeard
  split
  · exact (ofYsu fun r => by cases r <;> rfl).trans (cease _ _)
  · exact refl s

/-! ## A start, and the entry to FAULT (R180, R186) -/

theorem start_stopped (k : StartKind) (reads : StartReadings) (s : State) : (start k reads s).working = false := by
  rcases start_cases k reads s with fresh | ⟨q, -, fault⟩
  · rw [State.working, fresh.station]
    rfl
  · rw [fault, State.working, enterFault_station]
    rfl

theorem stationRestart (reads : StartReadings) (s : State) : Signals s (stationRestart reads s) := by
  unfold Machine.stationRestart
  split
  · exact ofSame rfl rfl rfl rfl fun _ => rfl
  · exact ofStopped (start_stopped _ _ s)

/-! ## Orders and messages (R78, R79, R173, R174) -/

theorem performOrder (o : Order) (reads : StartReadings) (s : State) : Signals s (performOrder o reads s) := by
  cases o with
  | hand d =>
    show Signals s (orderHand d s)
    unfold orderHand
    exact (ofYsu fun r => by cases r <;> rfl).trans ((ofLatches (.makeEntry _ _)).trans (settle _))
  | auto =>
    show Signals s (orderAuto s)
    unfold orderAuto
    exact (ofYsu fun r => by cases r <;> rfl).trans ((ofLatches (.makeEntry _ _)).trans (settle _))
  | accept =>
    refine ofQuiet rfl rfl id rfl rfl (fun k on => ?_) fun _ => rfl
    have both : (hasAlarm s.oau.latched k && hasAlarm s.oau.current k) = true := (hasAlarm_and _ _ k).symm.trans on
    exact (Bool.and_eq_true _ _ ▸ both).1
  | restart => exact stationRestart reads s
  | lineReset =>
    show Signals s (orderLineReset s)
    unfold orderLineReset
    have cleared : ∀ q : State, Signals q { q with
        yli := { q.yli with counters := .zero }, ysu := { q.ysu with relearn := some (2 * q.intervalMs) } } := fun q =>
      ofQuiet rfl rfl id rfl rfl (fun _ => id) fun r => by cases r <;> rfl
    exact (emptyLine s).trans ((cleared _).trans ((changeTable _ _).trans (settle _)))
  | quiet =>
    show Signals s (orderQuiet s)
    unfold orderQuiet
    split
    · next rests =>
      refine ofQuiet rfl rfl (fun sends => ?_) rfl rfl (fun _ => id) fun _ => rfl
      rw [sends] at rests
      rcases rests with h | h <;> cases h
    · exact ofQuiet rfl rfl id rfl rfl (fun _ => id) fun _ => rfl
  | talk => exact ofQuiet rfl rfl id rfl rfl (fun _ => id) fun _ => rfl
  | accountRequest p => exact offerMessage _ s
  | statusRequest => exact offerMessage _ s

theorem judgeOrder (a : Address) (o : Order) (reads : StartReadings) (s : State) : Signals s (judgeOrder a o reads s) := by
  unfold Machine.judgeOrder
  split
  · split
    · exact performOrder o reads s
    · exact ofCounters _ s
  · exact refl s

theorem reportArrival (peer : Nat) (body : List Byte) (s : State) : Signals s (reportArrival peer body s) := by
  unfold Machine.reportArrival
  split
  · unfold numberClash
    exact (ofYsu fun r => by cases r <;> rfl).trans ((ofLatches (.raiseWithEntry _ _ _)).trans (settle _))
  · exact (changeTable _ s).trans ((peerPeriod _ _).trans (settle _))

theorem routeAccepted (source : Nat) (a : Address) (k : MessageKind) (body : List Byte) (reads : StartReadings) (s : State) :
    Signals s (routeAccepted source a k body reads s) := by
  unfold Machine.routeAccepted
  split
  · cases k with
    | report =>
      dsimp only
      split
      · exact reportArrival source body s
      · exact refl s
    | order => exact ofCounters _ s
    | account | status => exact refl s
  · split
    · cases k with
      | order =>
        show Signals s (takeOrderBody a body reads s)
        unfold takeOrderBody
        split
        · exact judgeOrder a _ reads s
        · exact ofCounters _ s
      | report | account | status => exact refl s
    · exact ofCounters _ s

theorem validMessage (source destination : Nat) (k : MessageKind) (body : List Byte) (reads : StartReadings) (s : State) :
    Signals s (validMessage source destination k body reads s) := by
  have routed : Signals s (routedMessage source destination k body reads s) := by
    unfold routedMessage
    split
    · exact (lineHeard s).trans (routeAccepted source _ k body reads _)
    · exact lineHeard s
  rw [validMessage_eq]
  split
  · exact routed.trans (settle _)
  · exact routed

theorem receiveFrame (chars : List LineChar) (reads : StartReadings) (s : State) : Signals s (receiveFrame chars reads s) := by
  have placed : ∀ b, Signals s (setInFrame b s) := fun b => ofQuiet rfl rfl id rfl rfl (fun _ => id) fun _ => rfl
  unfold Machine.receiveFrame
  split
  · exact placed true
  · exact (placed false).trans (ofCounters _ _)
  · exact (placed true).trans (ofCounters _ _)
  · unfold judgeClosed
    split
    · exact (placed false).trans (ofCounters _ _)
    · exact (placed false).trans (ofCounters _ _)
    · exact (placed false).trans (validMessage _ _ _ _ reads _)

end Signals

namespace Reports

variable {s : State}

/-! ## The commands of a start -/

theorem writeDone (back : ReadBack) (reads : StartReadings) (s : State) : Reports s (writeDone back reads s) := by
  have stopped : ∀ (k : StartKind) (q : State), Reports s (start k reads q) := fun k q =>
    ofStopped (Signals.start_stopped k reads q)
  unfold Machine.writeDone
  split
  · exact refl s
  · next w _ =>
    split
    · split
      · exact stopped _ _
      · have kept : Signals s (writeKept w s) := .ofSame rfl rfl rfl rfl fun _ => rfl
        refine finish (kept.trans ?_)
        have again : ∀ q : State, Signals q (writeAgain q) := fun q => by
          have begun : ∀ x : Rst, Signals q { q with rst := x } := fun _ => .ofSame rfl rfl rfl rfl fun _ => rfl
          unfold writeAgain
          split
          · exact (begun _).trans (.beginWrite _)
          · exact .refl _
        exact again _
    · split
      · exact stopped _ _
      · refine ofStopped ?_
        unfold writeFailed
        rw [State.working, finish_station, enterFault_station]
        rfl

theorem enterListen (working : s.working = true) (key : Option KeyPosition) : Reports s (enterListen key s) := by
  rw [Machine.enterListen, if_neg]
  · exact refl s
  · rintro ⟨start, -⟩
    rw [State.working, start] at working
    cases working

theorem listenExpired (s : State) : Reports s (listenExpired s) := by
  unfold Machine.listenExpired
  split
  · next ready =>
    rw [enterRun_eq]
    have on : s.working = true := by rw [State.working, ready.1]; rfl
    have begun : Signals s { running s with ysu := s.ysu } := fun _ =>
      ⟨on, rfl, id, id, fun k off now => absurd (off.symm.trans now) (by decide), fun r moved => absurd rfl moved⟩
    exact finish (.settleFrom begun fun _ => rfl)
  · exact refl s

theorem reckonExpired (s : State) : Reports s (reckonExpired s) := by
  unfold Machine.reckonExpired
  split
  · have begun : Signals s (reckoningBegun s) := .ofSame rfl rfl rfl rfl fun _ => rfl
    exact finish (begun.trans (.workRecord _))
  · exact refl s

/-! ## The instruments -/

theorem sampleInput (i : InputId) (x : Int) (s : State) : Reports s (sampleInput i x s) := by
  rw [sampleInput_eq]
  exact finish ((Signals.ofIni _ s).trans ((Signals.sampleFollowed i _).trans (.inputReaders i _)))

theorem holdExpired (i : InputId) (s : State) : Reports s (holdExpired i s) := by
  unfold Machine.holdExpired
  split
  · exact finish ((Signals.ofIni _ s).trans (.inputReaders i _))
  · exact refl s

theorem countPulse (m : Side) (s : State) : Reports s (countPulse m s) := by
  unfold Machine.countPulse
  split
  · cases m <;> exact same rfl rfl
  · exact refl s

theorem minuteImpulse (s : State) : Reports s (minuteImpulse s) := by
  unfold Machine.minuteImpulse
  split
  · split
    · exact finish (.impulseHeard none s)
    · exact finish ((Signals.impulseHeard none s).trans (.stepMinute _))
  · exact refl s

theorem selfCount (s : State) : Reports s (selfCount s) := by
  unfold Machine.selfCount
  split
  · exact finish ((Signals.ofIni _ s).trans ((Signals.stepMinute _).trans (.judgeRun _)))
  · exact refl s

theorem synchronise (s : State) : Reports s (synchronise s) := by
  unfold Machine.synchronise
  split
  · exact finish ((Signals.impulseHeard _ s).trans ((Signals.ofIni _ _).trans ((Signals.judgeJump _ _).trans (.judgeCalls _))))
  · exact refl s

theorem takeKey (p : KeyPosition) (s : State) : Reports s (takeKey p s) := by
  unfold Machine.takeKey
  split
  · exact same rfl rfl
  · split
    · exact refl s
    · have turned : Signals s (changeKey p s) := by
        unfold changeKey
        have placed : ∀ (n : Ini) (y : Ysu), (∀ r, (y.role r).held = (s.ysu.role r).held) →
            Signals s { s with ini := n, ysu := y } := fun n y roles => (Signals.ofIni n s).trans (.ofYsu roles)
        exact (placed _ _ fun r => by cases r <;> rfl).trans ((Signals.ofLatches (.makeEntry _ _)).trans (.settle _))
      exact finish turned

theorem pressButton (s : State) : Reports s (if s.ini.button then s else Machine.powered pressButton (closeButton s)) := by
  have accepted : ∀ k, hasAlarm (s.oau.latched &&& s.oau.current) k = true → hasAlarm s.oau.latched k = true := fun k on => by
    rw [hasAlarm_and, Bool.and_eq_true] at on
    exact on.1
  split
  · exact refl s
  · unfold Machine.powered
    split
    · exact quiet (fun _ => rfl) accepted
    · exact same rfl rfl

theorem buttonHeld (reads : StartReadings) (s : State) : Reports s (buttonHeld reads s) := by
  unfold Machine.buttonHeld Machine.stationRestart
  split
  · split
    · exact same rfl rfl
    · exact ofStopped (Signals.start_stopped _ _ _)
  · exact refl s

theorem endSwitch (v : Side) (e : SwitchEnd) (made : Bool) (s : State) : Reports s (endSwitch v e made s) := by
  unfold Machine.endSwitch
  split
  · exact refl s
  · unfold Machine.powered
    split
    · exact finish ((Signals.ofIni _ s).trans ((Signals.ofLatches (.putDrive _ _ _)).trans (.settle _)))
    · exact same rfl rfl

theorem travelExpired (v : Side) (s : State) : Reports s (travelExpired v s) := by
  unfold Machine.travelExpired
  split
  · exact finish ((Signals.ofLatches (.putDrive _ _ s)).trans (.settle _))
  · exact refl s

/-! ## The line -/

theorem lineFellIdle (openTaken : Bool) (s : State) : Reports s (lineFellIdle openTaken s) := by
  unfold Machine.lineFellIdle
  split
  · exact refl s
  · dsimp only
    split
    · exact finish_quiet (fun _ => rfl) fun _ => id
    · exact finish_quiet (fun _ => rfl) fun _ => id

/-- What a frame's end leaves of the roles and of the latched set. -/
theorem finish_afterFrame {q : State} (ysu : q.ysu = s.ysu) (latched : q.oau.latched = s.oau.latched) :
    Reports s (Machine.finish (afterFrame q)) := by
  rw [afterFrame_frame]
  refine finish_quiet (fun r => ?_) fun k on => ?_
  · rw [State.holds, State.holds]
    dsimp only
    rw [ysu]
  · rw [State.isLatched, ← latched]
    exact on

theorem frameDone (s : State) : Reports s (frameDone s) := by
  unfold Machine.frameDone completeFrame
  split
  · split
    · exact finish_afterFrame rfl rfl
    · exact finish (.refl s)
  · exact refl s

theorem frameCollided (s : State) : Reports s (frameCollided s) := by
  unfold Machine.frameCollided collide
  split
  · split
    · dsimp only
      split
      · exact finish_afterFrame rfl rfl
      · split
        · exact finish_afterFrame rfl rfl
        · exact finish_quiet (fun _ => rfl) fun _ => id
    · exact finish (.refl s)
  · exact refl s

theorem backOffExpired (s : State) : Reports s (backOffExpired s) := by
  unfold Machine.backOffExpired
  split
  · exact finish_afterFrame rfl rfl
  · exact refl s

theorem blockedExpired (s : State) : Reports s (blockedExpired s) := by
  unfold Machine.blockedExpired
  split
  · have stopped : Signals s { s with yli := { s.yli with blocked := none } } :=
      .ofQuiet rfl rfl id rfl rfl (fun _ => id) fun _ => rfl
    exact finish (stopped.trans (.ofLatches (.raise _ _)))
  · exact refl s

theorem reportExpired (s : State) : Reports s (reportExpired s) := by
  unfold Machine.reportExpired
  split
  · exact finish (.trigger s)
  · exact refl s

theorem frameHeard (chars : List LineChar) (reads : StartReadings) (s : State) : Reports s (frameHeard chars reads s) := by
  unfold Machine.frameHeard
  split
  · exact finish (.receiveFrame chars reads s)
  · exact refl s

/-! ## Duty sharing -/

theorem staleExpired (n : Nat) (s : State) : Reports s (staleExpired n s) := by
  unfold Machine.staleExpired
  split
  · exact finish ((Signals.changeTable _ s).trans (.settle _))
  · exact refl s

theorem removalExpired (n : Nat) (s : State) : Reports s (removalExpired n s) := by
  unfold Machine.removalExpired
  split
  · exact finish ((Signals.changeTable _ s).trans (.settle _))
  · exact refl s

theorem clashExpired (s : State) : Reports s (clashExpired s) := by
  unfold Machine.clashExpired
  split
  · exact finish ((Signals.ofYsu fun r => by cases r <;> rfl).trans ((Signals.cease _ _).trans (.settle _)))
  · exact refl s

theorem silenceExpired (s : State) : Reports s (silenceExpired s) := by
  unfold Machine.silenceExpired
  split
  · have raised : ∀ k e (q : State), Signals q (raiseWithEntry k e q) := fun k e q => .ofLatches (.raiseWithEntry k e q)
    exact finish ((Signals.ofYsu fun r => by cases r <;> rfl).trans ((raised _ _ _).trans (.settle _)))
  · exact refl s

theorem callExpired (r : Role) (k : CallKind) (s : State) : Reports s (callExpired r k s) := by
  unfold Machine.callExpired
  split
  · exact finish ((Signals.updateRole (by cases k <;> rfl)).trans (.settle _))
  · exact refl s

/-- The join at the end of a delay is handed on against the roles that the event found (R108, R121). -/
theorem delayExpired (r : Role) (s : State) : Reports s (delayExpired r s) := by
  unfold Machine.delayExpired
  split
  · have work : Signals s { endDelay r s with ysu := s.ysu } := by
      unfold endDelay
      dsimp only
      split <;> exact .ofSame rfl rfl rfl rfl fun _ => rfl
    exact finish (.settleFrom work fun _ => rfl)
  · exact refl s

theorem dwellExpired (r : Role) (s : State) : Reports s (dwellExpired r s) := by
  unfold Machine.dwellExpired
  split
  · exact finish ((Signals.updateRole rfl).trans (.settle _))
  · exact refl s

theorem relearnExpired (s : State) : Reports s (relearnExpired s) := by
  unfold Machine.relearnExpired
  split
  · exact finish ((Signals.ofYsu fun r => by cases r <;> rfl).trans (.settle _))
  · exact refl s

theorem stepExpired (s : State) : Reports s (stepExpired s) := by
  unfold Machine.stepExpired
  split
  · have stepped : ∀ p : Pgv, Signals s (governorStep { s with pgv := p }) := fun p => .ofSame rfl rfl rfl rfl fun _ => rfl
    exact finish ((stepped _).trans (.judgeCalls _))
  · exact refl s

theorem orderHanded (a : Address) (o : Order) (reads : StartReadings) (s : State) : Reports s (orderHanded a o reads s) :=
  finish (.judgeOrder a o reads s)

theorem loseSupply (s : State) : Reports s (loseSupply s) := by
  unfold Machine.loseSupply
  rw [tearWrite_frame]
  exact same rfl rfl

/-- Every command in LISTEN and RUN. -/
theorem leaves (c : Instr) {s : State} (working : s.working = true) : Reports s (leaves c s) := by
  cases c with
  | powerOn r => exact ofStopped (Signals.start_stopped _ r _)
  | entryToListen key => exact powered (enterListen working key)
  | listenTimerExpiry => exact powered (listenExpired s)
  | retainedWriteComplete back r => exact powered (writeDone back r s)
  | inputSample i x => exact powered (sampleInput i x s)
  | holdTimerExpiry i => exact powered (holdExpired i s)
  | meterPulse m => exact powered (countPulse m s)
  | minuteImpulse => exact powered (minuteImpulse s)
  | impulseTimerExpiry => exact powered (selfCount s)
  | absorbWindowExpiry => exact powered (same rfl rfl)
  | synchronisingImpulse => exact powered (synchronise s)
  | keyPositionTaken p => exact powered (takeKey p s)
  | acceptButtonPress => exact pressButton s
  | acceptButtonHeld r => exact powered (buttonHeld r s)
  | endSwitchChange v e m => exact endSwitch v e m s
  | travelTimerExpiry v => exact powered (travelExpired v s)
  | reckoning => exact powered (reckonExpired s)
  | carrierOnLine => exact powered (same rfl rfl)
  | lineIdle b => exact powered (lineFellIdle b s)
  | frameReceived chars r => exact powered (frameHeard chars r s)
  | frameCompletion => exact powered (frameDone s)
  | collision => exact powered (frameCollided s)
  | backOffTimerExpiry => exact powered (backOffExpired s)
  | blockedTimerExpiry => exact powered (blockedExpired s)
  | reportTimerExpiry => exact powered (reportExpired s)
  | staleExpiry n => exact powered (staleExpired n s)
  | removalExpiry n => exact powered (removalExpired n s)
  | clashTimerExpiry => exact powered (clashExpired s)
  | silenceTimerExpiry => exact powered (silenceExpired s)
  | callReleaseTimerExpiry r k => exact powered (callExpired r k s)
  | joinDelayExpiry r => exact powered (delayExpired r s)
  | dwellTimerExpiry r => exact powered (dwellExpired r s)
  | relearnHoldTimerExpiry => exact powered (relearnExpired s)
  | stepTimerExpiry => exact powered (stepExpired s)
  | hand a d => exact powered (orderHanded a (.hand d) noReadings s)
  | auto a => exact powered (orderHanded a .auto noReadings s)
  | accept a => exact powered (orderHanded a .accept noReadings s)
  | restart a r => exact powered (orderHanded a .restart r s)
  | lineReset a => exact powered (orderHanded a .lineReset noReadings s)
  | quiet a => exact powered (orderHanded a .quiet noReadings s)
  | talk a => exact powered (orderHanded a .talk noReadings s)
  | accountRequest a p => exact powered (orderHanded a (.accountRequest p) noReadings s)
  | statusRequest a => exact powered (orderHanded a .statusRequest noReadings s)
  | lossOfSupply => exact powered (loseSupply s)
  | acceptButtonRelease => exact same rfl rfl

end Reports

/-- Settles O37. -/
theorem reportTimerQueuesAReport : Obligations.ReportTimerQueuesAReport := by
  refine ⟨fun s supply working timer => ?_, fun s => ?_, fun c s supply working => ?_⟩
  · have done := exec_reportTimerExpiry supply working timer
    obtain ⟨frame, interval, queues, begins⟩ := reportTimer_queues working
    have counters : (finish (trigger s)).yli.counters = s.yli.counters := by
      rw [finish_yli_counters, trigger_yli_frame]
    exact ⟨_, done, frame, interval, queues, begins, length_reportBody s, counters⟩
  · obtain ⟨length, number, minute, take, give, ableTake, ableGive, rolesBelow, due, order, key, alone, synced, flagsBelow, stock,
      perMille, status, motion, lifts, gauge, cycles, opening, rate, latched, bits⟩ := reportBody_carries s
    exact ⟨length, number, minute, take, give, ableTake, ableGive, rolesBelow, due, order, key, alone, synced, flagsBelow, stock,
      perMille, status.trans (by cases s.srk.record.status <;> rfl), motion.trans (by cases s.mvc.motion <;> rfl), lifts, gauge,
      cycles, opening, rate, latched, bits, rfl⟩
  · obtain ⟨roles, latched⟩ := Reports.leaves c working
    exact ⟨_, exec_eq_leaves c s, roles, latched⟩

end Sys2Proof.Machine

end
